-- ==== Sys2Proof/Word.lean ====
section
/-! DEFINITION. The words the part handles: octets, card numbers, ship times, and the index types of its blocks. -/

namespace Sys2Proof

/-- One octet of the host link or of the reader bus. -/
abbrev Octet := BitVec 8

/-- A card number, 56 bits (R2, 00_scope section 5). -/
abbrev CardNo := BitVec 56

/-- A ship time: unsigned seconds, 0 to 4,294,967,295, wrapping at the top (R147). -/
abbrev ShipTime := BitVec 32

/-- A host reference: any 32-bit value (R118). -/
abbrev HostRef := BitVec 32

/-- A lock channel, 0 to 31. -/
abbrev Chan := Fin 32

/-- A power group, 0 to 3. -/
abbrev Grp := Fin 4

/-- A gangway lane, 0 to 3. -/
abbrev LaneNo := Fin 4

/-- A till, 0 to 7. -/
abbrev TillNo := Fin 8

/-- A reader by its place 0 to 47 in the reader records: the reader at bus address `r + 1` (addresses are 1 to 48). -/
abbrev ReaderNo := Fin 48

end Sys2Proof
end

