-- ==== Sys2Proof/Config.lean ====
section
/-! DEFINITION. What the part fixes (the fixed times and capacities of 00_scope section 5) and the free values. -/

namespace Sys2Proof.Config

/-- FREE VALUE, log entry 2: which of several events due at one moment is taken first when the part runs by itself. -/
opaque pick : Nat → Nat

/-- FREE VALUE, log entry 17: whether the image of a setup save reads back as written, when the part runs by itself. -/
opaque saveReadsBack : Nat → Bool

/-- FREE VALUE, log entry 27: whether the retained collections fail their check at a RESTART. -/
opaque retentionDamaged : Nat → Bool

/-- Ways of a card-table bucket. -/
def ways : Nat := 4
/-- Card-table positions (8,192). -/
def positions : Nat := 8192
/-- Folio slots (R112). -/
def folioSlots : Nat := 4096
/-- Journal places (R134). -/
def journalPlaces : Nat := 4096
/-- The last sequence a journal entry can be given (R133). -/
def lastSequence : Nat := 4294967295
/-- Alarm records (R81). -/
def alarmPlaces : Nat := 64
/-- Entries of the request queue (R177). -/
def requestPlaces : Nat := 4
/-- Replies of the busy list (R178). -/
def busyPlaces : Nat := 8
/-- Notices of the notice queue (R180). -/
def noticePlaces : Nat := 64
/-- The top of every count that saturates (R75, R82, R89, R162, R182). -/
def countTop : Nat := 65535
/-- Samples that qualify the evacuation line (R152). -/
def lineSamples : Nat := 50
/-- Samples that qualify a rail low (R77). -/
def railLowSamples : Nat := 5
/-- Samples that qualify a rail good (R77). -/
def railGoodSamples : Nat := 100
/-- The reader reply window, in ms (R161). -/
def replyWindow : Nat := 3
/-- The whole milliseconds without an octet at which more than 20 ms have passed (R175). -/
def gapMs : Nat := 21
/-- The longest time of a setup save, in ms (R195). -/
def saveMs : Nat := 250
/-- Milliseconds of a second and of a minute. -/
def secondMs : Nat := 1000
/-- Milliseconds between minute ticks (R150). -/
def minuteMs : Nat := 60000
/-- The idle minutes' top (R18). -/
def idleTop : Nat := 1440
/-- The start octet of a host link frame (R184). -/
def startOctet : Octet := 0xC3
/-- The part code (R181). -/
def partCode : Nat := 0x4832
/-- The revision (R181). -/
def revision : Nat := 0x01
/-- The top of the bus round count (R166). -/
def roundTop : Nat := 65535

end Sys2Proof.Config
end

