-- ==== Sys2Proof/Syntax.lean ====
section
/-! DEFINITION. The commands of the part: one constructor for each row of spec/opcode_table.json. A host request carries its
tag and its body octets (R176, R184); an event carries where it happens and what it brings. -/

namespace Sys2Proof

/-- What has become of the setup store's image since it was last loaded or written, as the load of a start finds it (R196). -/
inductive StoreDamage where
  /-- Nothing. -/
  | none
  /-- One bit has gone wrong. -/
  | oneBit
  /-- More has gone wrong. -/
  | uncorrectable
deriving DecidableEq, Repr

/-- The commands of the part, in the order of spec/opcode_table.json. -/
inductive Instr where
  | cardPut (tag : Octet) (body : List Octet)
  | cardGet (tag : Octet) (body : List Octet)
  | cardDelete (tag : Octet) (body : List Octet)
  | cardStatus (tag : Octet) (body : List Octet)
  | cardRefuse (tag : Octet) (body : List Octet)
  | presenceSet (tag : Octet) (body : List Octet)
  | tallyGet (tag : Octet) (body : List Octet)
  | ashoreList (tag : Octet) (body : List Octet)
  | channelOpen (tag : Octet) (body : List Octet)
  | channelLockout (tag : Octet) (body : List Octet)
  | channelStatus (tag : Octet) (body : List Octet)
  | faultRead (tag : Octet) (body : List Octet)
  | alarmList (tag : Octet) (body : List Octet)
  | alarmClear (tag : Octet) (body : List Octet)
  | alarmEnable (tag : Octet) (body : List Octet)
  | laneOpen (tag : Octet) (body : List Octet)
  | laneClose (tag : Octet) (body : List Octet)
  | laneStatus (tag : Octet) (body : List Octet)
  | deadlineSet (tag : Octet) (body : List Octet)
  | deadlineClear (tag : Octet) (body : List Octet)
  | deadlineGet (tag : Octet) (body : List Octet)
  | folioPut (tag : Octet) (body : List Octet)
  | folioGet (tag : Octet) (body : List Octet)
  | folioDelete (tag : Octet) (body : List Octet)
  | chargeOpen (tag : Octet) (body : List Octet)
  | chargeCancel (tag : Octet) (body : List Octet)
  | authAnswer (tag : Octet) (body : List Octet)
  | tillStatus (tag : Octet) (body : List Octet)
  | journalFetch (tag : Octet) (body : List Octet)
  | journalRelease (tag : Octet) (body : List Octet)
  | chargeVoid (tag : Octet) (body : List Octet)
  | leaseGrant (tag : Octet) (body : List Octet)
  | leaseEnd (tag : Octet) (body : List Octet)
  | timeSet (tag : Octet) (body : List Octet)
  | timeGet (tag : Octet) (body : List Octet)
  | evacuateSet (tag : Octet) (body : List Octet)
  | evacuateClear (tag : Octet) (body : List Octet)
  | readerStatus (tag : Octet) (body : List Octet)
  | status (tag : Octet) (body : List Octet)
  | linkStatus (tag : Octet) (body : List Octet)
  | setupReader (tag : Octet) (body : List Octet)
  | setupChannel (tag : Octet) (body : List Octet)
  | setupLane (tag : Octet) (body : List Octet)
  | setupTill (tag : Octet) (body : List Octet)
  | setupTiming (tag : Octet) (body : List Octet)
  | setupPolicy (tag : Octet) (body : List Octet)
  | setupReaderGet (tag : Octet) (body : List Octet)
  | setupChannelGet (tag : Octet) (body : List Octet)
  | setupLaneGet (tag : Octet) (body : List Octet)
  | setupTillGet (tag : Octet) (body : List Octet)
  | setupTimingGet (tag : Octet) (body : List Octet)
  | setupPolicyGet (tag : Octet) (body : List Octet)
  | setupSave (tag : Octet) (body : List Octet)
  | maintenanceEnter (tag : Octet) (body : List Octet)
  | maintenanceLeave (tag : Octet) (body : List Octet)
  | restart (tag : Octet) (body : List Octet)
  /-- A request of a kind not in use (R176). -/
  | unknownKind (kind tag : Octet) (body : List Octet)
  | hostOctetReceived (octet : Octet)
  | gapTimeout
  | hostReadyHigh
  | transmitFrameEnd
  /-- The octets of the reply to the POLL or INDICATE in flight; none of them when no reply came (R161, R167, R168). -/
  | pollExchangeEnd (reply : List Octet)
  /-- The octets of the reply to the PROBE in flight (R161, R164). -/
  | probeExchangeEnd (reply : List Octet)
  /-- The octets of the reply to the ASSIGN in flight (R161, R165). -/
  | assignExchangeEnd (reply : List Octet)
  | readerReplyWindow
  /-- The query hold of the pending entry for this card expires (R13). -/
  | queryHoldExpiry (card : CardNo)
  | repeatTimerExpiry (reader : ReaderNo)
  /-- A sample gives the bolt-withdrawn sense of a channel this level (R49, R52). -/
  | boltWithdrawnSense (c : Chan) (asserted : Bool)
  /-- A sample gives the bolt-home sense of a channel this level (R49, R55). -/
  | boltHomeSense (c : Chan) (asserted : Bool)
  | holdTimerExpiry (c : Chan)
  | relockDelayExpiry (c : Chan)
  | doorHeldExpiry (c : Chan)
  /-- The contact input of a channel qualifies at this level, high or low (R49). -/
  | contactQualified (c : Chan) (high : Bool)
  /-- The privacy input of a channel qualifies at this level, high or low (R49, R59). -/
  | privacyQualified (c : Chan) (high : Bool)
  | passageEdge (c : Chan)
  | passWindowExpiry (lane : LaneNo)
  | driveTimeout (c : Chan)
  | overcurrentQualified (c : Chan)
  | positionLost (c : Chan)
  | railUndervoltage (g : Grp)
  | railGood (g : Grp)
  | armTimerExpiry (till : TillNo)
  | answerTimerExpiry (till : TillNo)
  | leaseExpiry
  | shipTimeAdvance
  | minuteTick
  | deadlineExpired
  | evacuationLineAsserted
  | evacuationLineCleared
  /-- The save in progress ends; whether the image read back agrees with the copy (R195). -/
  | setupSaveEnd (readsBack : Bool)
  | powerUp (damage : StoreDamage)
  /-- The reset input; whether the retention check fails for a reason other than a lost marker (R197). -/
  | resetInput (damage : StoreDamage) (retentionDamaged : Bool)
  | mainSupplyLoss (damage : StoreDamage) (retentionDamaged : Bool)
  | retentionSupplyLoss
  /-- Start-up ends; whether the line was low on all of its 50 samples (R152, R198). -/
  | startUpEnd (lineLow : Bool)
deriving DecidableEq, Repr

end Sys2Proof
end

