-- ==== Sys2Proof/WellFormed.lean ====
section
/-! DEFINITION. Which commands are well formed: what a frame of the host link can carry (R184) and which kinds are not in use. -/

namespace Sys2Proof

/-- A kind octet that names a request in use: 0x01 to 0x38 (R184). -/
def requestKindInUse (kind : Octet) : Bool := 1 ≤ kind.toNat && kind.toNat ≤ 0x38

/-- A body that a frame can carry: 0 to 240 octets (R184). -/
def bodyFits (body : List Octet) : Bool := body.length ≤ 240

namespace Instr

/-- A command is well formed: the body of a request fits a frame, UNKNOWN_KIND names a kind not in use, and a reply of the
reader bus is no longer than a whole frame with the longest body its length octet can announce. -/
def WellFormed : Instr → Bool
  | cardPut _ body | cardGet _ body | cardDelete _ body | cardStatus _ body | cardRefuse _ body | presenceSet _ body
  | tallyGet _ body | ashoreList _ body | channelOpen _ body | channelLockout _ body | channelStatus _ body
  | faultRead _ body | alarmList _ body | alarmClear _ body | alarmEnable _ body | laneOpen _ body | laneClose _ body
  | laneStatus _ body | deadlineSet _ body | deadlineClear _ body | deadlineGet _ body | folioPut _ body
  | folioGet _ body | folioDelete _ body | chargeOpen _ body | chargeCancel _ body | authAnswer _ body
  | tillStatus _ body | journalFetch _ body | journalRelease _ body | chargeVoid _ body | leaseGrant _ body
  | leaseEnd _ body | timeSet _ body | timeGet _ body | evacuateSet _ body | evacuateClear _ body | readerStatus _ body
  | status _ body | linkStatus _ body | setupReader _ body | setupChannel _ body | setupLane _ body | setupTill _ body
  | setupTiming _ body | setupPolicy _ body | setupReaderGet _ body | setupChannelGet _ body | setupLaneGet _ body
  | setupTillGet _ body | setupTimingGet _ body | setupPolicyGet _ body | setupSave _ body | maintenanceEnter _ body
  | maintenanceLeave _ body | restart _ body => bodyFits body
  | unknownKind kind _ body => !requestKindInUse kind && bodyFits body
  | pollExchangeEnd reply | probeExchangeEnd reply | assignExchangeEnd reply => reply.length ≤ 259
  | hostOctetReceived _ | gapTimeout | hostReadyHigh | transmitFrameEnd | readerReplyWindow | queryHoldExpiry _
  | repeatTimerExpiry _ | boltWithdrawnSense _ _ | boltHomeSense _ _ | holdTimerExpiry _ | relockDelayExpiry _
  | doorHeldExpiry _ | contactQualified _ _ | privacyQualified _ _ | passageEdge _ | passWindowExpiry _ | driveTimeout _
  | overcurrentQualified _ | positionLost _ | railUndervoltage _ | railGood _ | armTimerExpiry _ | answerTimerExpiry _
  | leaseExpiry | shipTimeAdvance | minuteTick | deadlineExpired | evacuationLineAsserted | evacuationLineCleared
  | setupSaveEnd _ | powerUp _ | resetInput _ _ | mainSupplyLoss _ _ | retentionSupplyLoss | startUpEnd _ => true

end Instr

end Sys2Proof
end

