-- ==== Sys2Proof/Decode.lean ====
section
/-! DEFINITION. The command that a word spells by the table's bits. spec/opcode_table.json gives no row any bits (every
"fields" is empty and no row has "fixed"), so no word spells a command. The octets of a host link frame become a request in
Machine/Link.lean. -/

namespace Sys2Proof

/-- No row of the table gives bits: no word spells a command. -/
def decodeTableWord (_nbits _w : Nat) : Option Instr := none

end Sys2Proof
end

