-- ==== Sys2Proof/Machine/State.lean ====
section
/-! DEFINITION. The state of the part as plain data, the reasons a step can stop, and the state right after a reset. Each
block owns the fields that 00_scope section 2 gives it. -/

namespace Sys2Proof.Machine

/-! ## Why a step can stop -/

/-- The spec names no behaviour that stops the part, so no command raises a fault: the type has no constructor (safe: there
is nothing a proof could lean on). -/
inductive Fault where
deriving DecidableEq, Repr

/-- Why a step refuses a command. -/
inductive Refusal where
  /-- Raised by an arm of `exec` whose command has no meaning yet (safe: the model stops where the part goes on). -/
  | notModelled (mnemonic : String)
deriving DecidableEq, Repr

/-! ## Inputs -/

/-- The input levels at a sample (00_scope section 4). `true` is the asserted (high) level; the evacuation line is asserted at its low
level (R152). -/
structure Pins where
  home : Vector Bool 32
  withdrawn : Vector Bool 32
  contact : Vector Bool 32
  privacy : Vector Bool 32
  overcurrent : Vector Bool 32
  railGood : Vector Bool 4
  lineLow : Bool
  hostReady : Bool
  strap1 : Bool
  strap2 : Bool
deriving DecidableEq, Repr

/-! ## Setup (chapter 12; R1, R47, R88, R116, R162, R192) -/

/-- The role of a reader (R162). -/
inductive Role where
  | none
  | door (c : Chan)
  | counter (t : TillNo)
  | laneOut (l : LaneNo)
  | laneIn (l : LaneNo)
deriving DecidableEq, Repr

/-- The kind of a channel (R47). -/
inductive ChanKind where
  | none | cabin | gate
deriving DecidableEq, Repr

/-- The contact mode of a channel (R47). -/
inductive ContactMode where
  | level | edge
deriving DecidableEq, Repr

/-- A SETUP CHANNEL record (R47). A polarity is `true` for active high. -/
structure ChanSetup where
  kind : ChanKind
  door : Nat
  mode : ContactMode
  contactHigh : Bool
  privacyHigh : Bool
deriving DecidableEq, Repr

/-- The direction a lane serves (R88). -/
inductive LaneDir where
  | out | in | both
deriving DecidableEq, Repr

/-- A SETUP LANE record (R88). -/
structure LaneSetup where
  used : Bool
  dir : LaneDir
  gate : Chan
deriving DecidableEq, Repr

/-- The class of a till (R116). -/
inductive TillClass where
  | general | alcohol
deriving DecidableEq, Repr

/-- A SETUP TILL record (R116). -/
structure TillSetup where
  used : Bool
  cls : TillClass
deriving DecidableEq, Repr

/-- The SETUP TIMING record: thirteen settings in the order of R1, each in the unit of R1. -/
structure Timing where
  repeatWindow : Nat
  queryHold : Nat
  answerTime : Nat
  armTime : Nat
  holdTime : Nat
  relockDelay : Nat
  doorHeld : Nat
  driveTimeout : Nat
  ocQualify : Nat
  debounce : Nat
  passWindow : Nat
  idleLimit : Nat
  highWater : Nat
deriving DecidableEq, Repr

/-- The fault scope of a power group (R72 to R74). -/
inductive Scope where
  | isolate | group
deriving DecidableEq, Repr

/-- The over-current mode of a power group (R69). -/
inductive OcMode where
  | debounce | blanking
deriving DecidableEq, Repr

/-- The fault kinds (R71). -/
inductive FaultKind where
  | jamOpening | jamClosing | overcurrent | positionLost
deriving DecidableEq, Repr

/-- One thing for each fault kind: the masks of R71, the set of kinds of R75. -/
structure FaultSet where
  jamOpening : Bool
  jamClosing : Bool
  overcurrent : Bool
  positionLost : Bool
deriving DecidableEq, Repr

/-- The SETUP POLICY record (R192). -/
structure Policy where
  presence : Bool
  passback : Bool
  scope : Vector Scope 4
  ocMode : Vector OcMode 4
  mask : FaultSet
  railMask : Bool
deriving DecidableEq, Repr

/-- The alarm kinds (R81). -/
inductive AlarmKind where
  | forced | held | tamper | readerLost | readerRejected | revokedTap | tailgate | overstay
deriving DecidableEq, Repr

/-- The working setup (R192): six kinds of record and the alarm enables (R83), one for each kind in the order of R81. -/
structure Setup where
  readers : Vector Role 48
  channels : Vector ChanSetup 32
  lanes : Vector LaneSetup 4
  tills : Vector TillSetup 8
  timing : Timing
  policy : Policy
  alarmOn : Vector Bool 8
deriving DecidableEq, Repr

/-- What the check of the setup store finds (R196). -/
inductive StoreCheck where
  | agrees | oneBit | fails
deriving DecidableEq, Repr

/-- The nonvolatile setup store (R195, R196): the image last written and what its check code says of it. -/
structure SetupStore where
  image : Setup
  check : StoreCheck
deriving DecidableEq, Repr

/-- A setup save in progress (R195): the copy taken and the time left, in ms. -/
structure Save where
  copy : Setup
  left : Nat
deriving DecidableEq, Repr

/-- The retention store (R197): the marker, and whether the check code agrees with the collections. -/
structure Retention where
  marker : Bool
  agrees : Bool
deriving DecidableEq, Repr

/-- The operating mode (R192, R193). -/
inductive OpMode where
  | normal | maintenance
deriving DecidableEq, Repr

/-- The START kind (R197). -/
inductive StartKind where
  | cold | warm | restart
deriving DecidableEq, Repr

/-- The setup result of a start (R196). -/
inductive SetupResult where
  | loaded | corrected | defaulted | kept
deriving DecidableEq, Repr

/-- What a start has settled before start-up ends (R198): the contents of the START notice, and whether a RESTART was taken in
MAINTENANCE. -/
structure StartInfo where
  kind : StartKind
  kept : Bool
  result : SetupResult
  tag : Octet
  inMaintenance : Bool
deriving DecidableEq, Repr

/-- Start-up in progress (with the samples of the line taken, and how many of them were low), or the part running. -/
inductive Phase where
  | starting (info : StartInfo) (samples lows : Nat)
  | running
deriving DecidableEq, Repr

/-! ## Card table (chapter 1) -/

inductive Presence where
  | aboard | ashore
deriving DecidableEq, Repr

/-- The categories of the tally (R2). -/
inductive Category where
  | guest | crew | caller
deriving DecidableEq, Repr

inductive CardStatus where
  | active | hold | revoked
deriving DecidableEq, Repr

/-- A grant in the form the host gave it (R3). -/
inductive Grant where
  | door (n : Nat)
  | span (code : Nat)
deriving DecidableEq, Repr

/-- The kind of a known entry; idle minutes and the overstay-reported marker are present in CALLER alone (R2). -/
inductive Holder where
  | guest
  | crew
  | caller (idle : Nat) (reported : Bool)
deriving DecidableEq, Repr

/-- The engagement of a known entry; QUERY is held by pending entries alone (R2, R15). -/
inductive Engagement where
  | movement (l : LaneNo)
  | charge (t : TillNo)
deriving DecidableEq, Repr

/-- The fields of an entry of kind GUEST, CREW or CALLER (R2). -/
structure Known where
  holder : Holder
  status : CardStatus
  folio : Option Nat
  mayCharge : Bool
  adult : Bool
  officer : Bool
  grants : List Grant
  validFrom : Option ShipTime
  validUntil : Option ShipTime
  presence : Presence
  engaged : Option Engagement
  lastSeen : ShipTime
deriving DecidableEq, Repr

/-- The held presentation of a pending entry, and its query hold timer in ms (R2, R10). -/
structure Held where
  reader : ReaderNo
  arrival : ShipTime
  left : Nat
deriving DecidableEq, Repr

inductive EntryBody where
  | known (k : Known)
  | pending (h : Held)
deriving DecidableEq, Repr

/-- A card entry (R2). -/
structure Entry where
  card : CardNo
  body : EntryBody
deriving DecidableEq, Repr

/-- The six counts of the tally (R20). -/
structure Tally where
  guestAboard : Nat
  guestAshore : Nat
  crewAboard : Nat
  crewAshore : Nat
  callerAboard : Nat
  callerAshore : Nat
deriving DecidableEq, Repr

/-! ## Readers and the decider (chapters 2 and 10) -/

inductive Enrol where
  | unassigned | absent | assigning | active | rejected | lost
deriving DecidableEq, Repr

/-- The reader types (R163). -/
inductive HeadType where
  | d | c | l
deriving DecidableEq, Repr

/-- The last valid OFFER, its reader type as the octet that carried it (R162, R164). -/
structure Offer where
  type : Octet
  revision : Octet
deriving DecidableEq, Repr

/-- The indications (R43). -/
inductive Pattern where
  | green | red | amber
deriving DecidableEq, Repr

/-- The stages at which a decision waits (R28). -/
inductive Stage where
  | heldQuery | awaitingCharge
deriving DecidableEq, Repr

/-- The outstanding-decision marker (R28). -/
structure Marker where
  card : CardNo
  arrival : ShipTime
  stage : Stage
deriving DecidableEq, Repr

/-- The repeat filter with its timer running, in ms (R29). -/
structure Remembered where
  card : CardNo
  left : Nat
deriving DecidableEq, Repr

/-- A reader record (R162) and what the decider keeps for the reader (R28, R29). -/
structure Reader where
  role : Role
  enrol : Enrol
  offered : Option Offer
  misses : Nat
  lost : Bool
  tamper : Bool
  slot : Option Pattern
  filtered : Nat
  busErrors : Nat
  missCount : Nat
  marker : Option Marker
  memory : Option Remembered
deriving DecidableEq, Repr

/-- The frame the part sent in the exchange in flight (R161); `Exchange.octets` spells it. -/
inductive Sent where
  | poll
  | indicate (p : Pattern)
  | probe
  | assign (r : Role)
deriving DecidableEq, Repr

/-- The exchange in flight, and what is left of its reply window in ms (R161). -/
structure Exchange where
  reader : ReaderNo
  sent : Sent
  left : Nat
deriving DecidableEq, Repr

/-- What the round makes next (R166): exchanges with ACTIVE readers from this place on, the probe, the probe of a REJECTED
reader, or nothing more. -/
inductive RoundStage where
  | polls (next : Nat)
  | probe
  | rejected
  | ended
deriving DecidableEq, Repr

/-- The reader bus controller (R166). -/
structure Bus where
  round : Nat
  stage : RoundStage
  probePos : ReaderNo
  rejectedPos : ReaderNo
  exchange : Option Exchange
deriving DecidableEq, Repr

/-- The outcomes of a decided presentation, in the order of R42. -/
inductive Verdict where
  | granted | accepted | chargeTaken | evacuation
  | deniedUnknown | deniedBusy | deniedRevoked | deniedExpired | deniedHold | deniedNoGrant | deniedLockout
  | deniedPrivacy | deniedPresence | deniedChannel | deniedLaneClosed | deniedLaneBusy | deniedPassback
  | deniedDeadline | deniedNoCharge | deniedSuspended | deniedMaintenance
deriving DecidableEq, Repr

/-! ## Lock channels, arbiters and protection (chapters 3 and 4) -/

/-- An arrival hold, and a fresh or expired hold (R48, R53). -/
inductive Hold where
  | fresh | expired
deriving DecidableEq, Repr

/-- The hold stage in OPEN_HOLD; the hold and relock delay timers run, in ms, in the stages they belong to (R53, R54). -/
inductive HoldStage where
  | holding (left : Nat)
  | laneHeld
  | waitClose
  | relockDelay (left : Nat)
deriving DecidableEq, Repr

/-- The target end of an INHIBITED channel; an open target keeps an arrival hold (R74). -/
inductive Target where
  | openEnd (arrival : Hold)
  | closedEnd
  | noEnd
deriving DecidableEq, Repr

/-- The channel states with the fields present in each (R48). -/
inductive ChanState where
  | off
  | locked
  | unlockWait (arrival : Hold)
  | unlocking (arrival : Hold)
  | openHold (stage : HoldStage)
  | lockWait
  | locking
  | released
  | fault
  | inhibited (target : Target)
deriving DecidableEq, Repr

/-- A running over-current qualifier (R69): the mode and qualify time read at the start of the drive, the ms left, and whether
it has qualified. -/
structure OcQual where
  mode : OcMode
  time : Nat
  left : Nat
  qualified : Bool
deriving DecidableEq, Repr

/-- A fault record (R75). -/
structure FaultRecord where
  kinds : FaultSet
  first : ShipTime
  count : Nat
deriving DecidableEq, Repr

/-- A channel record (R48) with its protection monitor (R68 to R70, R75). Timers and qualifiers hold the ms left. -/
structure Channel where
  state : ChanState
  release : Bool
  doorHeld : Option Nat
  heldReported : Bool
  contact : Bool
  privacy : Bool
  home : Bool
  withdrawn : Bool
  contactQual : Option Nat
  privacyQual : Option Nat
  lockout : Bool
  driveLeft : Option Nat
  oc : Option OcQual
  record : FaultRecord
deriving DecidableEq, Repr

/-- The rail monitor (R77). -/
inductive Rail where
  | good | undervoltage
deriving DecidableEq, Repr

/-- A power group: its arbiter (R62), rail monitor (R77) and fault latch (R74). -/
structure Group where
  slot0 : Option Chan
  slot1 : Option Chan
  queue : List Chan
  rail : Rail
  railCount : Nat
  railSettled : Bool
  latch : Bool
deriving DecidableEq, Repr

/-! ## Alarm list (chapter 4) -/

/-- An alarm: its kind and its source (R81). -/
inductive Alarm where
  | forced (c : Chan)
  | held (c : Chan)
  | tamper (r : ReaderNo)
  | readerLost (r : ReaderNo)
  | readerRejected (r : ReaderNo)
  | revokedTap (card : CardNo) (r : ReaderNo)
  | tailgate (l : LaneNo)
  | overstay (card : CardNo)
deriving DecidableEq, Repr

structure AlarmRecord where
  alarm : Alarm
  first : ShipTime
  last : ShipTime
  count : Nat
deriving DecidableEq, Repr

structure AlarmList where
  records : List AlarmRecord
  overflow : Bool
deriving DecidableEq, Repr

/-! ## Lanes and the deadline (chapter 5) -/

/-- The direction of a movement (R89). -/
inductive Dir where
  | out | in
deriving DecidableEq, Repr

/-- A pending movement (R89): the phase is OPENING with no window, PASSING with the ms left of the pass window. -/
structure Movement where
  card : CardNo
  dir : Dir
  accepted : ShipTime
  window : Option Nat
deriving DecidableEq, Repr

/-- The return state of a lane in HELD_OPEN (R103). -/
inductive Return where
  | ready | closed
deriving DecidableEq, Repr

/-- The lane states with the fields present in each (R89). -/
inductive LaneState where
  | closed
  | ready
  | released (m : Movement)
  | closing (m : Movement)
  | heldOpen (ret : Return)
deriving DecidableEq, Repr

/-- A lane record (R89); `unfit` marks a lane treated as UNUSED (R156). -/
structure Lane where
  state : LaneState
  committedOut : Nat
  committedIn : Nat
  abandoned : Nat
  unattributed : Nat
  unfit : Bool
deriving DecidableEq, Repr

/-- Why a movement is abandoned (R97). -/
inductive AbandonCause where
  | window | gateFault | evacuation
deriving DecidableEq, Repr

/-- The deadline record (R107); EXPIRED stands at 0 remaining minutes. -/
inductive Deadline where
  | none
  | running (remaining lead : Nat)
  | finalCall (remaining lead : Nat)
  | expired (lead : Nat)
deriving DecidableEq, Repr

/-- The channels, arbiters and lanes: the state that open, relock and release claims move. -/
structure Zone where
  channels : Vector Channel 32
  groups : Vector Group 4
  lanes : Vector Lane 4
deriving DecidableEq, Repr

/-! ## Tills, folios and the journal (chapters 6 and 7) -/

/-- The state of a loaded folio; EMPTY is a slot that is not listed (R112). -/
inductive FolioState where
  | open | hold | closed
deriving DecidableEq, Repr

structure Folio where
  state : FolioState
  allowance : Nat
  spent : Nat
  threshold : Nat
  refs : Nat
deriving DecidableEq, Repr

/-- The authority of an approval (R132), in the order of R188. -/
inductive Tier where
  | localTier | referred | standIn | offline
deriving DecidableEq, Repr

/-- The outcomes of a charge, in the order of R124's table. -/
inductive ChargeOutcome where
  | approved | declinedStatus | declinedNoFolio | declinedAge | declinedPresence | declinedLimit | declinedReferral
  | declinedJournalFull | expired | cancelled | suspended
deriving DecidableEq, Repr

/-- What CHARGE OPEN records (R117, R118). -/
structure Charge where
  amount : Nat
  ref : HostRef
  armedAt : ShipTime
deriving DecidableEq, Repr

/-- What taking a card for a referral records (R117, R125). -/
structure Payer where
  card : CardNo
  reader : ReaderNo
  slot : Nat
  threshold : Nat
deriving DecidableEq, Repr

/-- The till states with the fields present in each; timers in ms (R117). -/
inductive TillState where
  | idle
  | armed (c : Charge) (left : Nat)
  | authorising (c : Charge) (p : Payer) (left : Nat)
deriving DecidableEq, Repr

/-- What an approval adds to a result: the journal sequence and the authority (R117, R124). -/
structure Approval where
  seq : Nat
  tier : Tier
deriving DecidableEq, Repr

/-- The last outcome of a till, when not NONE (R117). -/
structure LastOutcome where
  outcome : ChargeOutcome
  card : Option CardNo
  ref : HostRef
  approval : Option Approval
deriving DecidableEq, Repr

/-- A till record (R117); `unfit` marks a till treated as UNUSED (R156). -/
structure Till where
  state : TillState
  last : Option LastOutcome
  unfit : Bool
deriving DecidableEq, Repr

/-- A journal entry (R132). -/
structure JournalEntry where
  seq : Nat
  time : ShipTime
  unset : Bool
  slot : Nat
  card : CardNo
  till : TillNo
  amount : Nat
  tier : Tier
  ref : HostRef
  voided : Bool
deriving DecidableEq, Repr

/-- The charge journal, oldest entry first (R133). -/
structure Journal where
  entries : List JournalEntry
  next : Nat
  exhausted : Bool
deriving DecidableEq, Repr

/-! ## Authority, clock and evacuation (chapters 8 and 9) -/

/-- The authority; the lease timer runs, in ms, in ONLINE alone (R142). -/
inductive Authority where
  | online (left : Nat)
  | standalone
deriving DecidableEq, Repr

/-- The ship clock (R147, R150): `secondMs` and `minuteMs` count the ms since the last advance and the last minute tick. -/
structure Clock where
  time : ShipTime
  valid : Bool
  secondMs : Nat
  minuteMs : Nat
deriving DecidableEq, Repr

inductive EvacState where
  | normal | evacuation | recovery
deriving DecidableEq, Repr

/-- The cause of a change of the evacuation state (R154). -/
inductive EvacCause where
  | lineAsserted | lineCleared | hostSet | hostCleared | relocked | start
deriving DecidableEq, Repr

/-- The evacuation monitor (R152 to R154): `line` is the qualified value, `true` for ASSERTED, and `lineCount` the run of samples
that differ from it. -/
structure Evac where
  line : Bool
  lineCount : Nat
  host : Bool
  state : EvacState
deriving DecidableEq, Repr

/-! ## Host link (chapter 11) -/

/-- The results a reply can carry (R176). -/
inductive Result where
  | ok | unknownKind | malformed | busy | range | notFound | state | tableFull | folioEmpty | inUse | late | suspended
  | privacy | maintenance | setupInvalid
deriving DecidableEq, Repr

/-- A frame of the host link without its start, length and check octets (R184). -/
structure Frame where
  kind : Octet
  tag : Octet
  body : List Octet
deriving DecidableEq, Repr

/-- The receive framer (R174): the octets taken since the start octet, the length octet first, and the ms left of the gap. -/
inductive Framer where
  | hunting
  | inFrame (got : List Octet) (gapLeft : Nat)
deriving DecidableEq, Repr

/-- A reply, and the stamp that orders replies by the time they were built (R179). -/
structure Built where
  frame : Frame
  stamp : Nat
deriving DecidableEq, Repr

/-- An entry of the request queue (R177). -/
inductive QueueEntry where
  | waiting (request : Frame)
  | answered (reply : Built)
deriving DecidableEq, Repr

/-- How an ALARM notice is marked (R82, R84). -/
inductive AlarmMark where
  | new | repeated | notLatched
deriving DecidableEq, Repr

/-- What a FAULT notice reports (R72, R76, R78, R80). -/
inductive FaultEvent where
  | taken (kind : FaultKind) (applied : Scope)
  | latchReleased
  | undervoltage
  | recovered
deriving DecidableEq, Repr

/-- The notices, in the order of their kinds (R184), with what each carries. -/
inductive Notice where
  /-- R198. -/
  | start (kind : StartKind) (kept : Bool) (result : SetupResult) (mode : OpMode) (tag : Octet)
  /-- R44, R189. -/
  | tap (r : ReaderNo) (card : CardNo) (v : Verdict) (role : Role) (arrival : ShipTime) (unset queried : Bool)
  /-- R32. -/
  | cardQuery (card : CardNo) (r : ReaderNo)
  /-- R125. -/
  | authQuery (t : TillNo) (card : CardNo) (slot amount : Nat) (ref : HostRef)
  /-- R124. -/
  | chargeResult (t : TillNo) (outcome : ChargeOutcome) (card : Option CardNo) (slot : Option Nat) (amount : Nat)
      (ref : HostRef) (approval : Option Approval) (unset : Bool)
  /-- R95, R104. -/
  | movement (l : LaneNo) (card : CardNo) (cat : Category) (dir : Dir) (accepted committed : ShipTime)
      (changed evac unset : Bool)
  /-- R97. -/
  | lane (l : LaneNo) (card : CardNo) (dir : Dir) (accepted : ShipTime) (cause : AbandonCause) (after : LaneState)
  /-- R82. -/
  | alarm (a : Alarm) (time : ShipTime) (count : Nat) (mark : AlarmMark) (unset : Bool)
  /-- R72, R76, R78, R80. -/
  | fault (g : Grp) (c : Option Chan) (e : FaultEvent)
  /-- R144. -/
  | authority (resolved stoodIn : Nat)
  /-- R108. -/
  | deadline (d : Deadline) (guest crew caller : Nat)
  /-- R154. -/
  | evacuation (state : EvacState) (line host : Bool) (cause : EvacCause) (suspended abandoned : Nat)
  /-- R140. -/
  | journal (depth threshold : Nat) (oldest : Option Nat) (next : Nat) (exhausted : Bool)
  /-- R195. -/
  | setupSaved (written : Bool)
deriving DecidableEq, Repr

/-- The rates of the host link (R173). -/
inductive Rate where
  | r57600 | r115200 | r230400 | r460800
deriving DecidableEq, Repr

/-- The frame being sent, and the ms left of it (R179). -/
structure Sending where
  frame : Frame
  left : Nat
deriving DecidableEq, Repr

/-- The host link (R173 to R182). `lead` counts the notices at the head of the notice queue that go before any reply
(R191). -/
structure Link where
  framer : Framer
  queue : List QueueEntry
  busy : List Built
  notices : List Notice
  lead : Nat
  tx : Option Sending
  built : Nat
  strayOctets : Nat
  lengthErrors : Nat
  gapTimeouts : Nat
  checkErrors : Nat
  busyRefusals : Nat
  overruns : Nat
  droppedNotices : Nat
  rate : Rate
  hostReady : Bool
deriving DecidableEq, Repr

/-! ## The state of the part -/

/-- The state: the queue of waiting commands, the inputs, and every block's state. The card table lists occupied positions
alone and the folio table loaded slots alone, each in strictly rising order. -/
structure State where
  pending : List Instr
  samples : List Pins
  free : Nat
  pins : Pins
  phase : Phase
  mode : OpMode
  setup : Setup
  store : SetupStore
  save : Option Save
  retention : Retention
  link : Link
  readers : Vector Reader 48
  bus : Bus
  cards : List (Nat × Entry)
  tally : Tally
  zone : Zone
  alarms : AlarmList
  deadline : Deadline
  tills : Vector Till 8
  folios : List (Nat × Folio)
  journal : Journal
  authority : Authority
  clock : Clock
  evac : Evac
deriving DecidableEq, Repr

/-! ## Defaults and reset -/

/-- The default timing settings (R1). -/
def Timing.default : Timing where
  repeatWindow := 3
  queryHold := 1500
  answerTime := 4
  armTime := 90
  holdTime := 6
  relockDelay := 1
  doorHeld := 60
  driveTimeout := 700
  ocQualify := 10
  debounce := 30
  passWindow := 10
  idleLimit := 240
  highWater := 3072

/-- The setup defaults (R196). The fields that R196 does not name are DESIGN CHOICE, log entry 5: door number 0, contact mode
LEVEL, active high, direction OUT, gate channel 0, class GENERAL. -/
def Setup.default : Setup where
  readers := Vector.replicate 48 .none
  channels := Vector.replicate 32 ⟨.none, 0, .level, true, true⟩
  lanes := Vector.replicate 4 ⟨false, .out, 0⟩
  tills := Vector.replicate 8 ⟨false, .general⟩
  timing := .default
  policy :=
    { presence := true
      passback := true
      scope := Vector.replicate 4 .isolate
      ocMode := Vector.replicate 4 .debounce
      mask := ⟨false, false, false, false⟩
      railMask := false }
  alarmOn := Vector.replicate 8 true

/-- The inputs at reset: no input asserted (DESIGN CHOICE, log entry 6). -/
def Pins.reset : Pins where
  home := Vector.replicate 32 false
  withdrawn := Vector.replicate 32 false
  contact := Vector.replicate 32 false
  privacy := Vector.replicate 32 false
  overcurrent := Vector.replicate 32 false
  railGood := Vector.replicate 4 false
  lineLow := false
  hostReady := false
  strap1 := false
  strap2 := false

/-- An empty fault record (R75, R87). -/
def FaultRecord.empty : FaultRecord := ⟨⟨false, false, false, false⟩, 0, 0⟩

/-- A channel after a reset and before the relock sweep (R67, R87; the state OFF and the sense values are DESIGN CHOICE, log
entry 7). -/
def Channel.reset : Channel where
  state := .off
  release := false
  doorHeld := none
  heldReported := false
  contact := false
  privacy := false
  home := false
  withdrawn := false
  contactQual := none
  privacyQual := none
  lockout := false
  driveLeft := none
  oc := none
  record := .empty

/-- A power group after a reset (R67, R77, R87). -/
def Group.reset : Group := ⟨none, none, [], .undervoltage, 0, false, false⟩

/-- A lane after a reset (R111). -/
def Lane.reset : Lane := ⟨.closed, 0, 0, 0, 0, false⟩

/-- A till after a reset (R131). -/
def Till.reset : Till := ⟨.idle, none, false⟩

/-- A reader record after a reset, with role NONE (R46, R172). -/
def Reader.reset : Reader where
  role := .none
  enrol := .unassigned
  offered := none
  misses := 0
  lost := false
  tamper := false
  slot := none
  filtered := 0
  busErrors := 0
  missCount := 0
  marker := none
  memory := none

/-- The reader bus controller after a reset (R166, R172): index 47 is address 48. -/
def Bus.reset : Bus := ⟨1, .polls 0, 47, 47, none⟩

/-- The host link after a reset (R191). -/
def Link.reset : Link where
  framer := .hunting
  queue := []
  busy := []
  notices := []
  lead := 0
  tx := none
  built := 0
  strayOctets := 0
  lengthErrors := 0
  gapTimeouts := 0
  checkErrors := 0
  busyRefusals := 0
  overruns := 0
  droppedNotices := 0
  rate := .r57600
  hostReady := false

/-- The part right after a cold power-up, with start-up in progress (R197, R198). Its setup store is a new part's, which fails
its check, so the working setup is the defaults (DEDUCED from 12 section 12.5.2, log entry 5). -/
def State.reset : State where
  pending := []
  samples := []
  free := 0
  pins := .reset
  phase := .starting ⟨.cold, false, .defaulted, 0, false⟩ 0 0
  mode := .normal
  setup := .default
  store := ⟨.default, .fails⟩
  save := none
  retention := ⟨true, true⟩
  link := .reset
  readers := Vector.replicate 48 .reset
  bus := .reset
  cards := []
  tally := ⟨0, 0, 0, 0, 0, 0⟩
  zone := ⟨Vector.replicate 32 .reset, Vector.replicate 4 .reset, Vector.replicate 4 .reset⟩
  alarms := ⟨[], false⟩
  deadline := .none
  tills := Vector.replicate 8 .reset
  folios := []
  journal := ⟨[], 1, false⟩
  authority := .standalone
  clock := ⟨0, false, 0, 0⟩
  evac := ⟨false, 0, false, .normal⟩

end Sys2Proof.Machine
end

