-- ==== Sys2Proof/Machine/Octets.lean ====
section
/-! DEFINITION. Octets: numbers as octets (R183), the check codes of the two links (00_scope section 5), and the codes of the
enumerated values (R183: numbered from 0 in the order in which the manual lists them, unless a table gives them). -/

namespace Sys2Proof.Machine

/-- The number `n` in `w` octets, most significant first (R183). -/
def be : (w : Nat) → (n : Nat) → List Octet
  | 0, _ => []
  | w + 1, n => BitVec.ofNat 8 (n / 256 ^ w) :: be w n

/-- The number that octets spell, most significant first (R183). -/
def num (os : List Octet) : Nat := os.foldl (fun a o => a * 256 + o.toNat) 0

/-- The number in `w` octets of a body from octet `i` on. -/
def fieldAt (body : List Octet) (i w : Nat) : Nat := num ((body.drop i).take w)

/-- A body cut into fields of the given widths. -/
def fields : (widths : List Nat) → (body : List Octet) → List Nat
  | [], _ => []
  | w :: ws, body => num (body.take w) :: fields ws (body.drop w)

/-- One bit of a check code of width `n`, not reflected. -/
def crcBit {n : Nat} (poly c : BitVec n) : BitVec n := if c.msb then (c <<< 1) ^^^ poly else c <<< 1

/-- Eight bits of a check code. -/
def crcOctet {n : Nat} (poly c : BitVec n) : BitVec n :=
  crcBit poly (crcBit poly (crcBit poly (crcBit poly (crcBit poly (crcBit poly (crcBit poly (crcBit poly c)))))))

/-- CRC-16, polynomial 0x1021, initial value 0xFFFF, not reflected, no final inversion (R5, R184). -/
def crc16 (os : List Octet) : BitVec 16 :=
  os.foldl (fun (c : BitVec 16) o => crcOctet 0x1021 (c ^^^ (BitVec.ofNat 16 (o.toNat * 256)))) 0xFFFF

/-- CRC-8, polynomial 0x07, initial value 0x00 (R161, R190). -/
def crc8 (os : List Octet) : BitVec 8 := os.foldl (fun c o => crcOctet 0x07 (c ^^^ o)) 0

/-- A card number is valid when it is neither all zeros nor all ones (R2). -/
def cardValid (card : CardNo) : Bool := card != 0 && card != BitVec.allOnes 56

/-- The bucket of a card number: the low 11 bits of the CRC-16 of its 7 octets (R5). -/
def bucket (card : CardNo) : Nat := (crc16 (be 7 card.toNat)).toNat % 2048

/-! ## Codes -/

def Result.code : Result → Octet
  | .ok => 0x00 | .unknownKind => 0x01 | .malformed => 0x02 | .busy => 0x03 | .range => 0x04 | .notFound => 0x05
  | .state => 0x06 | .tableFull => 0x07 | .folioEmpty => 0x08 | .inUse => 0x09 | .late => 0x0A | .suspended => 0x0B
  | .privacy => 0x0C | .maintenance => 0x0D | .setupInvalid => 0x0E

/-- A flag or mark: 1 when set or present (log entry 8). -/
def flagCode (b : Bool) : Nat := if b then 1 else 0

/-- A pair of named values, the first of them coded 0 (R183, log entry 8). -/
def pairCode (first : Bool) : Nat := if first then 0 else 1

def Category.code : Category → Nat
  | .guest => 0 | .crew => 1 | .caller => 2

def CardStatus.code : CardStatus → Nat
  | .active => 0 | .hold => 1 | .revoked => 2

def Presence.code : Presence → Nat
  | .aboard => 0 | .ashore => 1

def Verdict.code : Verdict → Nat
  | .granted => 0 | .accepted => 1 | .chargeTaken => 2 | .evacuation => 3 | .deniedUnknown => 4 | .deniedBusy => 5
  | .deniedRevoked => 6 | .deniedExpired => 7 | .deniedHold => 8 | .deniedNoGrant => 9 | .deniedLockout => 10
  | .deniedPrivacy => 11 | .deniedPresence => 12 | .deniedChannel => 13 | .deniedLaneClosed => 14 | .deniedLaneBusy => 15
  | .deniedPassback => 16 | .deniedDeadline => 17 | .deniedNoCharge => 18 | .deniedSuspended => 19
  | .deniedMaintenance => 20

def ChanKind.code : ChanKind → Nat
  | .none => 0 | .cabin => 1 | .gate => 2

def ContactMode.code : ContactMode → Nat
  | .level => 0 | .edge => 1

def LaneDir.code : LaneDir → Nat
  | .out => 0 | .in => 1 | .both => 2

def TillClass.code : TillClass → Nat
  | .general => 0 | .alcohol => 1

def Scope.code : Scope → Nat
  | .isolate => 0 | .group => 1

def OcMode.code : OcMode → Nat
  | .debounce => 0 | .blanking => 1

def FaultKind.code : FaultKind → Nat
  | .jamOpening => 0 | .jamClosing => 1 | .overcurrent => 2 | .positionLost => 3

def AlarmKind.code : AlarmKind → Fin 8
  | .forced => 0 | .held => 1 | .tamper => 2 | .readerLost => 3 | .readerRejected => 4 | .revokedTap => 5
  | .tailgate => 6 | .overstay => 7

def OpMode.code : OpMode → Nat
  | .normal => 0 | .maintenance => 1

def StartKind.code : StartKind → Nat
  | .cold => 0 | .warm => 1 | .restart => 2

def SetupResult.code : SetupResult → Nat
  | .loaded => 0 | .corrected => 1 | .defaulted => 2 | .kept => 3

def ChanState.code : ChanState → Nat
  | .off => 0 | .locked => 1 | .unlockWait _ => 2 | .unlocking _ => 3 | .openHold _ => 4 | .lockWait => 5
  | .locking => 6 | .released => 7 | .fault => 8 | .inhibited _ => 9

def Hold.code : Hold → Nat
  | .fresh => 0 | .expired => 1

def HoldStage.code : HoldStage → Nat
  | .holding _ => 0 | .laneHeld => 1 | .waitClose => 2 | .relockDelay _ => 3

def Target.code : Target → Nat
  | .openEnd _ => 0 | .closedEnd => 1 | .noEnd => 2

def Rail.code : Rail → Nat
  | .good => 0 | .undervoltage => 1

def Dir.code : Dir → Nat
  | .out => 0 | .in => 1

def Return.code : Return → Nat
  | .ready => 0 | .closed => 1

def LaneState.code : LaneState → Nat
  | .closed => 0 | .ready => 1 | .released _ => 2 | .closing _ => 3 | .heldOpen _ => 4

def AbandonCause.code : AbandonCause → Nat
  | .window => 0 | .gateFault => 1 | .evacuation => 2

def Deadline.code : Deadline → Nat
  | .none => 0 | .running _ _ => 1 | .finalCall _ _ => 2 | .expired _ => 3

/-- 0 is EMPTY (R187). -/
def FolioState.code : FolioState → Nat
  | .open => 1 | .hold => 2 | .closed => 3

def Tier.code : Tier → Nat
  | .localTier => 0 | .referred => 1 | .standIn => 2 | .offline => 3

def ChargeOutcome.code : ChargeOutcome → Nat
  | .approved => 0 | .declinedStatus => 1 | .declinedNoFolio => 2 | .declinedAge => 3 | .declinedPresence => 4
  | .declinedLimit => 5 | .declinedReferral => 6 | .declinedJournalFull => 7 | .expired => 8 | .cancelled => 9
  | .suspended => 10

def TillState.code : TillState → Nat
  | .idle => 0 | .armed _ _ => 1 | .authorising _ _ _ => 2

def EvacState.code : EvacState → Nat
  | .normal => 0 | .evacuation => 1 | .recovery => 2

def EvacCause.code : EvacCause → Nat
  | .lineAsserted => 0 | .lineCleared => 1 | .hostSet => 2 | .hostCleared => 3 | .relocked => 4 | .start => 5

def AlarmMark.code : AlarmMark → Nat
  | .new => 0 | .repeated => 1 | .notLatched => 2

/-- The rate octet of LINK STATUS (R182). That the rate travels as an enumerated value, numbered in the order of the table of R173, is the
model's choice (log entry 9). -/
def Rate.code : Rate → Nat
  | .r57600 => 0 | .r115200 => 1 | .r230400 => 2 | .r460800 => 3

/-- The rate in bit/s (R173). -/
def Rate.bits : Rate → Nat
  | .r57600 => 57600 | .r115200 => 115200 | .r230400 => 230400 | .r460800 => 460800

/-- The rate the straps select (R173). -/
def strapRate (strap1 strap2 : Bool) : Rate :=
  match strap1, strap2 with
  | false, false => .r57600
  | false, true => .r115200
  | true, false => .r230400
  | true, true => .r460800

/-- Role codes in the order of R162; NONE is 0, and R190 gives 1 to 4 on the reader bus. -/
def Role.code : Role → Nat
  | .none => 0 | .door _ => 1 | .counter _ => 2 | .laneOut _ => 3 | .laneIn _ => 4

/-- The channel, till or lane of a role, 0 where it has none. -/
def Role.index : Role → Nat
  | .none => 0 | .door c => c | .counter t => t | .laneOut l => l | .laneIn l => l

def Enrol.code : Enrol → Nat
  | .unassigned => 0 | .absent => 1 | .assigning => 2 | .active => 3 | .rejected => 4 | .lost => 5

/-- Pattern codes of the reader bus (R190); 0 stands for none. -/
def Pattern.code : Pattern → Nat
  | .green => 1 | .red => 2 | .amber => 3

def Stage.code : Stage → Nat
  | .heldQuery => 1 | .awaitingCharge => 2

/-! ## Reading coded values: `none` is a value beyond the last, which the owning rule refuses RANGE (R183) -/

def flagOf : Nat → Option Bool
  | 0 => some false
  | 1 => some true
  | _ => none

/-- A pair of named values: 0 is the first (log entry 8). -/
def pairOf : Nat → Option Bool
  | 0 => some true
  | 1 => some false
  | _ => none

def categoryOf : Nat → Option Category
  | 0 => some .guest | 1 => some .crew | 2 => some .caller | _ => none

def cardStatusOf : Nat → Option CardStatus
  | 0 => some .active | 1 => some .hold | 2 => some .revoked | _ => none

def presenceOf : Nat → Option Presence
  | 0 => some .aboard | 1 => some .ashore | _ => none

def chanKindOf : Nat → Option ChanKind
  | 0 => some .none | 1 => some .cabin | 2 => some .gate | _ => none

def contactModeOf : Nat → Option ContactMode
  | 0 => some .level | 1 => some .edge | _ => none

def laneDirOf : Nat → Option LaneDir
  | 0 => some .out | 1 => some .in | 2 => some .both | _ => none

def tillClassOf : Nat → Option TillClass
  | 0 => some .general | 1 => some .alcohol | _ => none

def scopeOf : Nat → Option Scope
  | 0 => some .isolate | 1 => some .group | _ => none

def ocModeOf : Nat → Option OcMode
  | 0 => some .debounce | 1 => some .blanking | _ => none

def alarmKindOf : Nat → Option AlarmKind
  | 0 => some .forced | 1 => some .held | 2 => some .tamper | 3 => some .readerLost | 4 => some .readerRejected
  | 5 => some .revokedTap | 6 => some .tailgate | 7 => some .overstay | _ => none

def folioStateOf : Nat → Option FolioState
  | 1 => some .open | 2 => some .hold | 3 => some .closed | _ => none

/-- The index below `n` that a number names. -/
def indexOf (n : Nat) (i : Nat) : Option (Fin n) := if h : i < n then some ⟨i, h⟩ else none

/-- The reader that a bus address, 1 to 48, names. -/
def readerOf (addr : Nat) : Option ReaderNo := if addr = 0 then none else indexOf 48 (addr - 1)

/-- The bus address of a reader. -/
def address (r : ReaderNo) : Nat := r.val + 1

/-- A role from its code and index (R162). -/
def roleOf (code index : Nat) : Option Role :=
  match code with
  | 0 => some .none
  | 1 => (indexOf 32 index).map .door
  | 2 => (indexOf 8 index).map .counter
  | 3 => (indexOf 4 index).map .laneOut
  | 4 => (indexOf 4 index).map .laneIn
  | _ => none

/-- The reader type that an octet of the reader bus names (R190). -/
def headTypeOf (code : Nat) : Option HeadType :=
  if code = 0x44 then some .d else if code = 0x43 then some .c else if code = 0x4C then some .l else none

end Sys2Proof.Machine
end

