-- ==== Sys2Proof/Machine/Ops.lean ====
section
/-! DEFINITION. The operations over records that every block shares: the tables kept by position, the record files, the notice
queue, the alarm list (R82 to R84), and the one write of a card entry that keeps the tally and the folio references with it
(R9, R20). -/

namespace Sys2Proof.Machine

/-! ## Records by number -/

/-- A file of records with record `i` replaced. -/
def vset {α : Type} {n : Nat} (v : Vector α n) (i : Fin n) (x : α) : Vector α n := v.set i.val x i.isLt

/-- A file of records with record `i` changed by `f`. -/
def vmod {α : Type} {n : Nat} (v : Vector α n) (i : Fin n) (f : α → α) : Vector α n := vset v i (f (v.get i))

/-- A count of the part that rises by one and stays at 65,535 (R75, R82, R89, R162, R182). -/
def satInc (n : Nat) : Nat := if n < Config.countTop then n + 1 else n

/-- A timer after one millisecond. -/
def tickTimer (t : Option Nat) : Option Nat := t.map (· - 1)

/-! ## Tables by position -/

/-- The record at a position, or none. -/
def tget {α : Type} : List (Nat × α) → Nat → Option α
  | [], _ => none
  | (j, a) :: l, i => if j = i then some a else tget l i

/-- The table with the record at `i` written, in rising order of position. -/
def tput {α : Type} (i : Nat) (x : α) : List (Nat × α) → List (Nat × α)
  | [] => [(i, x)]
  | (j, a) :: l => if j = i then (i, x) :: l else if i < j then (i, x) :: (j, a) :: l else (j, a) :: tput i x l

/-- The table with position `i` empty. -/
def tdel {α : Type} (i : Nat) : List (Nat × α) → List (Nat × α)
  | [] => []
  | (j, a) :: l => if j = i then l else (j, a) :: tdel i l

/-- The canonical form of a table: strictly rising positions. -/
abbrev Rising {α : Type} (t : List (Nat × α)) : Prop := t.Pairwise (fun a b => a.1 < b.1)

/-- Position `i` written, or emptied. -/
def twrite {α : Type} (i : Nat) (x : Option α) (t : List (Nat × α)) : List (Nat × α) :=
  match x with
  | some a => tput i a t
  | none => tdel i t

/-! ## Accessors of the blocks -/

def State.setReader (r : ReaderNo) (f : Reader → Reader) (s : State) : State := { s with readers := vmod s.readers r f }

def State.setTill (t : TillNo) (f : Till → Till) (s : State) : State := { s with tills := vmod s.tills t f }

def Zone.setChan (c : Chan) (f : Channel → Channel) (z : Zone) : Zone := { z with channels := vmod z.channels c f }

def Zone.setGroup (g : Grp) (f : Group → Group) (z : Zone) : Zone := { z with groups := vmod z.groups g f }

def Zone.setLane (l : LaneNo) (f : Lane → Lane) (z : Zone) : Zone := { z with lanes := vmod z.lanes l f }

/-- The state with the free values advanced. -/
def State.fresh (s : State) : State := { s with free := s.free + 1 }

/-- The zone changed by `f`. -/
def State.onZone (f : Zone → Zone) (s : State) : State := { s with zone := f s.zone }

/-- The power group of a channel: group g holds channels 8g to 8g + 7. -/
def groupOf (c : Chan) : Grp := ⟨c.val / 8, by omega⟩

/-- Every channel, in ascending number. -/
def allChans : List Chan := List.finRange 32

/-- The channels of a group, in ascending number. -/
def members (g : Grp) : List Chan := allChans.filter (fun c => groupOf c = g)

def allLanes : List LaneNo := List.finRange 4

def allTills : List TillNo := List.finRange 8

def allReaders : List ReaderNo := List.finRange 48

/-! ## Notices and alarms -/

/-- A notice joins the tail of the notice queue, or is dropped and counted when the queue is full (R180). -/
def Link.notify (n : Notice) (k : Link) : Link :=
  if k.notices.length < Config.noticePlaces then { k with notices := k.notices ++ [n] }
  else { k with droppedNotices := satInc k.droppedNotices }

def State.notify (n : Notice) (s : State) : State := { s with link := s.link.notify n }

def Alarm.kind : Alarm → AlarmKind
  | .forced _ => .forced
  | .held _ => .held
  | .tamper _ => .tamper
  | .readerLost _ => .readerLost
  | .readerRejected _ => .readerRejected
  | .revokedTap _ _ => .revokedTap
  | .tailgate _ => .tailgate
  | .overstay _ => .overstay

/-- Whether an alarm kind is enabled (R83). -/
def Setup.alarmEnabled (cfg : Setup) (k : AlarmKind) : Bool := cfg.alarmOn.get k.code

/-- A record with one repeat more (R82). -/
def AlarmRecord.again (now : ShipTime) (r : AlarmRecord) : AlarmRecord := { r with last := now, count := satInc r.count }

/-- The records with the record of `a` repeated (R82). -/
def repeatAlarm (a : Alarm) (now : ShipTime) (rs : List AlarmRecord) : List AlarmRecord :=
  rs.map (fun r => if r.alarm = a then r.again now else r)

/-- The alarm list and the ALARM notice after an alarm of an enabled kind (R82, R84): a repeat, a new record or an overflow. -/
def AlarmList.take (a : Alarm) (now : ShipTime) (al : AlarmList) : AlarmList × Nat × AlarmMark :=
  match al.records.find? (fun r => r.alarm = a) with
  | some r => ({ al with records := repeatAlarm a now al.records }, satInc r.count, .repeated)
  | none =>
    if al.records.length < Config.alarmPlaces then
      ({ al with records := al.records ++ [⟨a, now, now, 1⟩] }, 1, .new)
    else ({ al with overflow := true }, 0, .notLatched)

/-- A block raises an alarm (R82). -/
def State.raise (a : Alarm) (s : State) : State :=
  if s.setup.alarmEnabled a.kind then
    let taken := s.alarms.take a s.clock.time
    { s with alarms := taken.1 }.notify (.alarm a s.clock.time taken.2.1 taken.2.2 (!s.clock.valid))
  else s

/-! ## Card entries, the tally and the folio references -/

def Holder.category : Holder → Category
  | .guest => .guest
  | .crew => .crew
  | .caller _ _ => .caller

/-- Where an entry stands in the tally; a pending entry stands in no count (R20). -/
def Entry.tallied (e : Entry) : Option (Category × Presence) :=
  match e.body with
  | .known k => some (k.holder.category, k.presence)
  | .pending _ => none

/-- The folio slot an entry names (R2). -/
def Entry.folio (e : Entry) : Option Nat :=
  match e.body with
  | .known k => k.folio
  | .pending _ => none

/-- The count of a category and presence. -/
def Tally.count (t : Tally) : Category → Presence → Nat
  | .guest, .aboard => t.guestAboard
  | .guest, .ashore => t.guestAshore
  | .crew, .aboard => t.crewAboard
  | .crew, .ashore => t.crewAshore
  | .caller, .aboard => t.callerAboard
  | .caller, .ashore => t.callerAshore

/-- The tally with one count changed by `f`. -/
def Tally.change (f : Nat → Nat) (t : Tally) : Category → Presence → Tally
  | .guest, .aboard => { t with guestAboard := f t.guestAboard }
  | .guest, .ashore => { t with guestAshore := f t.guestAshore }
  | .crew, .aboard => { t with crewAboard := f t.crewAboard }
  | .crew, .ashore => { t with crewAshore := f t.crewAshore }
  | .caller, .aboard => { t with callerAboard := f t.callerAboard }
  | .caller, .ashore => { t with callerAshore := f t.callerAshore }

/-- The tally when an entry moves from one count to another, or joins or leaves the tally (R20). -/
def Tally.move (old new : Option (Category × Presence)) (t : Tally) : Tally :=
  if old = new then t
  else
    let t := match old with
      | some (c, p) => t.change (· - 1) c p
      | none => t
    match new with
    | some (c, p) => t.change (· + 1) c p
    | none => t

/-- The folio table with the record of a slot changed; an EMPTY slot stays EMPTY. -/
def changeFolio (f : Folio → Folio) (slot : Nat) (fs : List (Nat × Folio)) : List (Nat × Folio) :=
  match tget fs slot with
  | some x => tput slot (f x) fs
  | none => fs

/-- The folio references when an entry that named one slot, or none, comes to name another, or none (R9). -/
def moveRef (old new : Option Nat) (fs : List (Nat × Folio)) : List (Nat × Folio) :=
  if old = new then fs
  else
    let fs := match old with
      | some i => changeFolio (fun x => { x with refs := x.refs - 1 }) i fs
      | none => fs
    match new with
    | some i => changeFolio (fun x => { x with refs := x.refs + 1 }) i fs
    | none => fs

/-- THE ONE WRITE OF THE CARD TABLE: position `i` comes to hold `new`, or is freed; the tally and the folio references change
in the same event (R9, R20). -/
def State.setEntry (i : Nat) (new : Option Entry) (s : State) : State :=
  let old := tget s.cards i
  { s with
    cards := twrite i new s.cards
    tally := s.tally.move (old.bind Entry.tallied) (new.bind Entry.tallied)
    folios := moveRef (old.bind Entry.folio) (new.bind Entry.folio) s.folios }

/-- The four positions of a card's bucket (R5). -/
def wayIndexes (card : CardNo) : List Nat := let b := bucket card * 4; [b, b + 1, b + 2, b + 3]

/-- The lookup of a card number (R5): its position and entry. -/
def lookup (cards : List (Nat × Entry)) (card : CardNo) : Option (Nat × Entry) :=
  (wayIndexes card).findSome? (fun i =>
    match tget cards i with
    | some e => if e.card = card then some (i, e) else none
    | none => none)

/-- The lowest-numbered free way of a card's bucket (R7, R10). -/
def freeWay (cards : List (Nat × Entry)) (card : CardNo) : Option Nat :=
  (wayIndexes card).find? (fun i => (tget cards i).isNone)

/-- The known entry of a card changed by `f`; nothing when the card has none. -/
def State.changeKnown (card : CardNo) (f : Known → Known) (s : State) : State :=
  match lookup s.cards card with
  | some (i, ⟨_, .known k⟩) => s.setEntry i (some ⟨card, .known (f k)⟩)
  | _ => s

/-- The known entry of a card, or none. -/
def State.known (s : State) (card : CardNo) : Option Known :=
  match lookup s.cards card with
  | some (_, ⟨_, .known k⟩) => some k
  | _ => none

/-- The pending entries, with their positions. -/
def pendingEntries (cards : List (Nat × Entry)) : List (Nat × CardNo × Held) :=
  cards.filterMap (fun x =>
    match x.2.body with
    | .pending h => some (x.1, x.2.card, h)
    | .known _ => none)

/-- The tally counted from the entries (R20, R26). -/
def recountTally (cards : List (Nat × Entry)) : Tally :=
  cards.foldl (fun t x => t.move none x.2.tallied) ⟨0, 0, 0, 0, 0, 0⟩

/-- How many entries name a folio slot (R9). -/
def refsTo (cards : List (Nat × Entry)) (slot : Nat) : Nat := cards.countP (fun x => x.2.folio = some slot)

end Sys2Proof.Machine
end

