-- ==== Sys2Proof/Machine/Flags.lean ====
section
/-! DEFINITION. The conditions the rules read: what is in use, what is inhibited, what is still, which bindings hold. -/

namespace Sys2Proof.Machine

/-! ## Channels and groups -/

/-- A group is inhibited by its fault latch, by undervoltage, or by both (R74, R78, R79). -/
def Group.inhibited (g : Group) : Bool := g.latch || g.rail == .undervoltage

def ChanState.isOpenHold : ChanState → Bool
  | .openHold _ => true
  | _ => false

/-- A channel drives in UNLOCKING and LOCKING alone (R48). -/
def ChanState.drives : ChanState → Bool
  | .unlocking _ => true
  | .locking => true
  | _ => false

/-- The states that hold RECOVERY (R158). -/
def ChanState.unsecured : ChanState → Bool
  | .openHold _ => true
  | .unlockWait _ => true
  | .unlocking _ => true
  | .lockWait => true
  | .locking => true
  | _ => false

/-- The states in which MAINTENANCE ENTER finds a channel still (R193). -/
def ChanState.still : ChanState → Bool
  | .locked => true
  | .fault => true
  | .inhibited _ => true
  | _ => false

def Setup.kind (cfg : Setup) (c : Chan) : ChanKind := (cfg.channels.get c).kind

/-- The channel is of kind CABIN or GATE. -/
def Setup.inUse (cfg : Setup) (c : Chan) : Bool := cfg.kind c != .none

/-- A CABIN channel in LEVEL mode, whose door is watched (R56). -/
def Setup.watched (cfg : Setup) (c : Chan) : Bool :=
  (cfg.channels.get c).kind == .cabin && (cfg.channels.get c).mode == .level

/-- The door field: the qualified contact input of a LEVEL-mode channel; closed in EDGE mode (R48, R49). That it is closed on a
GATE channel in EDGE mode, of which the spec gives no door, is the model's choice (log entry 31). -/
def Zone.doorOpen (z : Zone) (cfg : Setup) (c : Chan) : Bool :=
  (cfg.channels.get c).mode == .level && (z.channels.get c).contact

/-- The relock test finds the zone secured (R158). -/
def Zone.secured (z : Zone) (cfg : Setup) : Bool :=
  allChans.all (fun c => !cfg.inUse c || !(z.channels.get c).state.unsecured)

def FaultSet.isEmpty (f : FaultSet) : Bool := !f.jamOpening && !f.jamClosing && !f.overcurrent && !f.positionLost

def FaultSet.has (f : FaultSet) : FaultKind → Bool
  | .jamOpening => f.jamOpening
  | .jamClosing => f.jamClosing
  | .overcurrent => f.overcurrent
  | .positionLost => f.positionLost

def FaultSet.add (f : FaultSet) : FaultKind → FaultSet
  | .jamOpening => { f with jamOpening := true }
  | .jamClosing => { f with jamClosing := true }
  | .overcurrent => { f with overcurrent := true }
  | .positionLost => { f with positionLost := true }

/-! ## Lanes, tills and readers -/

/-- The lane is USED and not treated as UNUSED (R88, R156). -/
def Zone.laneUsed (z : Zone) (cfg : Setup) (l : LaneNo) : Bool := (cfg.lanes.get l).used && !(z.lanes.get l).unfit

/-- The lane a gate channel belongs to: the USED lane that names it (R60, R88; the lowest-numbered, log entry 14). -/
def Zone.laneOf (z : Zone) (cfg : Setup) (c : Chan) : Option LaneNo :=
  if cfg.kind c = .gate then allLanes.find? (fun l => z.laneUsed cfg l && (cfg.lanes.get l).gate == c) else none

/-- The till is USED and not treated as UNUSED (R116, R156). -/
def State.tillUsed (s : State) (t : TillNo) : Bool := (s.setup.tills.get t).used && !(s.tills.get t).unfit

/-- The readers whose record holds a role, in ascending address. -/
def State.holders (s : State) (r : Role) : List ReaderNo := allReaders.filter (fun i => (s.readers.get i).role == r)

/-- The readers a setup gives a role, in ascending address. -/
def Setup.holders (cfg : Setup) (r : Role) : List ReaderNo := allReaders.filter (fun i => cfg.readers.get i == r)

/-! ## Bindings (R194) -/

def LaneDir.servesOut : LaneDir → Bool
  | .in => false
  | _ => true

def LaneDir.servesIn : LaneDir → Bool
  | .out => false
  | _ => true

/-- The lane-gate requirement for one lane: its channel is of kind GATE and no other USED lane names it. That a lane which R156 treats as
UNUSED still counts, by its setup record, as another USED lane at a later entry out of MAINTENANCE is the model's choice (log entry 30). -/
def Setup.gateFits (cfg : Setup) (l : LaneNo) : Bool :=
  let x := cfg.lanes.get l
  cfg.kind x.gate == .gate &&
    allLanes.all (fun m => m == l || !(cfg.lanes.get m).used || (cfg.lanes.get m).gate != x.gate)

/-- The lane-reader requirement for one lane. -/
def Setup.laneReadersFit (cfg : Setup) (l : LaneNo) : Bool :=
  let x := cfg.lanes.get l
  let outs := (cfg.holders (.laneOut l)).length
  let ins := (cfg.holders (.laneIn l)).length
  decide (outs ≤ 1) && decide (ins ≤ 1) && (outs == 0 || x.dir.servesOut) && (ins == 0 || x.dir.servesIn)

/-- The bindings of one lane hold: a USED lane meets both lane requirements, and no reader serves an UNUSED lane. -/
def Setup.laneFits (cfg : Setup) (l : LaneNo) : Bool :=
  if (cfg.lanes.get l).used then cfg.gateFits l && cfg.laneReadersFit l
  else (cfg.holders (.laneOut l)).isEmpty && (cfg.holders (.laneIn l)).isEmpty

/-- At most two readers name the till (R194). -/
def Setup.tillFits (cfg : Setup) (t : TillNo) : Bool := decide ((cfg.holders (.counter t)).length ≤ 2)

/-- The binding of one reader holds: DOOR names a CABIN channel, COUNTER a USED till. -/
def Setup.readerFits (cfg : Setup) (r : ReaderNo) : Bool :=
  match cfg.readers.get r with
  | .door c => cfg.kind c == .cabin
  | .counter t => (cfg.tills.get t).used
  | _ => true

/-- The binding validation of MAINTENANCE LEAVE (R194). -/
def Setup.valid (cfg : Setup) : Bool :=
  allReaders.all cfg.readerFits && allTills.all cfg.tillFits && allLanes.all cfg.laneFits

/-! ## Cards, time and mode -/

/-- The entry is inside its validity window at a ship time (R4). -/
def Known.inside (k : Known) (t : ShipTime) : Bool :=
  (match k.validFrom with
    | some f => decide (f ≤ t)
    | none => true) &&
  (match k.validUntil with
    | some u => decide (t ≤ u)
    | none => true)

/-- Ship time is valid and later than the entry's valid-until (R18, R19). -/
def Known.overdue (k : Known) (c : Clock) : Bool :=
  c.valid && (match k.validUntil with
    | some u => decide (u < c.time)
    | none => false)

/-- The side a movement leaves (R40). -/
def Dir.departure : Dir → Presence
  | .out => .aboard
  | .in => .ashore

/-- The side a movement reaches (R95). -/
def Dir.arrival : Dir → Presence
  | .out => .ashore
  | .in => .aboard

def Authority.isOnline : Authority → Bool
  | .online _ => true
  | .standalone => false

def Deadline.isExpired : Deadline → Bool
  | .expired _ => true
  | _ => false

def TillState.isIdle : TillState → Bool
  | .idle => true
  | _ => false

def TillState.isAuthorising : TillState → Bool
  | .authorising _ _ _ => true
  | _ => false

/-- Evacuation is in effect (chapter 9). -/
def State.evacuating (s : State) : Bool := s.evac.state == .evacuation

def State.inMaintenance (s : State) : Bool := s.mode == .maintenance

/-- A grant covers a door number (R3). A span code with lowest set bit p gives size 2^p; its value is 2 × base + size, so
the doors covered are those d with base ≤ d < base + size. -/
def spanSize (code : Nat) : Nat :=
  if code = 0 then 0
  else ((List.range 13).find? (fun p => code.testBit p)).elim 0 (fun p => 2 ^ p)

def spanBase (code : Nat) : Nat := (code - spanSize code) / 2

/-- A span code is valid when it is 1 to 8,191 (R3). -/
def spanValid (code : Nat) : Bool := decide (1 ≤ code) && decide (code ≤ 8191)

def Grant.covers : Grant → Nat → Bool
  | .door n, d => n == d
  | .span code, d => decide (spanBase code ≤ d) && decide (d < spanBase code + spanSize code)

end Sys2Proof.Machine
end

