-- ==== Sys2Proof/Machine/Zone.lean ====
section
/-! DEFINITION. Lock channels and drive slots (chapter 3) and what protection does to them (chapter 4), as operations of the zone: the
channels, the arbiters and the lanes. Each operation reads the working setup `cfg`; a fresh hold of a gate reports to its lane
(R93) inside the event that takes it. -/

namespace Sys2Proof.Machine

/-! ## Entering a state -/

/-- The channel record on entering a state: the fields that a state does not carry are cleared. The door-held timer starts when
a watched channel enters OPEN_HOLD with its door open, and stops when it leaves (R57); a channel that does not drive has no
drive timer and no over-current qualifier (R68, R69). -/
def Channel.enter (cfg : Setup) (c : Chan) (st : ChanState) (ch : Channel) : Channel :=
  { ch with
    state := st
    doorHeld :=
      if st.isOpenHold then
        if ch.state.isOpenHold then ch.doorHeld
        else if cfg.watched c && ch.contact then some (cfg.timing.doorHeld * 1000) else none
      else none
    heldReported := st.isOpenHold && ch.state.isOpenHold && ch.heldReported
    driveLeft := if st.drives then ch.driveLeft else none
    oc := if st.drives then ch.oc else none }

def Zone.enter (cfg : Setup) (c : Chan) (st : ChanState) (z : Zone) : Zone := z.setChan c (·.enter cfg c st)

/-! ## The arbiter (R62, R63) -/

/-- The channel leaves its arbiter's queue and releases its drive slot. -/
def Group.leave (c : Chan) (g : Group) : Group :=
  { g with
    slot0 := if g.slot0 = some c then none else g.slot0
    slot1 := if g.slot1 = some c then none else g.slot1
    queue := g.queue.filter (· ≠ c) }

def Zone.leave (c : Chan) (z : Zone) : Zone := z.setGroup (groupOf c) (·.leave c)

/-- The channel would enter UNLOCK_WAIT (with an arrival hold) and request a slot; in an inhibited group it enters INHIBITED
instead, with the target end open, and requests none (R62, R79). -/
def Zone.waitOpen (cfg : Setup) (c : Chan) (arrival : Hold) (z : Zone) : Zone :=
  if (z.groups.get (groupOf c)).inhibited then z.enter cfg c (.inhibited (.openEnd arrival))
  else (z.enter cfg c (.unlockWait arrival)).setGroup (groupOf c) (fun g => { g with queue := g.queue ++ [c] })

/-- The channel would enter LOCK_WAIT and request a slot; in an inhibited group it enters INHIBITED, target closed (R79). -/
def Zone.waitClose (cfg : Setup) (c : Chan) (z : Zone) : Zone :=
  if (z.groups.get (groupOf c)).inhibited then z.enter cfg c (.inhibited .closedEnd)
  else (z.enter cfg c .lockWait).setGroup (groupOf c) (fun g => { g with queue := g.queue ++ [c] })

/-! ## Holds (R53, R54) -/

/-- RELOCK_DELAY; with a relock delay of 0 s, LOCK_WAIT in the same event (R54). -/
def Zone.relock (cfg : Setup) (c : Chan) (z : Zone) : Zone :=
  if cfg.timing.relockDelay = 0 then z.waitClose cfg c
  else z.enter cfg c (.openHold (.relockDelay (cfg.timing.relockDelay * 1000)))

/-- The lane takes "gate withdrawn" (R93): a movement starts or restarts its pass window; a lane with none answers with a
relock claim on the gate, which stands in LANE_HELD. -/
def Zone.gateWithdrawn (cfg : Setup) (c : Chan) (l : LaneNo) (z : Zone) : Zone :=
  let window := some (cfg.timing.passWindow * 1000)
  match (z.lanes.get l).state with
  | .released m => z.setLane l (fun x => { x with state := .released { m with window := window } })
  | .closing m => z.setLane l (fun x => { x with state := .closing { m with window := window } })
  | .heldOpen _ => z
  | .ready => if (z.channels.get c).release then z else z.relock cfg c
  | .closed => if (z.channels.get c).release then z else z.relock cfg c

/-- The channel takes a fresh or an expired hold in OPEN_HOLD (R53). -/
def Zone.hold (cfg : Setup) (c : Chan) (h : Hold) (z : Zone) : Zone :=
  match cfg.kind c, h with
  | .gate, .fresh =>
    let z := z.enter cfg c (.openHold .laneHeld)
    match z.laneOf cfg c with
    | some l => z.gateWithdrawn cfg c l
    | none => z
  | .gate, .expired => z.relock cfg c
  | _, .fresh => z.enter cfg c (.openHold (.holding (cfg.timing.holdTime * 1000)))
  | _, .expired => if z.doorOpen cfg c then z.enter cfg c (.openHold .waitClose) else z.relock cfg c

/-! ## Drives (R52, R55, R68, R69) -/

/-- The drive ends at its sense: the slot is released and the channel enters OPEN_HOLD or RELEASED, or LOCKED. -/
def Zone.endDrive (cfg : Setup) (c : Chan) (z : Zone) : Zone :=
  match (z.channels.get c).state with
  | .unlocking arrival =>
    let z := z.leave c
    if (z.channels.get c).release then z.enter cfg c .released else z.hold cfg c arrival
  | .locking => (z.leave c).enter cfg c .locked
  | _ => z

/-- The over-current qualifier as it starts with a drive or a reversal (R69). -/
def Setup.ocStart (cfg : Setup) (c : Chan) : OcQual :=
  ⟨cfg.policy.ocMode.get (groupOf c), cfg.timing.ocQualify, cfg.timing.ocQualify, false⟩

/-- The drive starts toward the end of `st` (UNLOCKING or LOCKING), with the drive timer and the over-current qualifier from
the settings in force; when its sense is already asserted it ends in the same event. -/
def Zone.drive (cfg : Setup) (c : Chan) (st : ChanState) (z : Zone) : Zone :=
  let z := z.setChan c (fun ch =>
    { ch.enter cfg c st with driveLeft := some cfg.timing.driveTimeout, oc := some (cfg.ocStart c) })
  let ch := z.channels.get c
  match st with
  | .unlocking _ => if ch.withdrawn then z.endDrive cfg c else z
  | _ => if ch.home then z.endDrive cfg c else z

/-- The channel takes a slot, the lower-numbered free one first (R62). -/
def Group.take (c : Chan) (g : Group) : Group := if g.slot0.isNone then { g with slot0 := some c } else { g with slot1 := some c }

/-- One grant: when a slot is free and a channel waits, the head of the queue takes the slot and begins its drive (R62). -/
def Zone.grant (cfg : Setup) (g : Grp) (z : Zone) : Zone :=
  let x := z.groups.get g
  match x.queue with
  | [] => z
  | c :: rest =>
    if x.slot0.isNone || x.slot1.isNone then
      let z := z.setGroup g (fun x => { x with queue := rest }.take c)
      match (z.channels.get c).state with
      | .unlockWait arrival => z.drive cfg c (.unlocking arrival)
      | _ => z.drive cfg c .locking
    else z

/-- Grants while a slot is free and a channel waits. A channel of the eight asks at most twice in one event. -/
def Zone.grants (cfg : Setup) (g : Grp) : Nat → Zone → Zone
  | 0, z => z
  | n + 1, z => Zone.grants cfg g n (z.grant cfg g)

/-- The arbiter of a channel's group settles: every request made and every slot released in this event is taken. -/
def Zone.settle (cfg : Setup) (c : Chan) (z : Zone) : Zone := z.grants cfg (groupOf c) 32

/-! ## Claims -/

/-- An open claim (R50). -/
def Zone.openClaim (cfg : Setup) (c : Chan) (z : Zone) : Zone :=
  match (z.channels.get c).state with
  | .locked => (z.waitOpen cfg c .fresh).settle cfg c
  | .unlockWait _ => z.enter cfg c (.unlockWait .fresh)
  | .unlocking _ => z.enter cfg c (.unlocking .fresh)
  | .openHold _ => (z.hold cfg c .fresh).settle cfg c
  | .lockWait => ((z.leave c).hold cfg c .fresh).settle cfg c
  | .locking => (z.drive cfg c (.unlocking .fresh)).settle cfg c
  | .fault =>
    match cfg.policy.scope.get (groupOf c) with
    | .isolate => (z.waitOpen cfg c .fresh).settle cfg c
    | .group => z
  | .off => z
  | .released => z
  | .inhibited _ => z

/-- A lane's relock claim on its gate (R61). -/
def Zone.relockClaim (cfg : Setup) (c : Chan) (z : Zone) : Zone :=
  let ch := z.channels.get c
  if ch.release then z
  else
    match ch.state with
    | .openHold (.relockDelay _) => z
    | .openHold _ => (z.relock cfg c).settle cfg c
    | .unlockWait _ => if ch.home then (z.leave c).enter cfg c .locked else z.enter cfg c .lockWait
    | .unlocking _ => (z.drive cfg c .locking).settle cfg c
    | .inhibited _ => z.enter cfg c (.inhibited .closedEnd)
    | .locked => z
    | .lockWait => z
    | .locking => z
    | .fault => z
    | .released => z
    | .off => z

/-- The target end of an INHIBITED channel after a release claim (R64, R79). -/
def Target.toOpen : Target → Target
  | .openEnd a => .openEnd a
  | _ => .openEnd .expired

/-- A release claim (R64). The arrival hold it gives is EXPIRED (log entry 12). -/
def Zone.releaseClaim (cfg : Setup) (c : Chan) (z : Zone) : Zone :=
  if cfg.inUse c then
    let z := z.setChan c (fun ch => { ch with release := true })
    let ch := z.channels.get c
    match ch.state with
    | .locked => (z.waitOpen cfg c .expired).settle cfg c
    | .openHold _ => if ch.withdrawn then z.enter cfg c .released else (z.waitOpen cfg c .expired).settle cfg c
    | .lockWait => (z.leave c).enter cfg c .released
    | .locking => (z.drive cfg c (.unlocking .expired)).settle cfg c
    | .fault => (z.waitOpen cfg c .expired).settle cfg c
    | .inhibited t => z.enter cfg c (.inhibited t.toOpen)
    | .unlockWait _ => z
    | .unlocking _ => z
    | .released => z
    | .off => z
  else z

/-- An end-of-release claim (R65). -/
def Zone.endRelease (cfg : Setup) (c : Chan) (z : Zone) : Zone :=
  if cfg.inUse c then
    let z := z.setChan c (fun ch => { ch with release := false })
    match (z.channels.get c).state with
    | .released => (z.hold cfg c .expired).settle cfg c
    | .unlockWait _ => z.enter cfg c (.unlockWait .expired)
    | .unlocking _ => z.enter cfg c (.unlocking .expired)
    | _ => z
  else z

/-- The channel is placed by its bolt senses, as the relock sweep places it (R67). -/
def Zone.place (cfg : Setup) (c : Chan) (z : Zone) : Zone :=
  match cfg.kind c with
  | .none => z.enter cfg c .off
  | _ => if (z.channels.get c).home then z.enter cfg c .locked else (z.hold cfg c .expired).settle cfg c

/-- The qualified inputs of a channel taken from the present input levels, its qualifiers stopped (R47). The privacy input is
qualified on CABIN channels alone (R49). The door-held timer goes on over a door that stays open in OPEN_HOLD, and with no door
open there it stops and its marker clears (R57); that it starts over a door found open is the model's choice (log entry 31). -/
def Channel.requalify (cfg : Setup) (pins : Pins) (c : Chan) (ch : Channel) : Channel :=
  let x := cfg.channels.get c
  let contact := pins.contact.get c == x.contactHigh
  let doorWatched := ch.state.isOpenHold && cfg.watched c && contact
  { ch with
    contact := contact
    privacy := x.kind == .cabin && pins.privacy.get c == x.privacyHigh
    contactQual := none
    privacyQual := none
    doorHeld :=
      if doorWatched then
        if ch.doorHeld.isSome || ch.heldReported then ch.doorHeld else some (cfg.timing.doorHeld * 1000)
      else none
    heldReported := doorWatched && ch.heldReported }

/-- The senses and the qualified inputs of a channel taken from the present input levels (R47, R67). -/
def Channel.readInputs (cfg : Setup) (pins : Pins) (c : Chan) (ch : Channel) : Channel :=
  { ch.requalify cfg pins c with home := pins.home.get c, withdrawn := pins.withdrawn.get c }

/-! ## Protection (chapter 4) -/

/-- The target end, and the arrival hold kept, of a channel stopped by a group inhibition (R74). -/
def ChanState.stopped (kind : ChanKind) : ChanState → Target
  | .locked => .closedEnd
  | .unlockWait a => .openEnd a
  | .unlocking a => .openEnd a
  | .openHold .laneHeld => if kind = .gate then .openEnd .fresh else .openEnd .expired
  | .openHold _ => .openEnd .expired
  | .lockWait => .closedEnd
  | .locking => .closedEnd
  | .fault => .noEnd
  | .inhibited t => t
  | .released => .openEnd .expired
  | .off => .noEnd

/-- ISOLATE scope: the faulting channel stops and enters FAULT (R73). -/
def Zone.isolate (cfg : Setup) (c : Chan) (z : Zone) : Zone := ((z.leave c).enter cfg c .fault).settle cfg c

/-- The group's slots are released and its queue is empty. -/
def Group.clear (g : Group) : Group := { g with slot0 := none, slot1 := none, queue := [] }

/-- One channel is inhibited by its group's latch. -/
def Zone.inhibit (cfg : Setup) (c : Chan) (z : Zone) : Zone :=
  match (z.channels.get c).state with
  | .off => z
  | st => z.enter cfg c (.inhibited (st.stopped (cfg.kind c)))

/-- GROUP scope: the fault latch is set and every channel of the group that is not OFF enters INHIBITED (R74). -/
def Zone.inhibitGroup (cfg : Setup) (g : Grp) (z : Zone) : Zone :=
  (members g).foldl (fun z c => z.inhibit cfg c) (z.setGroup g (fun x => { x.clear with latch := true }))

/-- One channel when its rail falls (R78). -/
def Zone.undervolt (cfg : Setup) (c : Chan) (z : Zone) : Zone :=
  match (z.channels.get c).state with
  | .unlocking a => z.enter cfg c (.inhibited (.openEnd a))
  | .locking => z.enter cfg c (.inhibited .closedEnd)
  | .unlockWait a => z.enter cfg c (.inhibited (.openEnd a))
  | .lockWait => z.enter cfg c (.inhibited .closedEnd)
  | .fault => z.enter cfg c (.inhibited .noEnd)
  | _ => z

/-- The rail monitor moves to UNDERVOLTAGE and the group is inhibited by it (R78). -/
def Zone.railLow (cfg : Setup) (g : Grp) (z : Zone) : Zone :=
  (members g).foldl (fun z c => z.undervolt cfg c)
    (z.setGroup g (fun x => { x.clear with rail := .undervoltage, railCount := 0 }))

/-- One INHIBITED channel resumes toward its target (R80). -/
def Zone.resume (cfg : Setup) (c : Chan) (z : Zone) : Zone :=
  let ch := z.channels.get c
  match ch.state with
  | .inhibited (.openEnd a) =>
    if ch.withdrawn then
      if ch.release then z.enter cfg c .released else (z.hold cfg c a).settle cfg c
    else (z.waitOpen cfg c a).settle cfg c
  | .inhibited .closedEnd => if ch.home then z.enter cfg c .locked else (z.waitClose cfg c).settle cfg c
  | .inhibited .noEnd => z.enter cfg c .fault
  | _ => z

/-- A group recovers: its INHIBITED channels resume in ascending number (R80). -/
def Zone.recover (cfg : Setup) (g : Grp) (z : Zone) : Zone := (members g).foldl (fun z c => z.resume cfg c) z

/-- The fault kind joins the record of the channel (R75). -/
def FaultRecord.take (k : FaultKind) (now : ShipTime) (r : FaultRecord) : FaultRecord :=
  if r.kinds.isEmpty then ⟨r.kinds.add k, now, 1⟩ else { r with kinds := r.kinds.add k, count := satInc r.count }

/-! ## Doors (R54 to R57) -/

/-- The door of a watched channel opens: the closing stages and the relock are stopped, and the door-held timer starts in
OPEN_HOLD (R54, R55, R57). FORCED is raised by the caller. -/
def Zone.doorOpens (cfg : Setup) (c : Chan) (z : Zone) : Zone :=
  let z := z.setChan c (fun ch => { ch with contact := true })
  let hold := fun (z : Zone) => z.setChan c (fun ch => { ch with doorHeld := some (cfg.timing.doorHeld * 1000) })
  match (z.channels.get c).state with
  | .openHold (.relockDelay _) => hold (z.enter cfg c (.openHold .waitClose))
  | .openHold _ => hold z
  | .lockWait => (z.leave c).enter cfg c (.openHold .waitClose)
  | .locking => (z.drive cfg c (.unlocking .expired)).settle cfg c
  | _ => z

/-- The door of a watched channel closes: WAIT_CLOSE ends, and the door-held timer and its marker are cleared (R54, R57). -/
def Zone.doorCloses (cfg : Setup) (c : Chan) (z : Zone) : Zone :=
  let z := z.setChan c (fun ch => { ch with contact := false, doorHeld := none, heldReported := false })
  match (z.channels.get c).state with
  | .openHold .waitClose => (z.relock cfg c).settle cfg c
  | _ => z

end Sys2Proof.Machine
end

