-- ==== Sys2Proof/Machine/Operands.lean ====
section
/-! DEFINITION. What travels in the bodies of the host link: the blocks of section 11.6, the bodies of the notices, the frames on the
line, and the replies of the reader bus (R161, R183 to R190). A body that no table of the spec lays out carries the fields of
its rule in the order of the rule (R183; log entries 8, 9, 10). -/

namespace Sys2Proof.Machine

/-! ## Replies -/

/-- A reply: its result, and the octets that follow the result octet. -/
structure Reply where
  result : Result
  body : List Octet
deriving DecidableEq, Repr

/-- OK with the octets of the reply. -/
def ok (body : List Octet) : Reply := ⟨.ok, body⟩

/-- A refusal carries the result octet alone (R176). -/
def refuse (r : Result) : Reply := ⟨r, []⟩

/-- The kind of a reply: the request kind plus 0x40, or 0x40 for a kind outside 0x01 to 0x3F (R176). -/
def replyKind (kind : Octet) : Octet :=
  if decide (1 ≤ kind.toNat) && decide (kind.toNat ≤ 0x3F) then kind + 0x40 else 0x40

/-- The reply frame to a request (R176). -/
def Reply.frame (request : Frame) (r : Reply) : Frame := ⟨replyKind request.kind, request.tag, r.result.code :: r.body⟩

/-! ## Fields -/

/-- One octet. -/
def o1 (n : Nat) : List Octet := be 1 n

/-- A flag or mark. -/
def flag (b : Bool) : List Octet := be 1 (flagCode b)

/-- A pair of named values, the first coded 0. -/
def pair (first : Bool) : List Octet := be 1 (pairCode first)

def cardOctets (card : CardNo) : List Octet := be 7 card.toNat

/-- A card number that may be absent: 0 when absent (R183). -/
def cardOctets? (card : Option CardNo) : List Octet := cardOctets (card.getD 0)

def timeOctets (t : ShipTime) : List Octet := be 4 t.toNat

/-- A folio slot: 0xFFFF when absent (R183). -/
def slotOctets (slot : Option Nat) : List Octet := be 2 (slot.getD 0xFFFF)

/-- A time remaining: 0xFFFFFFFF when stopped (R183). -/
def leftOctets (left : Option Nat) : List Octet := be 4 (left.getD 0xFFFFFFFF)

/-- The time of an optional end of validity. -/
def endOctets (t : Option ShipTime) : List Octet := timeOctets (t.getD 0)

/-! ## The card entry (R186) -/

def Grant.octets : Grant → List Octet
  | .door n => o1 0 ++ be 2 n
  | .span code => o1 1 ++ be 2 code

def Known.privileges (k : Known) : Nat := flagCode k.mayCharge + 2 * flagCode k.adult + 4 * flagCode k.officer

def Known.validityFlags (k : Known) : Nat := flagCode k.validFrom.isSome + 2 * flagCode k.validUntil.isSome

/-- The card entry block of a known entry. -/
def Known.block (card : CardNo) (k : Known) : List Octet :=
  cardOctets card ++ o1 k.holder.category.code ++ o1 k.status.code ++ slotOctets k.folio ++ o1 k.privileges ++
    o1 k.validityFlags ++ endOctets k.validFrom ++ endOctets k.validUntil ++ o1 k.presence.code ++ o1 k.grants.length ++
    k.grants.flatMap Grant.octets

def engagementOctets : Option Engagement → List Octet
  | none => o1 0 ++ o1 0
  | some (.movement l) => o1 2 ++ o1 l
  | some (.charge t) => o1 3 ++ o1 t

def Holder.tailOctets : Holder → List Octet
  | .caller idle reported => be 2 idle ++ flag reported
  | _ => be 2 0 ++ flag false

/-- What CARD GET returns of an entry at a position (R21, R186). -/
def Entry.octets (i : Nat) (e : Entry) : List Octet :=
  match e.body with
  | .known k => be 2 i ++ k.block e.card ++ engagementOctets k.engaged ++ timeOctets k.lastSeen ++ k.holder.tailOctets
  | .pending h => be 2 i ++ cardOctets e.card ++ o1 3 ++ o1 1 ++ o1 (address h.reader) ++ timeOctets h.arrival

/-- The fields of a CARD PUT after its first check: the card, and the entry as a new one would be filled (R7). -/
structure CardPut where
  card : CardNo
  entry : Known
deriving DecidableEq, Repr

/-- One grant of a body (R3, R186). -/
def grantOf (body : List Octet) : Option Grant :=
  match fields [1, 2] body with
  | [0, n] => if n ≤ 4095 then some (.door n) else none
  | [1, code] => if spanValid code then some (.span code) else none
  | _ => none

/-- The grants of a body, three octets each. -/
def grantsOf : Nat → List Octet → Option (List Grant)
  | 0, _ => some []
  | n + 1, body => do
    let g ← grantOf body
    let gs ← grantsOf n (body.drop 3)
    return g :: gs

def holderOf (c : Category) : Holder :=
  match c with
  | .guest => .guest
  | .crew => .crew
  | .caller => .caller 0 false

/-- A folio slot of a body: absent, in range, or out of range (R6, R183). -/
def slotOf (n : Nat) : Option (Option Nat) :=
  if n = 0xFFFF then some none else if n < Config.folioSlots then some (some n) else none

/-- The validity window is as R4 requires. -/
def windowOk (c : Category) (vf vu : Option ShipTime) : Bool :=
  (match vf, vu with
    | some f, some u => decide (f ≤ u)
    | _, _ => true) &&
  (c != .caller || vu.isSome)

/-- The first check of CARD PUT (R6) over a body of 23, 26, 29 or 32 octets (R186). -/
def cardPutOf (body : List Octet) : Option CardPut :=
  match fields [7, 1, 1, 2, 1, 1, 4, 4, 1, 1] body with
  | [card, kind, status, slot, priv, vflags, from_, until_, presence, count] => do
    let c ← categoryOf kind
    let st ← cardStatusOf status
    let p ← presenceOf presence
    let slot ← slotOf slot
    if 3 < count ∨ body.length ≠ 23 + 3 * count ∨ 8 ≤ priv ∨ 4 ≤ vflags then none
    let gs ← grantsOf count (body.drop 23)
    let vf := if vflags.testBit 0 then some (BitVec.ofNat 32 from_) else none
    let vu := if vflags.testBit 1 then some (BitVec.ofNat 32 until_) else none
    if cardValid (BitVec.ofNat 56 card) && windowOk c vf vu then
      some ⟨BitVec.ofNat 56 card,
        { holder := holderOf c, status := st, folio := slot, mayCharge := priv.testBit 0, adult := priv.testBit 1
          officer := priv.testBit 2, grants := gs, validFrom := vf, validUntil := vu, presence := p, engaged := none
          lastSeen := 0 }⟩
    else none
  | _ => none

/-! ## Folio and journal blocks (R187, R188) -/

/-- The folio record block; an EMPTY slot has zero fields. -/
def folioBlock (slot : Nat) : Option Folio → List Octet
  | some f =>
    be 2 slot ++ o1 f.state.code ++ be 4 f.allowance ++ be 4 f.spent ++ be 4 f.threshold ++ be 2 f.refs
  | none => be 2 slot ++ o1 0 ++ be 4 0 ++ be 4 0 ++ be 4 0 ++ be 2 0

/-- The journal entry block. -/
def JournalEntry.block (e : JournalEntry) : List Octet :=
  be 4 e.seq ++ timeOctets e.time ++ o1 (flagCode e.unset + 2 * flagCode e.voided) ++ be 2 e.slot ++ cardOctets e.card ++
    o1 e.till ++ be 4 e.amount ++ o1 e.tier.code ++ be 4 e.ref.toNat

/-- The depth of the journal (R133). -/
def Journal.depth (j : Journal) : Nat := j.entries.length

/-- The oldest sequence, or none (R133). -/
def Journal.oldest (j : Journal) : Option Nat := j.entries.head?.map JournalEntry.seq

/-! ## Alarm sources (R183) -/

/-- The card number of a source, 0 where the kind has none. -/
def Alarm.card : Alarm → CardNo
  | .revokedTap card _ => card
  | .overstay card => card
  | _ => 0

/-- The channel, reader address or lane of a source, 0 where the kind has none. -/
def Alarm.place : Alarm → Nat
  | .forced c => c
  | .held c => c
  | .tamper r => address r
  | .readerLost r => address r
  | .readerRejected r => address r
  | .revokedTap _ r => address r
  | .tailgate l => l
  | .overstay _ => 0

/-- Kind and source. -/
def Alarm.octets (a : Alarm) : List Octet := o1 a.kind.code ++ cardOctets a.card ++ o1 a.place

/-- The alarm that a kind and a source name; none when the source is out of its range (R86). -/
def alarmOf (k : AlarmKind) (card : CardNo) (place : Nat) : Option Alarm :=
  match k with
  | .forced => (indexOf 32 place).map .forced
  | .held => (indexOf 32 place).map .held
  | .tamper => (readerOf place).map .tamper
  | .readerLost => (readerOf place).map .readerLost
  | .readerRejected => (readerOf place).map .readerRejected
  | .revokedTap => if cardValid card then (readerOf place).map (.revokedTap card) else none
  | .tailgate => (indexOf 4 place).map .tailgate
  | .overstay => if cardValid card then some (.overstay card) else none

def AlarmRecord.octets (r : AlarmRecord) : List Octet :=
  r.alarm.octets ++ timeOctets r.first ++ timeOctets r.last ++ be 2 r.count

/-! ## Notices (R184, R189) -/

def Deadline.remaining : Deadline → Nat
  | .running r _ => r
  | .finalCall r _ => r
  | _ => 0

def Deadline.lead : Deadline → Nat
  | .running _ l => l
  | .finalCall _ l => l
  | .expired l => l
  | .none => 0

def Deadline.octets (d : Deadline) : List Octet := o1 d.code ++ be 2 d.remaining ++ o1 d.lead

/-- The resource of a role in a TAP notice (R189). -/
def Role.resource : Role → List Octet
  | .door c => o1 0 ++ o1 c
  | .laneOut l => o1 1 ++ o1 l
  | .laneIn l => o1 2 ++ o1 l
  | .counter t => o1 3 ++ o1 t
  | .none => o1 0 ++ o1 0

def FaultEvent.octets : FaultEvent → List Octet
  | .taken k sc => o1 k.code ++ o1 sc.code
  | .undervoltage => o1 4 ++ o1 0
  | .recovered => o1 5 ++ o1 0
  | .latchReleased => o1 6 ++ o1 0

/-- An approval's authority and sequence, 0 when absent. -/
def approvalOctets : Option Approval → List Octet
  | some a => o1 a.tier.code ++ be 4 a.seq
  | none => o1 0 ++ be 4 0

/-- The body of a notice. Where a rule lists a field with no place among the others, its place here is the model's choice: the mark of an ALARM
notice stands after the repeat count (log entry 10). -/
def Notice.body : Notice → List Octet
  | .start kind kept result mode tag =>
    o1 kind.code ++ flag kept ++ o1 result.code ++ o1 mode.code ++ be 2 Config.partCode ++ o1 Config.revision ++ [tag]
  | .tap r card v role arrival unset queried =>
    o1 (address r) ++ cardOctets card ++ o1 v.code ++ role.resource ++ timeOctets arrival ++
      o1 (flagCode unset + 2 * flagCode queried)
  | .cardQuery card r => cardOctets card ++ o1 (address r)
  | .authQuery t card slot amount ref => o1 t ++ cardOctets card ++ be 2 slot ++ be 4 amount ++ be 4 ref.toNat
  | .chargeResult t outcome card slot amount ref ap unset =>
    o1 t ++ o1 outcome.code ++ cardOctets? card ++ slotOctets slot ++ be 4 amount ++ be 4 ref.toNat ++ approvalOctets ap ++
      flag unset
  | .movement l card cat dir accepted committed changed evac unset =>
    o1 l ++ cardOctets card ++ o1 cat.code ++ o1 dir.code ++ timeOctets accepted ++ timeOctets committed ++ flag changed ++
      flag evac ++ flag unset
  | .lane l card dir accepted cause after =>
    o1 l ++ cardOctets card ++ o1 dir.code ++ timeOctets accepted ++ o1 cause.code ++ o1 after.code
  | .alarm a time count mark unset => a.octets ++ timeOctets time ++ be 2 count ++ o1 mark.code ++ flag unset
  | .fault g c e => o1 g ++ o1 (c.elim 0 (fun c => c.val)) ++ e.octets
  | .authority resolved stoodIn => pair false ++ o1 0 ++ o1 resolved ++ o1 stoodIn
  | .deadline d guest crew caller => d.octets ++ be 2 guest ++ be 2 crew ++ be 2 caller
  | .evacuation state line host cause suspended abandoned =>
    o1 state.code ++ pair line ++ flag host ++ o1 cause.code ++ o1 suspended ++ o1 abandoned
  | .journal depth threshold oldest next exhausted =>
    be 2 depth ++ be 2 threshold ++ be 4 (oldest.getD 0) ++ be 4 next ++ flag exhausted
  | .setupSaved written => pair written

/-- Notice kinds run from 0x80 in the order of R184. -/
def Notice.kind : Notice → Octet
  | .start .. => 0x80
  | .tap .. => 0x81
  | .cardQuery .. => 0x82
  | .authQuery .. => 0x83
  | .chargeResult .. => 0x84
  | .movement .. => 0x85
  | .lane .. => 0x86
  | .alarm .. => 0x87
  | .fault .. => 0x88
  | .authority .. => 0x89
  | .deadline .. => 0x8A
  | .evacuation .. => 0x8B
  | .journal .. => 0x8C
  | .setupSaved .. => 0x8D

/-- A notice travels with tag 0 (R180). -/
def Notice.frame (n : Notice) : Frame := ⟨n.kind, 0, n.body⟩

/-! ## Frames on the line (R184) -/

/-- The octets the check covers: length, kind, tag and body. -/
def Frame.covered (f : Frame) : List Octet := BitVec.ofNat 8 (f.body.length + 2) :: f.kind :: f.tag :: f.body

/-- The octets of a frame on the line. -/
def Frame.octets (f : Frame) : List Octet := Config.startOctet :: f.covered ++ be 2 (crc16 f.covered).toNat

/-- The whole milliseconds a frame takes on the line: ten bit times an octet, rounded up (R173, log entry 16). -/
def Frame.ms (rate : Rate) (f : Frame) : Nat := ((f.body.length + 6) * 10000 + (rate.bits - 1)) / rate.bits

/-! ## The reader bus (R161, R190) -/

/-- A frame from a reader. The octets of a TAMPER state, of an OFFER and of a CONFIRM stand as they came. -/
inductive ReaderFrame where
  | idle
  | present (card : CardNo)
  | tamper (state : Octet)
  | offer (o : Offer)
  | confirm (role index : Octet)
deriving DecidableEq, Repr

/-- What an exchange received (R161). -/
inductive Heard where
  | nothing
  | corrupt
  | valid (f : ReaderFrame)
deriving DecidableEq, Repr

/-- The frame that a kind octet and a body spell, when the body has the size of its kind (R161, R190). That the card number of a PRESENT
is read most significant octet first is the model's choice (log entry 32). -/
def readerFrameOf (kind : Nat) (body : List Octet) : Option ReaderFrame :=
  match kind, body with
  | 0x11, [] => some .idle
  | 0x12, b => if b.length = 7 then some (.present (BitVec.ofNat 56 (num b))) else none
  | 0x13, [t] => some (.tamper t)
  | 0x14, [t, r] => some (.offer ⟨t, r⟩)
  | 0x15, [r, i] => some (.confirm r i)
  | _, _ => none

/-- The kinds of reply that answer each frame of the part (R161). -/
def Sent.answeredBy : Sent → ReaderFrame → Bool
  | .poll, .idle => true
  | .poll, .present _ => true
  | .poll, .tamper _ => true
  | .indicate _, .idle => true
  | .indicate _, .present _ => true
  | .indicate _, .tamper _ => true
  | .probe, .offer _ => true
  | .assign _, .confirm _ _ => true
  | _, _ => false

/-- The exchange classed by what it received (R161): the check, the length, the address and the kind. -/
def Exchange.hear (x : Exchange) : List Octet → Heard
  | [] => .nothing
  | addr :: kind :: len :: rest =>
    let body := rest.dropLast
    if rest.length = len.toNat + 1 ∧ rest.getLast? = some (crc8 (addr :: kind :: len :: body)) ∧
        addr.toNat = address x.reader then
      match readerFrameOf kind.toNat body with
      | some f => if x.sent.answeredBy f then .valid f else .corrupt
      | none => .corrupt
    else .corrupt
  | _ => .corrupt

/-- A frame of the reader bus, in either direction: address, kind, length, body and check (R190). -/
def busOctets (addr kind : Octet) (body : List Octet) : List Octet :=
  let covered := addr :: kind :: BitVec.ofNat 8 body.length :: body
  covered ++ [crc8 covered]

/-- The kind octet of a frame of the part (R190). -/
def Sent.kind : Sent → Octet
  | .poll => 0x01
  | .indicate _ => 0x02
  | .probe => 0x03
  | .assign _ => 0x04

/-- The body of a frame of the part (R190). -/
def Sent.body : Sent → List Octet
  | .poll => []
  | .indicate p => o1 p.code
  | .probe => []
  | .assign r => o1 r.code ++ o1 r.index

/-- The octets that the part sends in an exchange (R161, R190). -/
def Exchange.octets (x : Exchange) : List Octet := busOctets (BitVec.ofNat 8 (address x.reader)) x.sent.kind x.sent.body

end Sys2Proof.Machine
end

