-- ==== Sys2Proof/Machine/Link.lean ====
section
/-! DEFINITION. The host link (chapter 11): the request queue, the busy list and the transmitter, how an event closes, and the
meanings of the four link events. -/

namespace Sys2Proof.Machine

/-! ## The request queue and the busy list (R177, R178) -/

/-- The oldest WAITING entry of the request queue. -/
def oldestWaiting : List QueueEntry → Option Frame
  | [] => none
  | .waiting f :: _ => some f
  | .answered _ :: q => oldestWaiting q

/-- The oldest WAITING entry becomes ANSWERED. -/
def answerOldest (b : Built) : List QueueEntry → List QueueEntry
  | [] => []
  | .waiting _ :: q => .answered b :: q
  | .answered a :: q => .answered a :: answerOldest b q

/-- A well-framed frame is handed up: it joins the request queue, is refused BUSY, or is an overrun (R177, R178). -/
def Link.handUp (f : Frame) (k : Link) : Link :=
  if k.queue.length < Config.requestPlaces then { k with queue := k.queue ++ [.waiting f] }
  else if k.busy.length < Config.busyPlaces then
    { k with
      busy := k.busy ++ [⟨(refuse .busy).frame f, k.built⟩]
      built := k.built + 1
      busyRefusals := satInc k.busyRefusals }
  else { k with overruns := satInc k.overruns }

/-- The reply of the oldest WAITING request is built. -/
def Link.answer (f : Frame) (r : Reply) (k : Link) : Link :=
  { k with queue := answerOldest ⟨r.frame f, k.built⟩ k.queue, built := k.built + 1 }

/-! ## The transmitter (R173, R179, R191) -/

/-- The oldest ANSWERED entry, and the queue without it. -/
def takeAnswered : List QueueEntry → Option (Built × List QueueEntry)
  | [] => none
  | .answered b :: q => some (b, q)
  | .waiting f :: q => (takeAnswered q).map (fun x => (x.1, .waiting f :: x.2))

/-- The notice at the head of the queue. -/
def Link.takeNotice (k : Link) : Option (Frame × Link) :=
  match k.notices with
  | [] => none
  | n :: ns => some (n.frame, { k with notices := ns, lead := k.lead - 1 })

/-- The next frame (R179): the notices of a start, then the reply built earliest, then the head of the notice queue. -/
def Link.nextFrame (k : Link) : Option (Frame × Link) :=
  if 0 < k.lead ∧ k.notices ≠ [] then k.takeNotice
  else
    match takeAnswered k.queue, k.busy with
    | some (b, q), [] => some (b.frame, { k with queue := q })
    | none, b :: bs => some (b.frame, { k with busy := bs })
    | some (a, q), b :: bs =>
      if a.stamp < b.stamp then some (a.frame, { k with queue := q }) else some (b.frame, { k with busy := bs })
    | none, [] => k.takeNotice

/-- The transmitter begins the next frame when it is free and host-ready is high. -/
def Link.transmit (k : Link) : Link :=
  if k.tx.isNone && k.hostReady then
    match k.nextFrame with
    | some (f, k') => { k' with tx := some ⟨f, f.ms k.rate⟩ }
    | none => k
  else k

/-! ## How an event closes -/

/-- The event closes: the free transmitter begins the frame that waits; during start-up it begins none (R179, R191). -/
def State.close (s : State) : State := if s.phase = .running then { s with link := s.link.transmit } else s

/-- The relock test of RECOVERY at a change of a channel (R158). -/
def State.relockTest (s : State) : State :=
  if s.evac.state = .recovery ∧ s.zone.secured s.setup then
    { s with evac := { s.evac with state := .normal } }.notify (.evacuation .normal s.evac.line s.evac.host .relocked 0 0)
  else s

/-- An event that may have changed a channel closes with the relock test (log entry 13). -/
def State.closeZone (s : State) : State := s.relockTest.close

/-- The next state, answered as the outcome of a step. -/
abbrev Out := Host.Outcome State Fault Refusal

/-! ## Carrying out a request (R176, R177) -/

/-- What the owning block does with a request. -/
abbrev Serve := State → State × Reply

/-- Check 2 of R176: the tag is not 0 and the body has a size its kind permits. -/
def framed (tag : Octet) (sizeOk : Bool) (serve : Serve) : Serve :=
  fun s => if tag = 0 || !sizeOk then (s, refuse .malformed) else serve s

/-- The frame is handed up (R177, R178, R191). When the part runs and the frame is the oldest WAITING request already, it has been handed
up and now has its turn (log entry 4). -/
def State.arrive (f : Frame) (s : State) : State :=
  if s.phase = .running ∧ oldestWaiting s.link.queue = some f then s else { s with link := s.link.handUp f }

/-- The oldest WAITING request is carried out by its block and its reply is built. -/
def State.carryOut (f : Frame) (serve : Serve) (s : State) : State :=
  let x := serve s
  { x.1 with link := x.1.link.answer f x.2 }

/-- A request of the host (log entry 4): the frame arrives, and is carried out when it has its turn. -/
def State.request (f : Frame) (serve : Serve) (s : State) : State :=
  let s := s.arrive f
  if s.phase = .running ∧ oldestWaiting s.link.queue = some f then (s.carryOut f serve).close else s.close

/-- A request that may change a channel makes the relock test in its event (R158). -/
def zoned (serve : Serve) : Serve :=
  fun s =>
    let x := serve s
    (x.1.relockTest, x.2)

/-! ## Link events -/

/-- The framer drops its frame and raises a counter by `f` (R175). -/
def State.dropFrame (f : Link → Link) (s : State) : State := { s with link := f { s.link with framer := .hunting } }

/-- The frame that the octets of the framer spell: kind, tag and body after the length octet. -/
def frameOf (got : List Octet) : Option Frame :=
  match got with
  | len :: kind :: tag :: rest => some ⟨kind, tag, rest.take (len.toNat - 2)⟩
  | _ => none

/-- The last check octet has been taken: the frame is handed up, or dropped when its check disagrees (R174, R175). -/
def State.endFrame (got : List Octet) (s : State) : State :=
  let covered := got.dropLast.dropLast
  if got.drop covered.length = be 2 (crc16 covered).toNat then
    let s := { s with link := { s.link with framer := .hunting } }
    match frameOf covered with
    | some f => { s with link := s.link.handUp f }
    | none => s
  else s.dropFrame (fun k => { k with checkErrors := satInc k.checkErrors })

/-- An octet inside a frame (R174, R175). -/
def State.frameOctet (got : List Octet) (s : State) : State :=
  let len := (got.headD 0).toNat
  if len < 2 ∨ 242 < len then s.dropFrame (fun k => { k with lengthErrors := satInc k.lengthErrors })
  else if got.length = len + 3 then s.endFrame got
  else { s with link := { s.link with framer := .inFrame got Config.gapMs } }

/-- HOST_OCTET_RECEIVED (R174). -/
def execHostOctetReceived (o : Octet) (s : State) : Out :=
  .next (match s.link.framer with
    | .hunting =>
      if o = Config.startOctet then { s with link := { s.link with framer := .inFrame [] Config.gapMs } }
      else { s with link := { s.link with strayOctets := satInc s.link.strayOctets } }
    | .inFrame got _ => (s.frameOctet (got ++ [o])).close)

/-- GAP_TIMEOUT (R175): more than 20 ms between two octets of a frame. -/
def execGapTimeout (s : State) : Out :=
  .next (match s.link.framer with
    | .hunting => s
    | .inFrame _ _ => s.dropFrame (fun k => { k with gapTimeouts := satInc k.gapTimeouts }))

/-- HOST_READY_HIGH (R173): the transmitter begins its next frame. -/
def execHostReadyHigh (s : State) : Out :=
  .next { s with pins := { s.pins with hostReady := true }, link := { s.link with hostReady := true } }.close

/-- TRANSMIT_FRAME_END (R179): the frame ends and the transmitter chooses the next. -/
def execTransmitFrameEnd (s : State) : Out :=
  .next { s with link := { s.link with tx := none } }.close

end Sys2Proof.Machine
end

