-- ==== Sys2Proof/Machine/Decision.lean ====
section
/-! DEFINITION. The pieces of a decision that the lanes and tills use: indications (R43, R169), the close of a decision (R28, R29) and
the TAP notice (R44). -/

namespace Sys2Proof.Machine

/-- The decider hands a pattern for a reader: an ACTIVE reader's slot takes it, replacing one that waits (R43, R169). -/
def Reader.indicate (p : Pattern) (rd : Reader) : Reader :=
  if rd.enrol = .active then { rd with slot := some p } else rd

/-- The decision at a reader closes: the marker is cleared and the repeat filter remembers the card (R28, R29). -/
def Reader.closeDecision (window : Nat) (card : CardNo) (rd : Reader) : Reader :=
  { rd with marker := none, memory := if window = 0 then none else some ⟨card, window * 1000⟩ }

def State.closeDecision (r : ReaderNo) (card : CardNo) (p : Pattern) (s : State) : State :=
  s.setReader r (fun rd => (rd.indicate p).closeDecision s.setup.timing.repeatWindow card)

/-- The decision waits at a stage and the reader is shown WAIT, the AMBER pattern (R28, R43). -/
def State.waitDecision (r : ReaderNo) (card : CardNo) (arrival : ShipTime) (stage : Stage) (s : State) : State :=
  s.setReader r (fun rd => { rd.indicate .amber with marker := some ⟨card, arrival, stage⟩ })

/-- The TAP notice of a decided presentation (R44). -/
def State.tap (r : ReaderNo) (card : CardNo) (v : Verdict) (arrival : ShipTime) (queried : Bool) (s : State) : State :=
  s.notify (.tap r card v (s.readers.get r).role arrival (!s.clock.valid) queried)

/-- The indication of an outcome that closes its decision at once (R42). -/
def Verdict.pattern : Verdict → Pattern
  | .granted => .green
  | .accepted => .green
  | .chargeTaken => .green
  | .evacuation => .amber
  | _ => .red

/-- A decision whose outcome is known ends: its TAP notice is sent and it closes. -/
def State.finish (r : ReaderNo) (card : CardNo) (arrival : ShipTime) (queried : Bool) (v : Verdict) (s : State) : State :=
  (s.tap r card v arrival queried).closeDecision r card v.pattern

end Sys2Proof.Machine
end

