-- ==== Sys2Proof/Machine/Lanes.lean ====
section
/-! DEFINITION. The lane controller and the deadline counter (chapter 5): movements from acceptance to their end, the evacuation claims,
the lane and deadline requests, and the lane events. -/

namespace Sys2Proof.Machine

/-! ## Movements -/

/-- The engagement of a card is cleared when it is `e` (R15). -/
def State.disengage (card : CardNo) (e : Engagement) (s : State) : State :=
  s.changeKnown card (fun k => if k.engaged = some e then { k with engaged := none } else k)

/-- A lane accepts a card (R92): the movement is recorded, the card engaged, and the gate claimed open. -/
def State.acceptLane (l : LaneNo) (card : CardNo) (dir : Dir) (arrival : ShipTime) (s : State) : State :=
  let s := s.onZone (·.setLane l (fun x => { x with state := .released ⟨card, dir, arrival, none⟩ }))
  let s := s.changeKnown card (fun k => { k with engaged := some (.movement l) })
  s.onZone (·.openClaim s.setup (s.setup.lanes.get l).gate)

/-- The committed counter of a direction rises (R95). -/
def Lane.countCommit (dir : Dir) (x : Lane) : Lane :=
  match dir with
  | .out => { x with committedOut := satInc x.committedOut }
  | .in => { x with committedIn := satInc x.committedIn }

/-- The card of a committed movement comes to its arrival side, the counter rises and the MOVEMENT notice is sent (R95, R104). -/
def State.commitCard (l : LaneNo) (card : CardNo) (dir : Dir) (accepted : ShipTime) (evac : Bool) (s : State) : State :=
  let was := s.known card
  let s := s.changeKnown card (fun k =>
    { k with presence := dir.arrival, engaged := if k.engaged = some (.movement l) then none else k.engaged })
  let s := s.onZone (·.setLane l (·.countCommit dir))
  s.notify (.movement l card (was.elim .guest (·.holder.category)) dir accepted s.clock.time
    (was.elim false (fun k => k.presence == dir.departure)) evac (!s.clock.valid))

/-- The lane state after a movement ends (R95, R97). -/
def LaneState.ended : LaneState → LaneState
  | .released _ => .ready
  | .closing _ => .closed
  | st => st

/-- A commit (R95). -/
def State.commit (l : LaneNo) (m : Movement) (s : State) : State :=
  let s := s.onZone (·.setLane l (fun x => { x with state := x.state.ended }))
  let s := s.commitCard l m.card m.dir m.accepted false
  s.onZone (·.relockClaim s.setup (s.setup.lanes.get l).gate)

/-- An abandonment (R97); `after` is the lane state it leaves. -/
def State.abandon (l : LaneNo) (m : Movement) (cause : AbandonCause) (after : LaneState) (s : State) : State :=
  let s := s.onZone (·.setLane l (fun x => { x with state := after, abandoned := satInc x.abandoned }))
  let s := s.disengage m.card (.movement l)
  let s := s.notify (.lane l m.card m.dir m.accepted cause after)
  s.onZone (·.relockClaim s.setup (s.setup.lanes.get l).gate)

/-- The pending movement of a lane state (R89). -/
def LaneState.movement : LaneState → Option Movement
  | .released m => some m
  | .closing m => some m
  | _ => none

/-- A lane abandons its movement, if it holds one. -/
def State.abandonMovement (l : LaneNo) (cause : AbandonCause) (s : State) : State :=
  let st := (s.zone.lanes.get l).state
  match st.movement with
  | some m => s.abandon l m cause st.ended
  | none => s

/-- An unattributed passage (R98). -/
def State.unattributed (l : LaneNo) (s : State) : State :=
  (s.onZone (·.setLane l (fun x => { x with unattributed := satInc x.unattributed }))).raise (.tailgate l)

/-- A lane takes a passage edge (R94). -/
def State.lanePassage (l : LaneNo) (s : State) : State :=
  match (s.zone.lanes.get l).state with
  | .released m => s.commit l m
  | .closing m => s.commit l m
  | .ready => s.unattributed l
  | .closed => s.unattributed l
  | .heldOpen _ => s

/-- A gate hands a passage edge to its lane, or to no one (R60). -/
def State.passage (c : Chan) (s : State) : State :=
  match (s.zone.channels.get c).state, s.zone.laneOf s.setup c with
  | .off, _ => s
  | _, some l => s.lanePassage l
  | _, none => s

/-! ## Evacuation at the lanes -/

/-- The return state an evacuation claim records (R103). -/
def LaneState.returning : LaneState → Return
  | .ready => .ready
  | .released _ => .ready
  | .heldOpen r => r
  | .closed => .closed
  | .closing _ => .closed

/-- An evacuation claim on a lane (R103). -/
def State.evacuateLane (l : LaneNo) (s : State) : State :=
  if s.zone.laneUsed s.setup l then
    let st := (s.zone.lanes.get l).state
    match st.movement with
    | some m => s.abandon l m .evacuation (.heldOpen st.returning)
    | none => s.onZone (·.setLane l (fun x => { x with state := .heldOpen st.returning }))
  else s

/-- An end-of-evacuation claim on a lane (R106). -/
def State.returnLane (l : LaneNo) (s : State) : State :=
  if s.zone.laneUsed s.setup l then
    match (s.zone.lanes.get l).state with
    | .heldOpen .ready => s.onZone (·.setLane l (fun x => { x with state := .ready }))
    | .heldOpen .closed => s.onZone (·.setLane l (fun x => { x with state := .closed }))
    | _ => s
  else s

/-! ## Lane requests -/

/-- The lane state and the return state of a reply (R90, R91). -/
def LaneState.octets (st : LaneState) : List Octet :=
  o1 st.code ++ o1 (match st with
    | .heldOpen r => r.code
    | _ => 0)

def laneReply (l : LaneNo) (s : State) : Reply := ok (s.zone.lanes.get l).state.octets

/-- The effect of LANE OPEN (R90). -/
def LaneState.open : LaneState → LaneState
  | .closed => .ready
  | .closing m => .released m
  | .heldOpen _ => .heldOpen .ready
  | .ready => .ready
  | .released m => .released m

/-- The effect of LANE CLOSE (R91). -/
def LaneState.close : LaneState → LaneState
  | .ready => .closed
  | .released m => .closing m
  | .heldOpen _ => .heldOpen .closed
  | .closed => .closed
  | .closing m => .closing m

/-- LANE OPEN at its lane (R90). -/
def serveLaneOpen (tag : Octet) (body : List Octet) : Serve :=
  framed tag (body.length = 1) fun s =>
    match indexOf 4 (num body) with
    | none => (s, refuse .range)
    | some l =>
      if s.inMaintenance then (s, refuse .maintenance)
      else if !s.zone.laneUsed s.setup l then (s, refuse .state)
      else
        let s := s.onZone (·.setLane l (fun x => { x with state := x.state.open }))
        (s, laneReply l s)

/-- LANE CLOSE at its lane (R91). -/
def serveLaneClose (tag : Octet) (body : List Octet) : Serve :=
  framed tag (body.length = 1) fun s =>
    match indexOf 4 (num body) with
    | none => (s, refuse .range)
    | some l =>
      if !s.zone.laneUsed s.setup l then (s, refuse .state)
      else
        let s := s.onZone (·.setLane l (fun x => { x with state := x.state.close }))
        (s, laneReply l s)

/-- The address of the first reader holding a role, or 0 (log entry 14). -/
def State.holderAddress (s : State) (r : Role) : Nat := (s.holders r).head?.elim 0 address

/-- The pending movement of a lane status (R102). -/
def movementOctets : Option Movement → List Octet
  | some m =>
    cardOctets m.card ++ o1 m.dir.code ++ timeOctets m.accepted ++ o1 (flagCode m.window.isSome) ++ be 4 (m.window.getD 0)
  | none => cardOctets 0 ++ o1 0 ++ be 4 0 ++ o1 0 ++ be 4 0

/-- The reply to LANE STATUS (R102). -/
def laneStatusOctets (l : LaneNo) (s : State) : List Octet :=
  let x := s.zone.lanes.get l
  let cfg := s.setup.lanes.get l
  pair (s.zone.laneUsed s.setup l) ++ o1 cfg.dir.code ++ o1 cfg.gate ++ o1 (s.holderAddress (.laneOut l)) ++
    o1 (s.holderAddress (.laneIn l)) ++ x.state.octets ++ movementOctets x.state.movement ++ be 2 x.committedOut ++
    be 2 x.committedIn ++ be 2 x.abandoned ++ be 2 x.unattributed

/-- The lane with its counters at 0 (R88, R102). -/
def Lane.clearCounts (x : Lane) : Lane := { x with committedOut := 0, committedIn := 0, abandoned := 0, unattributed := 0 }

/-- LANE STATUS (R102). -/
def serveLaneStatus (tag : Octet) (body : List Octet) : Serve :=
  framed tag (body.length = 2) fun s =>
    match fields [1, 1] body with
    | [lane, clear] =>
      match indexOf 4 lane, flagOf clear with
      | some l, some cl =>
        (if cl then s.onZone (·.setLane l Lane.clearCounts) else s, ok (laneStatusOctets l s))
      | _, _ => (s, refuse .range)
    | _ => (s, refuse .malformed)

def execLaneOpen (tag : Octet) (body : List Octet) (s : State) : Out :=
  .next (s.request ⟨0x10, tag, body⟩ (serveLaneOpen tag body))

def execLaneClose (tag : Octet) (body : List Octet) (s : State) : Out :=
  .next (s.request ⟨0x11, tag, body⟩ (serveLaneClose tag body))

def execLaneStatus (tag : Octet) (body : List Octet) (s : State) : Out :=
  .next (s.request ⟨0x12, tag, body⟩ (serveLaneStatus tag body))

/-! ## The deadline -/

/-- The three ashore counts follow a deadline record in DEADLINE notices and DEADLINE GET (R101). -/
def State.deadlineNotice (s : State) : Notice :=
  .deadline s.deadline s.tally.guestAshore s.tally.crewAshore s.tally.callerAshore

/-- The deadline counter enters a state with a DEADLINE notice (R108). -/
def State.enterDeadline (d : Deadline) (s : State) : State :=
  let s := { s with deadline := d }
  s.notify s.deadlineNotice

/-- The deadline counter takes a minute tick (R108). -/
def State.deadlineTick (s : State) : State :=
  match s.deadline with
  | .none => s
  | .expired _ => s
  | .running r l =>
    if r ≤ 1 then s.enterDeadline (.expired l)
    else if r - 1 ≤ l then s.enterDeadline (.finalCall (r - 1) l)
    else { s with deadline := .running (r - 1) l }
  | .finalCall r l => if r ≤ 1 then s.enterDeadline (.expired l) else { s with deadline := .finalCall (r - 1) l }

/-- DEADLINE SET (R107). -/
def serveDeadlineSet (tag : Octet) (body : List Octet) : Serve :=
  framed tag (body.length = 3) fun s =>
    match fields [2, 1] body with
    | [m, l] =>
      if 1 ≤ m ∧ m ≤ 1440 ∧ l ≤ 120 ∧ l < m then
        ({ s with deadline := .running m l }, ok (Deadline.running m l).octets)
      else (s, refuse .range)
    | _ => (s, refuse .malformed)

/-- DEADLINE CLEAR (R109). -/
def serveDeadlineClear (tag : Octet) (body : List Octet) : Serve :=
  framed tag (body.length = 0) fun s => ({ s with deadline := .none }, ok [])

/-- DEADLINE GET (R109). -/
def serveDeadlineGet (tag : Octet) (body : List Octet) : Serve :=
  framed tag (body.length = 0) fun s => (s, ok s.deadlineNotice.body)

def execDeadlineSet (tag : Octet) (body : List Octet) (s : State) : Out :=
  .next (s.request ⟨0x13, tag, body⟩ (serveDeadlineSet tag body))

def execDeadlineClear (tag : Octet) (body : List Octet) (s : State) : Out :=
  .next (s.request ⟨0x14, tag, body⟩ (serveDeadlineClear tag body))

def execDeadlineGet (tag : Octet) (body : List Octet) (s : State) : Out :=
  .next (s.request ⟨0x15, tag, body⟩ (serveDeadlineGet tag body))

/-! ## Lane and deadline events -/

/-- PASSAGE_EDGE (R60): a gate channel's contact input gives a qualified edge; in LEVEL mode the contact has gone from closed to
open (log entry 19). Nothing on a channel that is no gate. -/
def execPassageEdge (c : Chan) (s : State) : Out :=
  .next (
    if s.setup.kind c = .gate ∧ (s.zone.channels.get c).state ≠ .off then
      ((s.onZone (·.setChan c (fun ch => { ch with contact := true, contactQual := none }))).passage c).closeZone
    else s)

/-- PASS_WINDOW_EXPIRY (R96): nothing when the lane has no movement in PASSING. -/
def execPassWindowExpiry (l : LaneNo) (s : State) : Out :=
  .next (match (s.zone.lanes.get l).state.movement with
    | some ⟨_, _, _, some _⟩ => (s.abandonMovement l .window).closeZone
    | _ => s)

/-- DEADLINE_EXPIRED (R108): the count of a running deadline reaches 0; nothing while more than one minute remains (log entry 18). -/
def execDeadlineExpired (s : State) : Out :=
  .next (if s.deadline.remaining = 1 then s.deadlineTick.close else s)

end Sys2Proof.Machine
end

