-- ==== Sys2Proof/Machine/Tills.lean ====
section
/-! DEFINITION. Tills, folios and the charge journal (chapters 6 and 7): taking the payer's card, the four tiers, the journal write, the
end of a charge, and the requests and timers of the three blocks. -/

namespace Sys2Proof.Machine

/-! ## The journal (R133, R134) -/

/-- The journal reports itself full (R134). -/
def Journal.full (j : Journal) : Bool := decide (Config.journalPlaces ≤ j.depth) || j.exhausted

/-- The write of an entry that carries the next sequence (R133, R134). -/
def Journal.write (e : JournalEntry) (j : Journal) : Journal :=
  if j.next = Config.lastSequence then { entries := j.entries ++ [e], next := j.next, exhausted := true }
  else { entries := j.entries ++ [e], next := j.next + 1, exhausted := j.exhausted }

/-- The JOURNAL notice (R140). -/
def State.journalNotice (s : State) : Notice :=
  .journal s.journal.depth s.setup.timing.highWater s.journal.oldest s.journal.next s.journal.exhausted

/-! ## The end of a charge (R124) -/

/-- The pattern a charge outcome closes its decision with (R41). -/
def ChargeOutcome.pattern : ChargeOutcome → Pattern
  | .approved => .green
  | _ => .red

/-- A charge ends with one outcome (R124): the till is IDLE, the last outcome is set, the engagement cleared, the CHARGE RESULT notice
sent, and the decision of the taken card closed. -/
def State.endCharge (t : TillNo) (c : Charge) (o : ChargeOutcome) (taken : Option (CardNo × ReaderNo)) (slot : Option Nat)
    (ap : Option Approval) (s : State) : State :=
  let card := taken.map Prod.fst
  let s := s.setTill t (fun x => { x with state := .idle, last := some ⟨o, card, c.ref, ap⟩ })
  let s := match taken with
    | some (card, _) => s.disengage card (.charge t)
    | none => s
  let s := s.notify (.chargeResult t o card slot c.amount c.ref ap (!s.clock.valid))
  match taken with
  | some (card, r) => s.closeDecision r card o.pattern
  | none => s

/-- The spent of a folio rises by an amount, for the two tiers that draw on the allowance (R115). -/
def State.chargeFolio (tier : Tier) (slot amount : Nat) (s : State) : State :=
  match tier with
  | .offline => { s with folios := changeFolio (fun f => { f with spent := f.spent + amount }) slot s.folios }
  | .standIn => { s with folios := changeFolio (fun f => { f with spent := f.spent + amount }) slot s.folios }
  | .localTier => s
  | .referred => s

/-- An approval (R123, R134, R140): the journal write, the rise of the spent and the end of the charge in one event, or
DECLINED_JOURNAL_FULL. -/
def State.approve (t : TillNo) (c : Charge) (card : CardNo) (r : ReaderNo) (slot : Nat) (tier : Tier) (s : State) : State :=
  if s.journal.full then s.endCharge t c .declinedJournalFull (some (card, r)) (some slot) none
  else
    let seq := s.journal.next
    let entry : JournalEntry := ⟨seq, s.clock.time, !s.clock.valid, slot, card, t, c.amount, tier, c.ref, false⟩
    let s := { s with journal := s.journal.write entry }
    let s := s.chargeFolio tier slot c.amount
    let s := s.endCharge t c .approved (some (card, r)) (some slot) (some ⟨seq, tier⟩)
    if s.journal.depth = s.setup.timing.highWater then s.notify s.journalNotice else s

/-! ## Taking a card (R121, R122, R125) -/

/-- The folio at a slot is OPEN. -/
def State.folioOpen (s : State) (slot : Nat) : Bool :=
  match tget s.folios slot with
  | some f => f.state == .open
  | none => false

/-- The presence a charge asks for, while presence enforcement is on (R121, R126). -/
def State.presenceOk (s : State) (k : Known) : Bool := !s.setup.policy.presence || k.presence == .aboard

/-- The first card check of R121 that fails. -/
def State.cardCheck (t : TillNo) (k : Known) (s : State) : Option ChargeOutcome :=
  if k.status ≠ .active ∨ (k.folio.elim true s.folioOpen) = false then some .declinedStatus
  else if k.folio.isNone ∨ k.mayCharge = false then some .declinedNoFolio
  else if (s.setup.tills.get t).cls = .alcohol ∧ k.adult = false then some .declinedAge
  else if s.presenceOk k = false then some .declinedPresence
  else none

/-- The charge is referred to the host (R125). -/
def State.refer (t : TillNo) (c : Charge) (card : CardNo) (r : ReaderNo) (arrival : ShipTime) (slot threshold : Nat)
    (s : State) : State :=
  let s := s.setTill t (fun x =>
    { x with state := .authorising c ⟨card, r, slot, threshold⟩ (s.setup.timing.answerTime * 1000) })
  let s := s.changeKnown card (fun k => { k with engaged := some (.charge t) })
  let s := s.notify (.authQuery t card slot c.amount c.ref)
  s.waitDecision r card arrival .awaitingCharge

/-- The tier that the authority and the amount select (R122). -/
def State.tier (t : TillNo) (c : Charge) (card : CardNo) (r : ReaderNo) (arrival : ShipTime) (slot : Nat) (f : Folio)
    (s : State) : State :=
  match s.authority with
  | .online _ =>
    if c.amount ≤ f.threshold then s.approve t c card r slot .localTier
    else s.refer t c card r arrival slot f.threshold
  | .standalone =>
    if c.amount ≤ f.allowance - f.spent then s.approve t c card r slot .offline
    else s.endCharge t c .declinedLimit (some (card, r)) (some slot) none

/-- An ARMED till takes the payer's card (R121, R122). -/
def State.takeCard (t : TillNo) (c : Charge) (card : CardNo) (r : ReaderNo) (arrival : ShipTime) (k : Known) (s : State) :
    State :=
  match s.cardCheck t k with
  | some o => s.endCharge t c o (some (card, r)) k.folio none
  | none =>
    match k.folio.bind (fun slot => (tget s.folios slot).map (Prod.mk slot)) with
    | some (slot, f) => s.tier t c card r arrival slot f
    | none => s.endCharge t c .declinedNoFolio (some (card, r)) k.folio none

/-! ## The end of a referral (R126, R128, R129) -/

/-- The re-check of the taken card and its folio (R126). -/
def State.recheck (p : Payer) (s : State) : Bool :=
  match s.known p.card with
  | some k => k.status == .active && s.folioOpen p.slot && s.presenceOk k
  | none => false

/-- A referral ends with an outcome. -/
def State.endReferral (t : TillNo) (c : Charge) (p : Payer) (o : ChargeOutcome) (s : State) : State :=
  s.endCharge t c o (some (p.card, p.reader)) (some p.slot) none

/-- An approving answer (R126). -/
def State.approveReferral (t : TillNo) (c : Charge) (p : Payer) (s : State) : State :=
  if s.recheck p then s.approve t c p.card p.reader p.slot .referred else s.endReferral t c p .declinedStatus

/-- The part stands in for a referral (R128). -/
def State.standIn (t : TillNo) (s : State) : State :=
  match (s.tills.get t).state with
  | .authorising c p _ =>
    if s.recheck p then
      match tget s.folios p.slot with
      | some f =>
        if c.amount ≤ f.allowance - f.spent then s.approve t c p.card p.reader p.slot .standIn
        else s.endReferral t c p .declinedLimit
      | none => s.endReferral t c p .declinedStatus
    else s.endReferral t c p .declinedStatus
  | _ => s

/-- The open charge of a till ends with an outcome, with no card or with its taken card (R119, R120, R129). -/
def State.dropCharge (t : TillNo) (o : ChargeOutcome) (s : State) : State :=
  match (s.tills.get t).state with
  | .idle => s
  | .armed c _ => s.endCharge t c o none none none
  | .authorising c p _ => s.endReferral t c p o

/-! ## Folio requests (R113, R114) -/

/-- The spent a FOLIO PUT leaves (R113). -/
def putSpent (old : Option Folio) (keep : Bool) (given : Nat) : Nat := if keep then old.elim 0 Folio.spent else given

/-- FOLIO PUT (R113, R187). -/
def serveFolioPut (tag : Octet) (body : List Octet) : Serve :=
  framed tag (body.length = 16) fun s =>
    match fields [2, 1, 4, 4, 1, 4] body with
    | [slot, state, allowance, threshold, mode, given] =>
      match folioStateOf state, flagOf mode with
      | some st, some keep =>
        let old := tget s.folios slot
        let spent := putSpent old keep given
        if slot < Config.folioSlots ∧ allowance ≤ 1000000 ∧ threshold ≤ 999999 ∧ spent ≤ allowance then
          let f : Folio := ⟨st, allowance, spent, threshold, old.elim 0 Folio.refs⟩
          ({ s with folios := tput slot f s.folios }, ok (folioBlock slot (some f) ++ pair old.isNone))
        else (s, refuse .range)
      | _, _ => (s, refuse .range)
    | _ => (s, refuse .malformed)

/-- FOLIO GET (R114). -/
def serveFolioGet (tag : Octet) (body : List Octet) : Serve :=
  framed tag (body.length = 2) fun s =>
    let slot := num body
    if slot < Config.folioSlots then (s, ok (folioBlock slot (tget s.folios slot))) else (s, refuse .range)

/-- FOLIO DELETE (R114). -/
def serveFolioDelete (tag : Octet) (body : List Octet) : Serve :=
  framed tag (body.length = 2) fun s =>
    let slot := num body
    if slot < Config.folioSlots then
      match tget s.folios slot with
      | none => (s, refuse .notFound)
      | some f => if 0 < f.refs then (s, refuse .inUse) else ({ s with folios := tdel slot s.folios }, ok [])
    else (s, refuse .range)

def execFolioPut (tag : Octet) (body : List Octet) (s : State) : Out :=
  .next (s.request ⟨0x16, tag, body⟩ (serveFolioPut tag body))

def execFolioGet (tag : Octet) (body : List Octet) (s : State) : Out :=
  .next (s.request ⟨0x17, tag, body⟩ (serveFolioGet tag body))

def execFolioDelete (tag : Octet) (body : List Octet) (s : State) : Out :=
  .next (s.request ⟨0x18, tag, body⟩ (serveFolioDelete tag body))

/-! ## Till requests -/

/-- CHARGE OPEN (R118). -/
def serveChargeOpen (tag : Octet) (body : List Octet) : Serve :=
  framed tag (body.length = 9) fun s =>
    match fields [1, 4, 4] body with
    | [till, amount, ref] =>
      match indexOf 8 till with
      | none => (s, refuse .range)
      | some t =>
        if ¬(1 ≤ amount ∧ amount ≤ 999999) then (s, refuse .range)
        else if s.inMaintenance then (s, refuse .maintenance)
        else if s.evacuating then (s, refuse .suspended)
        else if !s.tillUsed t then (s, refuse .state)
        else if !(s.tills.get t).state.isIdle then (s, refuse .busy)
        else
          let c : Charge := ⟨amount, BitVec.ofNat 32 ref, s.clock.time⟩
          let st := TillState.armed c (s.setup.timing.armTime * 1000)
          (s.setTill t (fun x => { x with state := st }), ok (o1 st.code ++ timeOctets c.armedAt))
    | _ => (s, refuse .malformed)

/-- CHARGE CANCEL (R120). -/
def serveChargeCancel (tag : Octet) (body : List Octet) : Serve :=
  framed tag (body.length = 1) fun s =>
    match indexOf 8 (num body) with
    | none => (s, refuse .range)
    | some t =>
      if !s.tillUsed t || (s.tills.get t).state.isIdle then (s, refuse .state)
      else (s.dropCharge t .cancelled, ok (o1 TillState.idle.code))

/-- The outcome of the last charge at a till, as an AUTH ANSWER reports it. -/
def State.lastOutcomeOctets (t : TillNo) (s : State) : List Octet := o1 ((s.tills.get t).last.elim 0 (fun x => x.outcome.code))

/-- AUTH ANSWER (R126, R127). -/
def serveAuthAnswer (tag : Octet) (body : List Octet) : Serve :=
  framed tag (body.length = 6) fun s =>
    match fields [1, 4, 1] body with
    | [till, ref, answer] =>
      match indexOf 8 till, pairOf answer with
      | some t, some approve =>
        match (s.tills.get t).state with
        | .authorising c p _ =>
          if c.ref = BitVec.ofNat 32 ref then
            let s := if approve then s.approveReferral t c p else s.endReferral t c p .declinedReferral
            (s, ok (s.lastOutcomeOctets t))
          else (s, refuse .late)
        | _ => (s, refuse .late)
      | _, _ => (s, refuse .range)
    | _ => (s, refuse .malformed)

/-- The fields of a till status that its state carries (R130). -/
def TillState.octets : TillState → List Octet
  | .idle => o1 0 ++ be 4 0 ++ be 4 0 ++ be 4 0 ++ be 4 0 ++ cardOctets 0 ++ o1 0 ++ slotOctets none ++ be 4 0 ++ be 4 0
  | .armed c left =>
    o1 1 ++ be 4 c.amount ++ be 4 c.ref.toNat ++ timeOctets c.armedAt ++ be 4 left ++ cardOctets 0 ++ o1 0 ++
      slotOctets none ++ be 4 0 ++ be 4 0
  | .authorising c p left =>
    o1 2 ++ be 4 c.amount ++ be 4 c.ref.toNat ++ timeOctets c.armedAt ++ be 4 0 ++ cardOctets p.card ++
      o1 (address p.reader) ++ slotOctets (some p.slot) ++ be 4 p.threshold ++ be 4 left

/-- The last outcome: a flag octet that says whether there is one, then its fields (log entry 9). -/
def lastOctets : Option LastOutcome → List Octet
  | none => flag false ++ o1 0 ++ cardOctets 0 ++ be 4 0 ++ be 4 0 ++ o1 0
  | some x =>
    flag true ++ o1 x.outcome.code ++ cardOctets? x.card ++ be 4 x.ref.toNat ++ be 4 (x.approval.elim 0 Approval.seq) ++
      o1 (x.approval.elim 0 (fun a => a.tier.code))

/-- The address of the `i`-th reader holding a role, or 0. -/
def State.nthHolder (s : State) (r : Role) (i : Nat) : Nat := ((s.holders r)[i]?).elim 0 address

/-- TILL STATUS (R130). Of more than two readers that name the till, it names the two of lowest address: the model's choice (log entry
14). -/
def serveTillStatus (tag : Octet) (body : List Octet) : Serve :=
  framed tag (body.length = 1) fun s =>
    match indexOf 8 (num body) with
    | none => (s, refuse .range)
    | some t =>
      let x := s.tills.get t
      (s, ok (pair (s.tillUsed t) ++ o1 (s.setup.tills.get t).cls.code ++ o1 (s.nthHolder (.counter t) 0) ++
        o1 (s.nthHolder (.counter t) 1) ++ x.state.octets ++ lastOctets x.last))

def execChargeOpen (tag : Octet) (body : List Octet) (s : State) : Out :=
  .next (s.request ⟨0x19, tag, body⟩ (serveChargeOpen tag body))

def execChargeCancel (tag : Octet) (body : List Octet) (s : State) : Out :=
  .next (s.request ⟨0x1A, tag, body⟩ (serveChargeCancel tag body))

def execAuthAnswer (tag : Octet) (body : List Octet) (s : State) : Out :=
  .next (s.request ⟨0x1B, tag, body⟩ (serveAuthAnswer tag body))

def execTillStatus (tag : Octet) (body : List Octet) (s : State) : Out :=
  .next (s.request ⟨0x1C, tag, body⟩ (serveTillStatus tag body))

/-! ## Journal requests -/

/-- The entries a JOURNAL FETCH returns (R136). -/
def Journal.fetch (start count : Nat) (j : Journal) : List JournalEntry :=
  (j.entries.filter (fun e => start ≤ e.seq)).take count

/-- JOURNAL FETCH (R136, R188). -/
def serveJournalFetch (tag : Octet) (body : List Octet) : Serve :=
  framed tag (body.length = 5) fun s =>
    match fields [4, 1] body with
    | [start, count] =>
      if 1 ≤ count ∧ count ≤ 8 then
        let j := s.journal
        let es := j.fetch start count
        (s, ok (be 2 j.depth ++ be 4 (j.oldest.getD 0) ++ be 4 j.next ++ flag j.exhausted ++ o1 es.length ++
          es.flatMap JournalEntry.block))
      else (s, refuse .range)
    | _ => (s, refuse .malformed)

/-- The journal after a release through a sequence (R137). -/
def Journal.release (point : Nat) (j : Journal) : Journal := { j with entries := j.entries.filter (fun e => point < e.seq) }

/-- JOURNAL RELEASE (R137). That an empty journal with the exhausted mark clear refuses a release point at or beyond the next sequence
RANGE too, although R137 also says that any release of an empty journal is taken, is the model's choice (log entry 33). -/
def serveJournalRelease (tag : Octet) (body : List Octet) : Serve :=
  framed tag (body.length = 4) fun s =>
    let point := num body
    if s.journal.next ≤ point ∧ s.journal.exhausted = false then (s, refuse .range)
    else
      let j := s.journal.release point
      ({ s with journal := j }, ok (be 2 (s.journal.depth - j.depth) ++ be 2 j.depth ++ be 4 (j.oldest.getD 0)))

/-- The journal with the entry of a sequence VOIDED (R138). -/
def Journal.void (seq : Nat) (j : Journal) : Journal :=
  { j with entries := j.entries.map (fun e => if e.seq = seq then { e with voided := true } else e) }

/-- A void of this authority reduces its folio's spent (R139). -/
def Tier.drawsAllowance : Tier → Bool
  | .offline => true
  | .standIn => true
  | _ => false

/-- CHARGE VOID (R138, R139). -/
def serveChargeVoid (tag : Octet) (body : List Octet) : Serve :=
  framed tag (body.length = 4) fun s =>
    let seq := num body
    match s.journal.entries.find? (fun e => e.seq = seq) with
    | none => (s, refuse .notFound)
    | some e =>
      if e.voided then (s, refuse .state)
      else
        let head := be 4 seq ++ o1 e.tier.code ++ be 2 e.slot ++ be 4 e.amount
        let s := { s with journal := s.journal.void seq }
        match e.tier.drawsAllowance, tget s.folios e.slot with
        | true, some f =>
          let spent := f.spent - e.amount
          ({ s with folios := tput e.slot { f with spent := spent } s.folios }, ok (head ++ flag true ++ be 4 spent))
        | _, _ => (s, ok (head ++ flag false ++ be 4 0))

def execJournalFetch (tag : Octet) (body : List Octet) (s : State) : Out :=
  .next (s.request ⟨0x1D, tag, body⟩ (serveJournalFetch tag body))

def execJournalRelease (tag : Octet) (body : List Octet) (s : State) : Out :=
  .next (s.request ⟨0x1E, tag, body⟩ (serveJournalRelease tag body))

def execChargeVoid (tag : Octet) (body : List Octet) (s : State) : Out :=
  .next (s.request ⟨0x1F, tag, body⟩ (serveChargeVoid tag body))

/-! ## Till timers -/

/-- ARM_TIMER_EXPIRY (R119): nothing when the till is not ARMED. -/
def execArmTimerExpiry (t : TillNo) (s : State) : Out :=
  .next (match (s.tills.get t).state with
    | .armed _ _ => (s.dropCharge t .expired).close
    | _ => s)

/-- ANSWER_TIMER_EXPIRY (R128): nothing when the till is not AUTHORISING. -/
def execAnswerTimerExpiry (t : TillNo) (s : State) : Out :=
  .next (match (s.tills.get t).state with
    | .authorising _ _ _ => (s.standIn t).close
    | _ => s)

end Sys2Proof.Machine
end

