-- ==== Sys2Proof/Machine/Decider.lean ====
section
/-! DEFINITION. The presentation decider (chapter 2): the two discard tests, the ordered checks, held queries, and the repeat timer. -/

namespace Sys2Proof.Machine

/-! ## The ordered checks (R30 to R41) -/

/-- The door number of a grant match: covered by some grant, and by some DOOR grant (R38). -/
def Known.covers (k : Known) (d : Nat) : Bool := k.grants.any (·.covers d)

/-- The match is single-door: a DOOR grant of the card covers the door (R38). -/
def Known.singleDoor (k : Known) (d : Nat) : Bool := k.grants.contains (.door d)

/-- A channel that a door or lane decision cannot drive (R39 d). -/
def State.doorBarred (c : Chan) (s : State) : Bool :=
  match (s.zone.channels.get c).state with
  | .inhibited _ => true
  | .fault => s.setup.policy.scope.get (groupOf c) == .group
  | _ => false

/-- The door role outside evacuation (R38, R39). -/
def State.doorVerdict (c : Chan) (k : Known) (s : State) : Verdict :=
  let ch := s.zone.channels.get c
  let d := (s.setup.channels.get c).door
  if s.setup.kind c ≠ .cabin ∨ k.covers d = false then .deniedNoGrant
  else if ch.lockout ∧ k.officer = false then .deniedLockout
  else if ch.privacy ∧ k.singleDoor d = false ∧ k.officer = false then .deniedPrivacy
  else if s.setup.policy.presence ∧ k.presence = .ashore then .deniedPresence
  else if s.doorBarred c then .deniedChannel
  else .granted

/-- The gate of a lane is in FAULT or INHIBITED (R40 f). -/
def State.gateBarred (l : LaneNo) (s : State) : Bool :=
  match (s.zone.channels.get (s.setup.lanes.get l).gate).state with
  | .inhibited _ => true
  | .fault => true
  | _ => false

/-- The lane role outside evacuation (R40). -/
def State.laneVerdict (l : LaneNo) (dir : Dir) (k : Known) (s : State) : Verdict :=
  match (s.zone.lanes.get l).state with
  | .closed => .deniedLaneClosed
  | .closing _ => .deniedLaneClosed
  | .heldOpen _ => .deniedLaneClosed
  | .released _ => .deniedLaneBusy
  | .ready =>
    if dir = .out ∧ k.status = .hold then .deniedHold
    else if dir = .out ∧ s.deadline.isExpired then .deniedDeadline
    else if s.setup.policy.passback ∧ k.presence ≠ dir.departure then .deniedPassback
    else if s.gateBarred l then .deniedChannel
    else .accepted

/-- The counter role outside evacuation (R41). -/
def State.counterVerdict (t : TillNo) (s : State) : Verdict :=
  match (s.tills.get t).state with
  | .armed _ _ => .chargeTaken
  | _ => .deniedNoCharge

/-- The role checks outside evacuation (check 7). -/
def State.roleVerdict (role : Role) (k : Known) (s : State) : Verdict :=
  match role with
  | .door c => s.doorVerdict c k
  | .laneOut l => s.laneVerdict l .out k
  | .laneIn l => s.laneVerdict l .in k
  | .counter t => s.counterVerdict t
  | .none => .deniedNoGrant

/-- The lane is held open (R37). -/
def State.laneHeld (l : LaneNo) (s : State) : Bool :=
  match (s.zone.lanes.get l).state with
  | .heldOpen _ => true
  | _ => false

/-- The outcome by role while evacuation is in effect (R37, check 6). -/
def State.evacVerdict (role : Role) (k : Known) (s : State) : Verdict :=
  match role with
  | .door _ => .evacuation
  | .counter _ => .deniedSuspended
  | .laneOut l =>
    if s.laneHeld l = false then .deniedLaneClosed else if k.status = .hold then .deniedHold else .accepted
  | .laneIn l => if s.laneHeld l = false then .deniedLaneClosed else .accepted
  | .none => .deniedNoGrant

/-- A LANE_OUT reader, at which an ABOARD entry passes the validity check (R36). -/
def Role.isLaneOut : Role → Bool
  | .laneOut _ => true
  | _ => false

/-- Checks 3 to 7 of R30: the outcome for a known entry at a reader's role. -/
def State.verdict (role : Role) (k : Known) (s : State) : Verdict :=
  if k.engaged.isSome then .deniedBusy
  else if k.status = .revoked then .deniedRevoked
  else if s.clock.valid ∧ k.inside s.clock.time = false ∧ ¬(role.isLaneOut ∧ k.presence = .aboard) then .deniedExpired
  else if s.evacuating then s.evacVerdict role k
  else s.roleVerdict role k

/-! ## The outcome and its claim (R42) -/

/-- An ACCEPTED decision at a lane: a commit at the tap in evacuation (R104), a pending movement otherwise (R92). -/
def State.acceptAt (l : LaneNo) (dir : Dir) (card : CardNo) (arrival : ShipTime) (s : State) : State :=
  if s.evacuating then s.commitCard l card dir s.clock.time true else s.acceptLane l card dir arrival

/-- A CHARGE_TAKEN decision: the TAP notice is sent and the till takes the card (R41). -/
def State.chargeTaken (t : TillNo) (r : ReaderNo) (card : CardNo) (arrival : ShipTime) (queried : Bool) (k : Known)
    (s : State) : State :=
  match (s.tills.get t).state with
  | .armed c _ => (s.tap r card .chargeTaken arrival queried).takeCard t c card r arrival k
  | _ => s.finish r card arrival queried .deniedNoCharge

/-- The outcome of a decision is given, with the claim it makes (R42). -/
def State.conclude (r : ReaderNo) (card : CardNo) (arrival : ShipTime) (queried : Bool) (k : Known) (v : Verdict)
    (s : State) : State :=
  match v, (s.readers.get r).role with
  | .granted, .door c => (s.finish r card arrival queried v).onZone (·.openClaim s.setup c)
  | .accepted, .laneOut l => (s.finish r card arrival queried v).acceptAt l .out card arrival
  | .accepted, .laneIn l => (s.finish r card arrival queried v).acceptAt l .in card arrival
  | .chargeTaken, .counter t => s.chargeTaken t r card arrival queried k
  | .deniedRevoked, _ => (s.raise (.revokedTap card r)).finish r card arrival queried v
  | v, _ => s.finish r card arrival queried v

/-- A presentation of a known entry is decided by checks 3 to 7 (R30). -/
def State.decideKnown (r : ReaderNo) (card : CardNo) (arrival : ShipTime) (queried : Bool) (k : Known) (s : State) : State :=
  s.conclude r card arrival queried k (s.verdict (s.readers.get r).role k)

/-! ## Unknown cards (R10, R32, R33) -/

/-- A pending entry is created and the query is sent (R10, R32). -/
def State.openQuery (i : Nat) (r : ReaderNo) (card : CardNo) (arrival : ShipTime) (s : State) : State :=
  let s := s.setEntry i (some ⟨card, .pending ⟨r, arrival, s.setup.timing.queryHold⟩⟩)
  (s.waitDecision r card arrival .heldQuery).notify (.cardQuery card r)

/-- A card with no entry (R32). -/
def State.decideUnknown (r : ReaderNo) (card : CardNo) (arrival : ShipTime) (s : State) : State :=
  if s.authority.isOnline && cardValid card then
    match freeWay s.cards card with
    | some i => s.openQuery i r card arrival
    | none => s.finish r card arrival false .deniedUnknown
  else s.finish r card arrival false .deniedUnknown

/-- A presentation taken for decision (R30). -/
def State.decidePresentation (r : ReaderNo) (card : CardNo) (arrival : ShipTime) (s : State) : State :=
  if s.inMaintenance then s.finish r card arrival false .deniedMaintenance
  else
    match lookup s.cards card with
    | none => s.decideUnknown r card arrival
    | some (_, ⟨_, .pending _⟩) => s.finish r card arrival false .deniedBusy
    | some (_, ⟨_, .known k⟩) => s.decideKnown r card arrival false k

/-- A pending entry is removed and its held presentation denied (R12 to R14, R33). -/
def State.denyQuery (i : Nat) (card : CardNo) (h : Held) (s : State) : State :=
  (s.setEntry i none).finish h.reader card h.arrival true .deniedUnknown

/-! ## Taking a presentation (R17, R27 to R29) -/

/-- The idle minutes of a CALLER are reset by a presentation (R17). -/
def Holder.presented : Holder → Holder
  | .caller _ reported => .caller 0 reported
  | h => h

/-- Last-seen and idle minutes at a presentation (R17). -/
def State.seen (card : CardNo) (s : State) : State :=
  s.changeKnown card (fun k => { k with holder := k.holder.presented, lastSeen := s.clock.time })

/-- The presentation is discarded: a decision waits at the reader, or the card is repeated within the window (R28, R29). -/
def Reader.discards (card : CardNo) (rd : Reader) : Bool :=
  rd.marker.isSome || rd.memory.any (fun m => m.card == card)

/-- A presentation arrives from an ACTIVE reader (R27). -/
def State.present (r : ReaderNo) (card : CardNo) (s : State) : State :=
  let s := s.seen card
  if (s.readers.get r).discards card then s.setReader r (fun rd => { rd with filtered := satInc rd.filtered })
  else s.decidePresentation r card s.clock.time

/-- REPEAT_TIMER_EXPIRY (R29): the remembered card becomes none. -/
def execRepeatTimerExpiry (r : ReaderNo) (s : State) : Out := .next (s.setReader r (fun rd => { rd with memory := none }))

/-- QUERY_HOLD_EXPIRY (R13): nothing when the card has no pending entry. -/
def execQueryHoldExpiry (card : CardNo) (s : State) : Out :=
  .next (match lookup s.cards card with
    | some (i, ⟨_, .pending h⟩) => (s.denyQuery i card h).close
    | _ => s)

end Sys2Proof.Machine
end

