-- ==== Sys2Proof/Machine/Cards.lean ====
section
/-! DEFINITION. The card table's requests (chapter 1) and what the minute tick does to callers (R18, R19). -/

namespace Sys2Proof.Machine

/-! ## CARD PUT (R6 to R8, R11) -/

/-- A displaced candidate before another: earlier last-seen, then the lower-numbered way (R7). -/
def seenBefore (a b : Nat × Known) : Bool := decide (a.2.lastSeen < b.2.lastSeen)

/-- The CALLER that an insertion may displace: ASHORE and unengaged (R7). -/
def displaceable (cards : List (Nat × Entry)) (i : Nat) : Option (Nat × Known) :=
  match tget cards i with
  | some ⟨_, .known k⟩ =>
    match k.holder with
    | .caller _ _ => if k.presence = .ashore ∧ k.engaged = none then some (i, k) else none
    | _ => none
  | _ => none

/-- The candidate with the earliest last-seen; of equals, the first. -/
def earliest : List (Nat × Known) → Option (Nat × Known)
  | [] => none
  | x :: xs =>
    match earliest xs with
    | none => some x
    | some y => if seenBefore y x then some y else some x

/-- The position an insertion displaces (R7). -/
def displacedWay (cards : List (Nat × Entry)) (card : CardNo) : Option Nat :=
  (earliest ((wayIndexes card).filterMap (displaceable cards))).map Prod.fst

/-- The card number at a position, for the reply of a displacing insertion (R6). -/
def cardAt (cards : List (Nat × Entry)) (i : Nat) : Option CardNo := (tget cards i).map Entry.card

/-- The reply of a CARD PUT: the index, the disposition (0 CREATED, 1 OVERWRITTEN, 2 RESOLVED) and the displaced card (R6). -/
def putReply (i disposition : Nat) (displaced : Option CardNo) : Reply :=
  ok (be 2 i ++ o1 disposition ++ cardOctets? displaced)

/-- The kind of an overwritten entry (R8): a CALLER that stays CALLER keeps its idle minutes; the marker is cleared. -/
def Holder.overwrite (old new : Holder) : Holder :=
  match old, new with
  | .caller idle _, .caller _ _ => .caller idle false
  | _, h => h

/-- The entry overwritten in place (R8). -/
def Known.overwrite (old new : Known) : Known :=
  { new with holder := old.holder.overwrite new.holder, engaged := old.engaged, lastSeen := old.lastSeen }

/-- The insertion of R7. -/
def State.insertCard (p : CardPut) (s : State) : State × Reply :=
  match freeWay s.cards p.card with
  | some i => (s.setEntry i (some ⟨p.card, .known p.entry⟩), putReply i 0 none)
  | none =>
    match displacedWay s.cards p.card with
    | some i => (s.setEntry i (some ⟨p.card, .known p.entry⟩), putReply i 0 (cardAt s.cards i))
    | none => (s, refuse .tableFull)

/-- The resolution of a pending entry (R11, R33): it is filled in place and its held presentation is decided. -/
def State.resolve (i : Nat) (p : CardPut) (h : Held) (s : State) : State × Reply :=
  let k := { p.entry with lastSeen := h.arrival }
  ((s.setEntry i (some ⟨p.card, .known k⟩)).decideKnown h.reader p.card h.arrival true k, putReply i 2 none)

/-- CARD PUT after check 1 (R6). -/
def State.putCard (p : CardPut) (s : State) : State × Reply :=
  if p.entry.folio.any (fun slot => (tget s.folios slot).isNone) then (s, refuse .folioEmpty)
  else
    match lookup s.cards p.card with
    | none => s.insertCard p
    | some (i, ⟨_, .pending h⟩) => s.resolve i p h
    | some (i, ⟨_, .known k⟩) =>
      if k.engaged.isSome then (s, refuse .busy)
      else (s.setEntry i (some ⟨p.card, .known (k.overwrite p.entry)⟩), putReply i 1 none)

/-- CARD PUT (R6, R186). -/
def serveCardPut (tag : Octet) (body : List Octet) : Serve :=
  framed tag (body.length = 23 || body.length = 26 || body.length = 29 || body.length = 32) (zoned fun s =>
    match cardPutOf body with
    | none => (s, refuse .range)
    | some p => s.putCard p)

/-! ## The other card requests -/

/-- A request that names a card number refuses an invalid one with RANGE before any lookup (R5). -/
def withCard (n : Nat) (act : CardNo → State → State × Reply) (s : State) : State × Reply :=
  if cardValid (BitVec.ofNat 56 n) then act (BitVec.ofNat 56 n) s else (s, refuse .range)

/-- CARD GET (R21). -/
def serveCardGet (tag : Octet) (body : List Octet) : Serve :=
  framed tag (body.length = 7) (withCard (num body) fun card s =>
    match lookup s.cards card with
    | some (i, e) => (s, ok (e.octets i))
    | none => (s, refuse .notFound))

/-- CARD DELETE (R22). -/
def serveCardDelete (tag : Octet) (body : List Octet) : Serve :=
  framed tag (body.length = 7) (withCard (num body) fun card s =>
    match lookup s.cards card with
    | none => (s, refuse .notFound)
    | some (_, ⟨_, .pending _⟩) => (s, refuse .busy)
    | some (i, ⟨_, .known k⟩) => if k.engaged.isSome then (s, refuse .busy) else (s.setEntry i none, ok []))

/-- CARD STATUS (R23). -/
def serveCardStatus (tag : Octet) (body : List Octet) : Serve :=
  framed tag (body.length = 8) (withCard (fieldAt body 0 7) fun card s =>
    match cardStatusOf (fieldAt body 7 1) with
    | none => (s, refuse .range)
    | some st =>
      match lookup s.cards card with
      | none => (s, refuse .notFound)
      | some (_, ⟨_, .pending _⟩) => (s, refuse .state)
      | some (i, ⟨_, .known k⟩) => (s.setEntry i (some ⟨card, .known { k with status := st }⟩), ok []))

/-- CARD REFUSE (R12). -/
def serveCardRefuse (tag : Octet) (body : List Octet) : Serve :=
  framed tag (body.length = 7) (withCard (num body) fun card s =>
    match lookup s.cards card with
    | some (i, ⟨_, .pending h⟩) => (s.denyQuery i card h, ok [])
    | _ => (s, refuse .notFound))

/-- PRESENCE SET (R24). -/
def servePresenceSet (tag : Octet) (body : List Octet) : Serve :=
  framed tag (body.length = 8) (withCard (fieldAt body 0 7) fun card s =>
    match presenceOf (fieldAt body 7 1) with
    | none => (s, refuse .range)
    | some p =>
      match lookup s.cards card with
      | none => (s, refuse .notFound)
      | some (_, ⟨_, .pending _⟩) => (s, refuse .state)
      | some (i, ⟨_, .known k⟩) =>
        if k.engaged.isSome then (s, refuse .busy)
        else (s.setEntry i (some ⟨card, .known { k with presence := p }⟩), ok []))

/-- The six counts in the order of R20. -/
def Tally.octets (t : Tally) : List Octet :=
  be 2 t.guestAboard ++ be 2 t.guestAshore ++ be 2 t.crewAboard ++ be 2 t.crewAshore ++ be 2 t.callerAboard ++
    be 2 t.callerAshore

/-- TALLY GET (R20). -/
def serveTallyGet (tag : Octet) (body : List Octet) : Serve :=
  framed tag (body.length = 0) fun s =>
    (s, ok (s.tally.octets ++ be 2 s.cards.length ++ o1 (pendingEntries s.cards).length))

/-- The walk of ASHORE LIST passes over every entry but these (R25). -/
def Entry.listed (filter : Option Category) (e : Entry) : Bool :=
  match e.body with
  | .known k => k.presence == .ashore && filter.elim true (fun c => k.holder.category == c)
  | .pending _ => false

/-- The entries an ASHORE LIST finds (R25). -/
def ashoreWalk (cards : List (Nat × Entry)) (cursor : Nat) (filter : Option Category) : List (Nat × Entry) :=
  (cards.filter (fun x => decide (cursor ≤ x.1) && x.2.listed filter)).take 16

/-- The next cursor: one more than the index of the sixteenth entry found, or 8,192 (R25). -/
def nextCursor (found : List (Nat × Entry)) : Nat := (found[15]?).elim Config.positions (fun x => x.1 + 1)

/-- The optional category filter: a flag octet, then the category (log entry 9). -/
def filterOf (present category : Nat) : Option (Option Category) :=
  match flagOf present with
  | some false => some none
  | some true => (categoryOf category).map some
  | none => none

/-- ASHORE LIST (R25). -/
def serveAshoreList (tag : Octet) (body : List Octet) : Serve :=
  framed tag (body.length = 4) fun s =>
    match fields [2, 1, 1] body with
    | [cursor, present, category] =>
      match filterOf present category with
      | none => (s, refuse .range)
      | some filter =>
        if cursor < Config.positions then
          let found := ashoreWalk s.cards cursor filter
          (s, ok (o1 found.length ++ found.flatMap (fun x => cardOctets x.2.card) ++ be 2 (nextCursor found)))
        else (s, refuse .range)
    | _ => (s, refuse .malformed)

def execCardPut (tag : Octet) (body : List Octet) (s : State) : Out :=
  .next (s.request ⟨0x01, tag, body⟩ (serveCardPut tag body))

def execCardGet (tag : Octet) (body : List Octet) (s : State) : Out :=
  .next (s.request ⟨0x02, tag, body⟩ (serveCardGet tag body))

def execCardDelete (tag : Octet) (body : List Octet) (s : State) : Out :=
  .next (s.request ⟨0x03, tag, body⟩ (serveCardDelete tag body))

def execCardStatus (tag : Octet) (body : List Octet) (s : State) : Out :=
  .next (s.request ⟨0x04, tag, body⟩ (serveCardStatus tag body))

def execCardRefuse (tag : Octet) (body : List Octet) (s : State) : Out :=
  .next (s.request ⟨0x05, tag, body⟩ (serveCardRefuse tag body))

def execPresenceSet (tag : Octet) (body : List Octet) (s : State) : Out :=
  .next (s.request ⟨0x06, tag, body⟩ (servePresenceSet tag body))

def execTallyGet (tag : Octet) (body : List Octet) (s : State) : Out :=
  .next (s.request ⟨0x07, tag, body⟩ (serveTallyGet tag body))

def execAshoreList (tag : Octet) (body : List Octet) (s : State) : Out :=
  .next (s.request ⟨0x08, tag, body⟩ (serveAshoreList tag body))

/-! ## Caller aging and overstay (R18, R19) -/

/-- The idle minutes of an aged CALLER. -/
def Holder.aged : Holder → Holder
  | .caller idle reported => .caller (if idle < Config.idleTop then idle + 1 else idle) reported
  | h => h

/-- The idle minutes a kind holds. -/
def Holder.idle : Holder → Nat
  | .caller idle _ => idle
  | _ => 0

/-- The entry is aged at a minute tick: a CALLER, ASHORE and not engaged (R18). -/
def Known.ages (k : Known) : Bool := k.holder.category == .caller && k.presence == .ashore && k.engaged.isNone

/-- The entry after the aging of a tick; none when it is removed (R18). -/
def Known.age (limit : Nat) (clock : Clock) (k : Known) : Option Known :=
  let k := { k with holder := k.holder.aged }
  if limit ≤ k.holder.idle ∨ k.overdue clock = true then none else some k

/-- One position at the aging of a tick. -/
def State.agePosition (i : Nat) (s : State) : State :=
  match tget s.cards i with
  | some ⟨card, .known k⟩ =>
    if k.ages then
      s.setEntry i ((k.age s.setup.timing.idleLimit s.clock).map (fun k => ⟨card, .known k⟩))
    else s
  | _ => s

/-- An ABOARD caller past its valid-until whose marker is clear (R19). -/
def Known.overstays (clock : Clock) (k : Known) : Bool :=
  match k.holder with
  | .caller _ reported => !reported && k.presence == .aboard && k.overdue clock
  | _ => false

/-- The kind with the overstay-reported marker set. -/
def Holder.report : Holder → Holder
  | .caller idle _ => .caller idle true
  | h => h

/-- One position at the overstay examination of a tick (R19). -/
def State.overstayPosition (i : Nat) (s : State) : State :=
  match tget s.cards i with
  | some ⟨card, .known k⟩ =>
    if k.overstays s.clock then
      (s.setEntry i (some ⟨card, .known { k with holder := k.holder.report }⟩)).raise (.overstay card)
    else s
  | _ => s

/-- Every caller is aged, then every caller aboard is examined (R18, R19). That both go in ascending entry index, and so the order of the
OVERSTAY alarms of one tick, is the model's choice (log entry 29). -/
def State.ageCallers (s : State) : State :=
  let positions := s.cards.map Prod.fst
  let s := positions.foldl (fun s i => s.agePosition i) s
  positions.foldl (fun s i => s.overstayPosition i) s

end Sys2Proof.Machine
end

