-- ==== Sys2Proof/Machine/Channels.lean ====
section
/-! DEFINITION. Channel requests and channel events (chapter 3), faults and rails (chapter 4). -/

namespace Sys2Proof.Machine

/-! ## Taking a fault (R71 to R75) -/

/-- The fault kind is masked in setup POLICY (R71). -/
def State.masked (k : FaultKind) (s : State) : Bool := s.setup.policy.mask.has k

/-- The scope applied to a fault (R72). -/
def State.scopeApplied (c : Chan) (s : State) : Scope :=
  if s.evacuating then .isolate else s.setup.policy.scope.get (groupOf c)

/-- The channel stops as the scope says (R73, R74). -/
def State.applyScope (c : Chan) (sc : Scope) (s : State) : State :=
  match sc with
  | .isolate => s.onZone (·.isolate s.setup c)
  | .group => s.onZone (·.inhibitGroup s.setup (groupOf c))

/-- A drive fault: every kind but POSITION_LOST (R72). -/
def FaultKind.isDrive : FaultKind → Bool
  | .positionLost => false
  | _ => true

/-- A gate reports a drive fault to its lane, which abandons its movement (R72, R97). -/
def State.driveFault (c : Chan) (k : FaultKind) (s : State) : State :=
  if k.isDrive then
    match s.zone.laneOf s.setup c with
    | some l => s.abandonMovement l .gateFault
    | none => s
  else s

/-- A channel's monitor takes a fault (R72): the record, the FAULT notice, the scope, and the report to the lane, whose relock
claim finds the gate as the fault left it (R97). -/
def State.takeFault (c : Chan) (k : FaultKind) (s : State) : State :=
  let sc := s.scopeApplied c
  let s := s.onZone (·.setChan c (fun ch => { ch with record := ch.record.take k s.clock.time }))
  let s := s.notify (.fault (groupOf c) (some c) (.taken k sc))
  (s.applyScope c sc).driveFault c k

/-- A fault of a kind that is not masked (R71). -/
def State.fault (c : Chan) (k : FaultKind) (s : State) : State := if s.masked k then s else s.takeFault c k

/-- A group that is no longer inhibited recovers (R80); `report` is false for the first move to GOOD after a start (R77). -/
def State.recoverGroup (g : Grp) (report : Bool) (s : State) : State :=
  let s := if report then s.notify (.fault g none .recovered) else s
  s.onZone (·.recover s.setup g)

/-- A rail monitor moves to GOOD (R77, R80). -/
def State.railToGood (g : Grp) (s : State) : State :=
  let x := s.zone.groups.get g
  let s := s.onZone (·.setGroup g (fun x => { x with rail := .good, railCount := 0, railSettled := true }))
  if x.latch then s else s.recoverGroup g x.railSettled

/-! ## Requests -/

/-- The conditions of check 3 of CHANNEL OPEN (R51). -/
def State.openable (c : Chan) (s : State) : Bool :=
  !s.evacuating && s.setup.kind c == .cabin &&
    (match (s.zone.channels.get c).state with
      | .off => false
      | .released => false
      | .inhibited _ => false
      | .fault => s.setup.policy.scope.get (groupOf c) == .isolate
      | _ => true)

/-- CHANNEL OPEN (R51). -/
def serveChannelOpen (tag : Octet) (body : List Octet) : Serve :=
  framed tag (body.length = 2) (zoned fun s =>
    match fields [1, 1] body with
    | [chan, override] =>
      match indexOf 32 chan, flagOf override with
      | some c, some forced =>
        if s.inMaintenance then (s, refuse .maintenance)
        else if !s.openable c then (s, refuse .state)
        else if (s.zone.channels.get c).privacy && !forced then (s, refuse .privacy)
        else
          let s := s.onZone (·.openClaim s.setup c)
          (s, ok (o1 (s.zone.channels.get c).state.code))
      | _, _ => (s, refuse .range)
    | _ => (s, refuse .malformed))

/-- CHANNEL LOCKOUT (R59). -/
def serveChannelLockout (tag : Octet) (body : List Octet) : Serve :=
  framed tag (body.length = 2) fun s =>
    match fields [1, 1] body with
    | [chan, value] =>
      match indexOf 32 chan, flagOf value with
      | some c, some v => (s.onZone (·.setChan c (fun ch => { ch with lockout := v })), ok (flag v))
      | _, _ => (s, refuse .range)
    | _ => (s, refuse .malformed)

/-- The hold stage of a channel status, 0 outside OPEN_HOLD. -/
def ChanState.stageCode : ChanState → Nat
  | .openHold st => st.code
  | _ => 0

/-- The arrival hold of a channel status, 0 where there is none. -/
def ChanState.arrivalCode : ChanState → Nat
  | .unlockWait a => a.code
  | .unlocking a => a.code
  | .inhibited (.openEnd a) => a.code
  | _ => 0

/-- The target end of a channel status, 0 outside INHIBITED. -/
def ChanState.targetCode : ChanState → Nat
  | .inhibited t => t.code
  | _ => 0

/-- The time left of the hold timer, and of the relock delay timer. -/
def ChanState.holdLeft : ChanState → Option Nat
  | .openHold (.holding n) => some n
  | _ => none

def ChanState.relockLeft : ChanState → Option Nat
  | .openHold (.relockDelay n) => some n
  | _ => none

/-- The drive slot of a channel: 1 when it holds slot 1, 0 otherwise. -/
def Group.slotOf (c : Chan) (g : Group) : Nat := if g.slot1 = some c then 1 else 0

/-- The queue position of a channel, from 1, or 0 when it does not wait. -/
def Group.positionOf (c : Chan) (g : Group) : Nat := (g.queue.findIdx? (· = c)).elim 0 (· + 1)

/-- The reply to CHANNEL STATUS (R66). That a bolt sense is sent 1 when asserted is the model's choice (log entry 8). -/
def channelStatusOctets (c : Chan) (s : State) : List Octet :=
  let x := s.setup.channels.get c
  let ch := s.zone.channels.get c
  let g := s.zone.groups.get (groupOf c)
  o1 x.kind.code ++ be 2 x.door ++ o1 x.mode.code ++ o1 ch.state.code ++ o1 ch.state.stageCode ++ o1 ch.state.arrivalCode ++
    flag ch.release ++ o1 ch.state.targetCode ++ o1 (g.slotOf c) ++ o1 (g.positionOf c) ++
    pair (s.zone.doorOpen s.setup c) ++ pair ch.privacy ++ flag ch.home ++ flag ch.withdrawn ++ flag ch.lockout ++
    flag (!ch.record.kinds.isEmpty) ++ leftOctets ch.state.holdLeft ++ leftOctets ch.state.relockLeft ++
    leftOctets ch.doorHeld

/-- CHANNEL STATUS (R66). -/
def serveChannelStatus (tag : Octet) (body : List Octet) : Serve :=
  framed tag (body.length = 1) fun s =>
    match indexOf 32 (num body) with
    | none => (s, refuse .range)
    | some c => (s, ok (channelStatusOctets c s))

/-- All eight fault records of a group are empty (R76). -/
def Zone.recordsEmpty (g : Grp) (z : Zone) : Bool := (members g).all (fun c => (z.channels.get c).record.kinds.isEmpty)

/-- A channel in FAULT under GROUP scope is placed by its bolt senses (R76). -/
def Zone.placeFaulted (cfg : Setup) (c : Chan) (z : Zone) : Zone :=
  let ch := z.channels.get c
  if ch.release then
    if ch.withdrawn then z.enter cfg c .released else (z.waitOpen cfg c .expired).settle cfg c
  else z.place cfg c

/-- What FAULT READ with clear does after it has emptied the record (R76). -/
def State.afterClear (c : Chan) (s : State) : State :=
  let g := groupOf c
  let x := s.zone.groups.get g
  if x.latch then
    if s.zone.recordsEmpty g then
      let s := s.onZone (·.setGroup g (fun x => { x with latch := false }))
      let s := s.notify (.fault g none .latchReleased)
      if x.rail = .good then s.recoverGroup g true else s
    else s
  else if (s.zone.channels.get c).state = .fault ∧ s.setup.policy.scope.get g = .group ∧ x.inhibited = false then
    s.onZone (·.placeFaulted s.setup c)
  else s

/-- FAULT READ with the clear flag (R76). -/
def State.clearFault (c : Chan) (s : State) : State :=
  (s.onZone (·.setChan c (fun ch => { ch with record := .empty }))).afterClear c

/-- The fault record of a reply: a mark for each kind, the first time and the count (R76). -/
def FaultRecord.octets (r : FaultRecord) : List Octet :=
  flag r.kinds.jamOpening ++ flag r.kinds.jamClosing ++ flag r.kinds.overcurrent ++ flag r.kinds.positionLost ++
    timeOctets r.first ++ be 2 r.count

/-- The state of a power group of a reply (R76). -/
def groupOctets (g : Grp) (s : State) : List Octet :=
  let x := s.zone.groups.get g
  o1 x.rail.code ++ flag x.latch ++ flag x.inhibited ++ o1 (s.setup.policy.scope.get g).code ++
    o1 (s.setup.policy.ocMode.get g).code

/-- FAULT READ (R76). -/
def serveFaultRead (tag : Octet) (body : List Octet) : Serve :=
  framed tag (body.length = 2) (zoned fun s =>
    match fields [1, 1] body with
    | [chan, clear] =>
      match indexOf 32 chan, flagOf clear with
      | some c, some cl =>
        let s' := if cl then s.clearFault c else s
        (s', ok ((s.zone.channels.get c).record.octets ++ groupOctets (groupOf c) s'))
      | _, _ => (s, refuse .range)
    | _ => (s, refuse .malformed))

def execChannelOpen (tag : Octet) (body : List Octet) (s : State) : Out :=
  .next (s.request ⟨0x09, tag, body⟩ (serveChannelOpen tag body))

def execChannelLockout (tag : Octet) (body : List Octet) (s : State) : Out :=
  .next (s.request ⟨0x0A, tag, body⟩ (serveChannelLockout tag body))

def execChannelStatus (tag : Octet) (body : List Octet) (s : State) : Out :=
  .next (s.request ⟨0x0B, tag, body⟩ (serveChannelStatus tag body))

def execFaultRead (tag : Octet) (body : List Octet) (s : State) : Out :=
  .next (s.request ⟨0x0C, tag, body⟩ (serveFaultRead tag body))

/-! ## Sense events (R49, R52, R55, R70) -/

/-- The channel watches its inputs: the inputs of an OFF channel are ignored (R49). -/
def State.watches (c : Chan) (s : State) : Bool := (s.zone.channels.get c).state != .off

/-- The withdrawn sense of a watched channel: it ends an unlocking drive, and its loss in OPEN_HOLD is POSITION_LOST. -/
def State.withdrawnSense (c : Chan) (asserted : Bool) (s : State) : State :=
  let was := (s.zone.channels.get c).withdrawn
  let s := s.onZone (·.setChan c (fun ch => { ch with withdrawn := asserted }))
  match (s.zone.channels.get c).state with
  | .unlocking _ => if asserted then s.onZone (fun z => (z.endDrive s.setup c).settle s.setup c) else s
  | .openHold _ => if was && !asserted then s.fault c .positionLost else s
  | _ => s

/-- The home sense of a watched channel: it ends a locking drive, and its loss in LOCKED is POSITION_LOST. -/
def State.homeSense (c : Chan) (asserted : Bool) (s : State) : State :=
  let was := (s.zone.channels.get c).home
  let s := s.onZone (·.setChan c (fun ch => { ch with home := asserted }))
  match (s.zone.channels.get c).state with
  | .locking => if asserted then s.onZone (fun z => (z.endDrive s.setup c).settle s.setup c) else s
  | .locked => if was && !asserted then s.fault c .positionLost else s
  | _ => s

/-- BOLT_WITHDRAWN_SENSE (R49, R52). -/
def execBoltWithdrawnSense (c : Chan) (asserted : Bool) (s : State) : Out :=
  let s := { s with pins := { s.pins with withdrawn := vset s.pins.withdrawn c asserted } }
  .next (if s.watches c then (s.withdrawnSense c asserted).closeZone else s)

/-- BOLT_HOME_SENSE (R49, R55). -/
def execBoltHomeSense (c : Chan) (asserted : Bool) (s : State) : Out :=
  let s := { s with pins := { s.pins with home := vset s.pins.home c asserted } }
  .next (if s.watches c then (s.homeSense c asserted).closeZone else s)

/-- POSITION_LOST (R70): the sense of the end at which the channel rests is lost. Nothing in a state the position watch does not
run in, or when the sense was not asserted. -/
def execPositionLost (c : Chan) (s : State) : Out :=
  .next (match (s.zone.channels.get c).state with
    | .locked => ({ s with pins := { s.pins with home := vset s.pins.home c false } }.homeSense c false).closeZone
    | .openHold _ =>
      ({ s with pins := { s.pins with withdrawn := vset s.pins.withdrawn c false } }.withdrawnSense c false).closeZone
    | _ => s)

/-! ## Door, privacy and passage inputs (R49, R54 to R60) -/

/-- The door of a CABIN channel in LEVEL mode changes (R54 to R58). -/
def State.doorChange (c : Chan) (open_ : Bool) (s : State) : State :=
  if open_ then
    let forced := (s.zone.channels.get c).state = .locked
    let s := s.onZone (·.doorOpens s.setup c)
    if forced then s.raise (.forced c) else s
  else s.onZone (·.doorCloses s.setup c)

/-- A qualified pulse of a CABIN channel in EDGE mode (R58). -/
def State.cabinPulse (c : Chan) (s : State) : State :=
  if (s.zone.channels.get c).state = .locked then s.raise (.forced c) else s

/-- A qualified contact level of a watched channel, active or not (R49, R56, R58, R60). In EDGE mode the next pulse is qualified only
after the inactive level has been, so an active level that was active already is none. -/
def State.contactChange (c : Chan) (active : Bool) (s : State) : State :=
  let was := (s.zone.channels.get c).contact
  let s := s.onZone (·.setChan c (fun ch => { ch with contactQual := none }))
  let set := s.onZone (·.setChan c (fun ch => { ch with contact := active }))
  match s.setup.kind c, (s.setup.channels.get c).mode with
  | .cabin, .level => if active = was then s else s.doorChange c active
  | .cabin, .edge => if active && !was then set.cabinPulse c else set
  | .gate, _ => if active && !was then set.passage c else set
  | .none, _ => s

/-- CONTACT_QUALIFIED (R49). -/
def execContactQualified (c : Chan) (high : Bool) (s : State) : Out :=
  let s := { s with pins := { s.pins with contact := vset s.pins.contact c high } }
  .next (if s.watches c then (s.contactChange c (high == (s.setup.channels.get c).contactHigh)).closeZone else s)

/-- PRIVACY_QUALIFIED (R49, R59): the privacy input is qualified on CABIN channels. -/
def execPrivacyQualified (c : Chan) (high : Bool) (s : State) : Out :=
  let s := { s with pins := { s.pins with privacy := vset s.pins.privacy c high } }
  .next (if s.watches c && s.setup.kind c == .cabin then
      s.onZone (·.setChan c (fun ch =>
        { ch with privacy := high == (s.setup.channels.get c).privacyHigh, privacyQual := none }))
    else s)

/-! ## Channel timers (R53, R54, R57, R68) -/

/-- HOLD_TIMER_EXPIRY (R53): nothing when no hold timer runs. -/
def execHoldTimerExpiry (c : Chan) (s : State) : Out :=
  .next (match (s.zone.channels.get c).state with
    | .openHold (.holding _) => (s.onZone (fun z => (z.hold s.setup c .expired).settle s.setup c)).closeZone
    | _ => s)

/-- RELOCK_DELAY_EXPIRY (R54): nothing when no relock delay runs. -/
def execRelockDelayExpiry (c : Chan) (s : State) : Out :=
  .next (match (s.zone.channels.get c).state with
    | .openHold (.relockDelay _) => (s.onZone (fun z => (z.waitClose s.setup c).settle s.setup c)).closeZone
    | _ => s)

/-- DOOR_HELD_EXPIRY (R57): nothing when no door-held timer runs. -/
def execDoorHeldExpiry (c : Chan) (s : State) : Out :=
  .next (match (s.zone.channels.get c).doorHeld with
    | some _ =>
      ((s.onZone (·.setChan c (fun ch => { ch with doorHeld := none, heldReported := true }))).raise (.held c)).close
    | none => s)

/-- DRIVE_TIMEOUT (R68, R71): a jam, or the end of the timer alone when the jam is masked. Nothing when no drive timer runs. -/
def execDriveTimeout (c : Chan) (s : State) : Out :=
  .next (match (s.zone.channels.get c).driveLeft, (s.zone.channels.get c).state with
    | some _, .unlocking _ =>
      ((s.onZone (·.setChan c (fun ch => { ch with driveLeft := none }))).fault c .jamOpening).closeZone
    | some _, .locking =>
      ((s.onZone (·.setChan c (fun ch => { ch with driveLeft := none }))).fault c .jamClosing).closeZone
    | _, _ => s)

/-- OVERCURRENT_QUALIFIED (R69): nothing when the channel does not drive. -/
def execOvercurrentQualified (c : Chan) (s : State) : Out :=
  .next (if (s.zone.channels.get c).state.drives then (s.fault c .overcurrent).closeZone else s)

/-! ## Rails (R77, R78, R80) -/

/-- RAIL_UNDERVOLTAGE (R77, R78): nothing when the monitor is held GOOD by the rail mask, or is in UNDERVOLTAGE already. -/
def execRailUndervoltage (g : Grp) (s : State) : Out :=
  let s := { s with pins := { s.pins with railGood := vset s.pins.railGood g false } }
  .next (if s.setup.policy.railMask ∨ (s.zone.groups.get g).rail = .undervoltage then s
    else ((s.onZone (·.railLow s.setup g)).notify (.fault g none .undervoltage)).closeZone)

/-- RAIL_GOOD (R77, R80): nothing when the monitor is GOOD already. -/
def execRailGood (g : Grp) (s : State) : Out :=
  let s := { s with pins := { s.pins with railGood := vset s.pins.railGood g true } }
  .next (if (s.zone.groups.get g).rail = .good then s else (s.railToGood g).closeZone)

end Sys2Proof.Machine
end

