-- ==== Sys2Proof/Machine/Alarms.lean ====
section
/-! DEFINITION. The alarm list's requests (R83 to R86). -/

namespace Sys2Proof.Machine

/-- The enable of every alarm kind, in the order of R81: 0 enabled, 1 disabled (log entry 8). -/
def enableOctets (cfg : Setup) : List Octet := cfg.alarmOn.toList.flatMap (fun b => pair b)

/-- The list after records have gone: the overflow flag is clear with fewer than 64 records (R84). -/
def AlarmList.keep (p : AlarmRecord → Bool) (al : AlarmList) : AlarmList :=
  let rs := al.records.filter p
  { records := rs, overflow := al.overflow && decide (Config.alarmPlaces ≤ rs.length) }

/-- ALARM LIST (R85). -/
def serveAlarmList (tag : Octet) (body : List Octet) : Serve :=
  framed tag (body.length = 1) fun s =>
    let position := num body
    if position ≤ 63 then
      let rs := (s.alarms.records.drop position).take 8
      (s, ok (o1 s.alarms.records.length ++ flag s.alarms.overflow ++ enableOctets s.setup ++ o1 rs.length ++
        rs.flatMap AlarmRecord.octets))
    else (s, refuse .range)

/-- The alarm list with some records removed; the reply carries the number left (R86). -/
def State.clearAlarms (keep : AlarmRecord → Bool) (s : State) : State × Reply :=
  let al := s.alarms.keep keep
  ({ s with alarms := al }, ok (o1 al.records.length))

/-- ALARM CLEAR (R86): 0 and the kind and source of one record, or 1 for all records (log entry 9). -/
def serveAlarmClear (tag : Octet) (body : List Octet) : Serve :=
  framed tag (body.length = 10) fun s =>
    match fields [1, 1, 7, 1] body with
    | [all, kind, card, place] =>
      match flagOf all with
      | none => (s, refuse .range)
      | some true => s.clearAlarms (fun _ => false)
      | some false =>
        match (alarmKindOf kind).bind (fun k => alarmOf k (BitVec.ofNat 56 card) place) with
        | none => (s, refuse .range)
        | some a =>
          if s.alarms.records.any (fun r => r.alarm = a) then s.clearAlarms (fun r => r.alarm ≠ a)
          else (s, refuse .notFound)
    | _ => (s, refuse .malformed)

/-- An alarm kind is enabled or disabled; disabling removes its records (R83). -/
def State.enableAlarm (k : AlarmKind) (on : Bool) (s : State) : State :=
  let s := { s with setup := { s.setup with alarmOn := vset s.setup.alarmOn k.code on } }
  if on then s else { s with alarms := s.alarms.keep (fun r => r.alarm.kind ≠ k) }

/-- ALARM ENABLE (R83). -/
def serveAlarmEnable (tag : Octet) (body : List Octet) : Serve :=
  framed tag (body.length = 2) fun s =>
    match fields [1, 1] body with
    | [kind, value] =>
      match alarmKindOf kind, pairOf value with
      | some k, some on =>
        let s' := s.enableAlarm k on
        (s', ok (enableOctets s'.setup ++ o1 (s.alarms.records.length - s'.alarms.records.length)))
      | _, _ => (s, refuse .range)
    | _ => (s, refuse .malformed)

def execAlarmList (tag : Octet) (body : List Octet) (s : State) : Out :=
  .next (s.request ⟨0x0D, tag, body⟩ (serveAlarmList tag body))

def execAlarmClear (tag : Octet) (body : List Octet) (s : State) : Out :=
  .next (s.request ⟨0x0E, tag, body⟩ (serveAlarmClear tag body))

def execAlarmEnable (tag : Octet) (body : List Octet) (s : State) : Out :=
  .next (s.request ⟨0x0F, tag, body⟩ (serveAlarmEnable tag body))

end Sys2Proof.Machine
end

