-- ==== Sys2Proof/Machine/Authority.lean ====
section
/-! DEFINITION. The authority lease and the ship clock (chapter 8). -/

namespace Sys2Proof.Machine

/-! ## Entry to STANDALONE (R146) -/

/-- The pending entries in ascending reader address (R146). -/
def pendingByReader (cards : List (Nat × Entry)) : List (Nat × CardNo × Held) :=
  allReaders.flatMap (fun r => (pendingEntries cards).filter (fun x => x.2.2.reader = r))

/-- The AUTHORISING tills, in ascending number. -/
def State.authorisingTills (s : State) : List TillNo := allTills.filter (fun t => (s.tills.get t).state.isAuthorising)

/-- Every operation that waits on the host's answer is resolved (R146). -/
def State.resolveWaits (s : State) : State :=
  let queries := pendingByReader s.cards
  let tills := s.authorisingTills
  let s := queries.foldl (fun s x => s.denyQuery x.1 x.2.1 x.2.2) s
  tills.foldl (fun s t => s.standIn t) s

/-- The authority enters STANDALONE; by expiry, the AUTHORITY notice stands before the results (R144, R146). -/
def State.enterStandalone (expired : Bool) (s : State) : State :=
  let s := { s with authority := .standalone }
  let s := if expired then s.notify (.authority (pendingByReader s.cards).length s.authorisingTills.length) else s
  s.resolveWaits

/-! ## Requests -/

/-- LEASE GRANT (R143). -/
def serveLeaseGrant (tag : Octet) (body : List Octet) : Serve :=
  framed tag (body.length = 2) fun s =>
    let n := num body
    if 5 ≤ n ∧ n ≤ 300 then ({ s with authority := .online (n * 1000) }, ok (pair true ++ be 4 (n * 1000)))
    else (s, refuse .range)

/-- LEASE END (R145). -/
def serveLeaseEnd (tag : Octet) (body : List Octet) : Serve :=
  framed tag (body.length = 0) fun s =>
    match s.authority with
    | .standalone => (s, ok (pair false ++ o1 0 ++ o1 0))
    | .online _ =>
      (s.enterStandalone false,
        ok (pair true ++ o1 (pendingByReader s.cards).length ++ o1 s.authorisingTills.length))

/-- TIME SET (R148). -/
def serveTimeSet (tag : Octet) (body : List Octet) : Serve :=
  framed tag (body.length = 4) fun s =>
    let t : ShipTime := BitVec.ofNat 32 (num body)
    ({ s with clock := { s.clock with time := t, valid := true, secondMs := 0 } },
      ok (timeOctets s.clock.time ++ flag s.clock.valid ++ timeOctets t))

/-- The seconds to the next minute tick, 1 to 60 (R149). -/
def Clock.toTick (c : Clock) : Nat := max 1 ((Config.minuteMs - c.minuteMs + 999) / 1000)

/-- TIME GET (R149). -/
def serveTimeGet (tag : Octet) (body : List Octet) : Serve :=
  framed tag (body.length = 0) fun s =>
    (s, ok (timeOctets s.clock.time ++ flag s.clock.valid ++ o1 s.clock.toTick))

def execLeaseGrant (tag : Octet) (body : List Octet) (s : State) : Out :=
  .next (s.request ⟨0x20, tag, body⟩ (serveLeaseGrant tag body))

def execLeaseEnd (tag : Octet) (body : List Octet) (s : State) : Out :=
  .next (s.request ⟨0x21, tag, body⟩ (serveLeaseEnd tag body))

def execTimeSet (tag : Octet) (body : List Octet) (s : State) : Out :=
  .next (s.request ⟨0x22, tag, body⟩ (serveTimeSet tag body))

def execTimeGet (tag : Octet) (body : List Octet) (s : State) : Out :=
  .next (s.request ⟨0x23, tag, body⟩ (serveTimeGet tag body))

/-! ## Events -/

/-- LEASE_EXPIRY (R144): nothing when no lease runs. -/
def execLeaseExpiry (s : State) : Out :=
  .next (match s.authority with
    | .online _ => (s.enterStandalone true).close
    | .standalone => s)

/-- SHIP_TIME_ADVANCE (R147): at the top the next advance gives 0 and makes the time not valid. -/
def execShipTimeAdvance (s : State) : Out :=
  .next { s with clock :=
    { s.clock with
      time := s.clock.time + 1
      valid := s.clock.valid && s.clock.time != BitVec.allOnes 32
      secondMs := 0 } }

/-- MINUTE_TICK (R150): the card table ages callers and looks for overstay, and the deadline counter counts down. R150 sets no order
between the two: that the card table goes first, so that the OVERSTAY alarms stand before the DEADLINE notice and its counts leave
out the callers that this tick removes, is the model's choice (log entry 29). -/
def execMinuteTick (s : State) : Out :=
  let s := { s with clock := { s.clock with minuteMs := 0 } }
  .next (s.ageCallers.deadlineTick).close

end Sys2Proof.Machine
end

