-- ==== Sys2Proof/Machine/Bus.lean ====
section
/-! DEFINITION. The reader bus (chapter 10): the poll round, the ends of its exchanges, READER STATUS, and taking the working setup's
roles into service (R171). -/

namespace Sys2Proof.Machine

/-! ## The poll round (R166) -/

/-- The next reader after a position, searching upward and wrapping from 48 to 1, whose enrolment state answers `p`. -/
def State.searchFrom (pos : ReaderNo) (p : Enrol → Bool) (s : State) : Option ReaderNo :=
  (allReaders.filter (fun r => pos < r) ++ allReaders.filter (fun r => r ≤ pos)).find? (fun r => p (s.readers.get r).enrol)

def Enrol.isProbed : Enrol → Bool
  | .absent => true
  | .lost => true
  | _ => false

def Enrol.isActive : Enrol → Bool
  | .active => true
  | _ => false

def Enrol.isRejected : Enrol → Bool
  | .rejected => true
  | _ => false

/-- An exchange begins: the frame is sent and its reply window opens (R161). -/
def State.beginExchange (r : ReaderNo) (sent : Sent) (stage : RoundStage) (s : State) : State :=
  { s with bus := { s.bus with stage := stage, exchange := some ⟨r, sent, Config.replyWindow⟩ } }

/-- The exchange with an ACTIVE reader: an INDICATE that empties the slot, or a POLL (R166, R169). -/
def State.beginPoll (r : ReaderNo) (s : State) : State :=
  match (s.readers.get r).slot with
  | some p => (s.setReader r (fun rd => { rd with slot := none })).beginExchange r (.indicate p) (.polls (r.val + 1))
  | none => s.beginExchange r .poll (.polls (r.val + 1))

/-- The next exchange of the round, or the next stage when this one has none; an empty round takes no time (log entry 15). -/
def State.nextExchange : Nat → State → State
  | 0, s => s
  | n + 1, s =>
    match s.bus.stage with
    | .polls i =>
      match allReaders.find? (fun r : ReaderNo => decide (i ≤ r.val) && (s.readers.get r).enrol.isActive) with
      | some r => s.beginPoll r
      | none => State.nextExchange n { s with bus := { s.bus with stage := .probe } }
    | .probe =>
      match s.searchFrom s.bus.probePos Enrol.isProbed with
      | some r => { s with bus := { s.bus with probePos := r } }.beginExchange r .probe .rejected
      | none => State.nextExchange n { s with bus := { s.bus with stage := .rejected } }
    | .rejected =>
      match (if s.bus.round % 16 = 0 then s.searchFrom s.bus.rejectedPos Enrol.isRejected else none) with
      | some r => { s with bus := { s.bus with rejectedPos := r } }.beginExchange r .probe .ended
      | none => State.nextExchange n { s with bus := { s.bus with stage := .ended } }
    | .ended =>
      let round := if s.bus.round < Config.roundTop then s.bus.round + 1 else 1
      State.nextExchange n { s with bus := { s.bus with round := round, stage := .polls 0 } }

/-- Some reader has left UNASSIGNED, so rounds run (R166). A round that stops because every reader has become UNASSIGNED goes on
where it stood when one leaves UNASSIGNED again: the model's choice (log entry 15). -/
def State.roundsRun (s : State) : Bool := allReaders.any (fun r => (s.readers.get r).enrol != .unassigned)

/-- The bus goes on: with no exchange in flight, the next one begins. Over the wrap from 65,535 to 1 a REJECTED reader waits for its
probe at most the rest of one round and 31 rounds of four stages, so 140 stages reach it whatever the round count. -/
def State.busOn (s : State) : State :=
  if s.bus.exchange.isNone && s.roundsRun && s.phase == .running then s.nextExchange 140 else s

/-! ## Ends of exchanges (R161, R164 to R168) -/

/-- The counts of an exchange (R161). -/
def Reader.count (h : Heard) (rd : Reader) : Reader :=
  match h with
  | .nothing => { rd with missCount := satInc rd.missCount }
  | .corrupt => { rd with busErrors := satInc rd.busErrors, missCount := satInc rd.missCount }
  | .valid _ => rd

/-- A miss of an ACTIVE reader; the third in a row moves it to LOST (R168). -/
def State.miss (r : ReaderNo) (s : State) : State :=
  let rd := s.readers.get r
  if rd.misses < 2 then s.setReader r (fun rd => { rd with misses := rd.misses + 1 })
  else
    (s.setReader r (fun rd => { rd with enrol := .lost, lost := true, slot := none, misses := 0 })).raise (.readerLost r)

/-- A TAMPER reply of a listed state (R167). -/
def State.tamper (r : ReaderNo) (active : Bool) (s : State) : State :=
  let was := (s.readers.get r).tamper
  let s := s.setReader r (fun rd => { rd with tamper := active })
  if active && !was then s.raise (.tamper r) else s

/-- A valid reply to a POLL or an INDICATE (R167). A TAMPER state that R190 does not list changes nothing further: the model's
choice (log entry 15). -/
def State.polled (r : ReaderNo) (f : ReaderFrame) (s : State) : State :=
  let s := s.setReader r (fun rd => { rd with misses := 0 })
  match f with
  | .idle => s
  | .present card => s.present r card
  | .tamper state =>
    match flagOf state.toNat with
    | some active => s.tamper r active
    | none => s
  | .offer _ => s
  | .confirm _ _ => s

/-- The end of a POLL or INDICATE exchange (R167, R168, of an ACTIVE reader alone). A reader that has left ACTIVE while it was in flight (R171)
has its counts raised and nothing more. -/
def State.endPoll (r : ReaderNo) (h : Heard) (s : State) : State :=
  let s := s.setReader r (·.count h)
  if (s.readers.get r).enrol = .active then
    match h with
    | .valid f => s.polled r f
    | _ => s.miss r
  else s

/-- The types a role accepts (R163). -/
def Role.acceptsHead : Role → HeadType → Bool
  | .door _, .d => true
  | .door _, .l => true
  | .counter _, .c => true
  | .laneOut _, .l => true
  | .laneIn _, .l => true
  | _, _ => false

/-- The type octet of an OFFER names a type that the role accepts (R163, R190). -/
def Role.accepts (role : Role) (type : Octet) : Bool := (headTypeOf type.toNat).any role.acceptsHead

/-- A head of a compatible type is ASSIGNING, with the ASSIGN following at once; one of another type is REJECTED, with an alarm on its
entry there alone (R164). -/
def State.judge (r : ReaderNo) (type : Octet) (s : State) : State :=
  let rd := s.readers.get r
  if rd.role.accepts type then
    (s.setReader r (fun rd => { rd with enrol := .assigning })).beginExchange r (.assign rd.role) s.bus.stage
  else if rd.enrol = .rejected then s
  else (s.setReader r (fun rd => { rd with enrol := .rejected })).raise (.readerRejected r)

/-- A valid OFFER records its type and revision, whatever it leads to (R162, R164). The table of R164 has no row for a reader that has
become UNASSIGNED while its PROBE was in flight (R171): that it stays UNASSIGNED is the model's choice (log entry 15). -/
def State.offered (r : ReaderNo) (o : Offer) (s : State) : State :=
  let s := s.setReader r (fun rd => { rd with offered := some o })
  let enrol := (s.readers.get r).enrol
  if enrol.isProbed || enrol.isRejected then s.judge r o.type else s

/-- The end of a PROBE exchange (R164). -/
def State.endProbe (r : ReaderNo) (h : Heard) (s : State) : State :=
  let s := s.setReader r (·.count h)
  match h with
  | .valid (.offer o) => s.offered r o
  | _ => s

/-- The reader record on becoming ACTIVE (R165). -/
def Reader.activate (rd : Reader) : Reader := { rd with enrol := .active, misses := 0, slot := none }

/-- The end of an ASSIGN exchange (R165). A reader that has left ASSIGNING while it was in flight (R171) has its counts raised, and that the
reply then has no other effect is the model's choice (log entry 15). -/
def State.endAssign (r : ReaderNo) (role : Role) (h : Heard) (s : State) : State :=
  let s := s.setReader r (·.count h)
  if (s.readers.get r).enrol = .assigning then
    match h with
    | .valid (.confirm code index) =>
      if code.toNat = role.code ∧ index.toNat = role.index then s.setReader r Reader.activate
      else s.setReader r (fun rd => { rd with enrol := .absent })
    | _ => s.setReader r (fun rd => { rd with enrol := .absent })
  else s

/-- The exchange in flight ends with what was received, and the next one begins (R161). -/
def State.endExchange (x : Exchange) (h : Heard) (s : State) : State :=
  let s := { s with bus := { s.bus with exchange := none } }
  let s := match x.sent with
    | .poll => s.endPoll x.reader h
    | .indicate _ => s.endPoll x.reader h
    | .probe => s.endProbe x.reader h
    | .assign role => s.endAssign x.reader role h
  s.busOn

/-- POLL_EXCHANGE_END (R167, R168): nothing when no POLL or INDICATE is in flight (log entry 15). -/
def execPollExchangeEnd (reply : List Octet) (s : State) : Out :=
  .next (match s.bus.exchange with
    | some x =>
      match x.sent with
      | .poll => (s.endExchange x (x.hear reply)).closeZone
      | .indicate _ => (s.endExchange x (x.hear reply)).closeZone
      | _ => s
    | none => s)

/-- PROBE_EXCHANGE_END (R164): nothing when no PROBE is in flight. -/
def execProbeExchangeEnd (reply : List Octet) (s : State) : Out :=
  .next (match s.bus.exchange with
    | some x =>
      match x.sent with
      | .probe => (s.endExchange x (x.hear reply)).close
      | _ => s
    | none => s)

/-- ASSIGN_EXCHANGE_END (R165): nothing when no ASSIGN is in flight. -/
def execAssignExchangeEnd (reply : List Octet) (s : State) : Out :=
  .next (match s.bus.exchange with
    | some x =>
      match x.sent with
      | .assign _ => (s.endExchange x (x.hear reply)).close
      | _ => s
    | none => s)

/-- READER_REPLY_WINDOW (R161): the exchange in flight, of any frame, ends with no reply. -/
def execReaderReplyWindow (s : State) : Out :=
  .next (match s.bus.exchange with
    | some x => (s.endExchange x .nothing).close
    | none => s)

/-! ## READER STATUS (R170) -/

/-- The record a READER STATUS returns. -/
def Reader.octets (rd : Reader) : List Octet :=
  o1 rd.role.code ++ o1 rd.role.index ++ o1 rd.enrol.code ++ [rd.offered.elim 0 Offer.type] ++
    [rd.offered.elim 0 Offer.revision] ++ flag rd.tamper ++ flag rd.lost ++ o1 rd.misses ++
    o1 (rd.slot.elim 0 Pattern.code) ++ o1 (rd.marker.elim 0 (fun m => m.stage.code)) ++ be 2 rd.filtered ++
    be 2 rd.busErrors ++ be 2 rd.missCount

/-- The lost latch and the three counts are cleared. -/
def Reader.read (rd : Reader) : Reader := { rd with lost := false, filtered := 0, busErrors := 0, missCount := 0 }

def serveReaderStatus (tag : Octet) (body : List Octet) : Serve :=
  framed tag (body.length = 1) fun s =>
    match readerOf (num body) with
    | none => (s, refuse .range)
    | some r => (s.setReader r Reader.read, ok (s.readers.get r).octets)

def execReaderStatus (tag : Octet) (body : List Octet) (s : State) : Out :=
  .next (s.request ⟨0x26, tag, body⟩ (serveReaderStatus tag body))

/-! ## Taking the working setup into service (R156, R171) -/

/-- A reader record takes its role from the setup taken into service (R171). -/
def Reader.takeRole (role : Role) (rd : Reader) : Reader :=
  if rd.role = role then rd
  else
    { rd with
      role := role
      enrol := if role = .none then .unassigned else .absent
      offered := none
      misses := 0
      tamper := false
      slot := none }

/-- Every reader record takes its role. -/
def State.takeRoles (s : State) : State :=
  allReaders.foldl (fun s r => s.setReader r (·.takeRole (s.setup.readers.get r))) s

/-- A lane treated as UNUSED, from now or from before: it stays so until a MAINTENANCE LEAVE (R156), and like every UNUSED lane it
keeps its counters at 0 (R89; log entry 30). -/
def Lane.markUnfit (unfit : Bool) (x : Lane) : Lane := if unfit || x.unfit then { x.clearCounts with unfit := true } else x

/-- A till treated as UNUSED, from now or from before (R156). -/
def Till.markUnfit (unfit : Bool) (x : Till) : Till := { x with unfit := unfit || x.unfit }

/-- The USED lanes and tills whose bindings fail are treated as UNUSED, and those that were so stay so (R156). -/
def State.markUnfit (s : State) : State :=
  let s := allLanes.foldl (fun s l => s.onZone (·.setLane l
    (·.markUnfit ((s.setup.lanes.get l).used && !s.setup.laneFits l)))) s
  allTills.foldl (fun s t => s.setTill t (·.markUnfit (!s.setup.tillFits t))) s

end Sys2Proof.Machine
end

