-- ==== Sys2Proof/Machine/Evacuation.lean ====
section
/-! DEFINITION. The evacuation monitor (chapter 9). -/

namespace Sys2Proof.Machine

/-- The EVACUATION notice of a change of state (R154). -/
def State.evacNotice (cause : EvacCause) (suspended abandoned : Nat) (s : State) : State :=
  s.notify (.evacuation s.evac.state s.evac.line s.evac.host cause suspended abandoned)

/-- The USED lanes that hold a movement. -/
def State.movingLanes (s : State) : List LaneNo :=
  allLanes.filter (fun l => s.zone.laneUsed s.setup l && (s.zone.lanes.get l).state.movement.isSome)

/-- The tills with an open charge. -/
def State.openTills (s : State) : List TillNo := allTills.filter (fun t => !(s.tills.get t).state.isIdle)

/-- An entry made in MAINTENANCE leaves it and takes the working setup into service as it stands (R156). -/
def State.leaveForEvacuation (s : State) : State :=
  if s.inMaintenance then { s with mode := .normal }.takeRoles.markUnfit.busOn else s

/-- The claims of an entry (R155): channels, lanes and tills, each in ascending number. That a gate takes the release claim before the
relock claim of its lane's abandoned movement (R103) is the model's choice (log entry 29). -/
def State.entryClaims (s : State) : State :=
  let s := allChans.foldl (fun s c => s.onZone (·.releaseClaim s.setup c)) s
  let s := allLanes.foldl (fun s l => s.evacuateLane l) s
  allTills.foldl (fun s t => s.dropCharge t .suspended) s

/-- Entry into EVACUATION (R155, R156). -/
def State.enterEvacuation (cause : EvacCause) (s : State) : State :=
  let s := s.leaveForEvacuation
  let s := { s with evac := { s.evac with state := .evacuation } }
  (s.evacNotice cause s.openTills.length s.movingLanes.length).entryClaims

/-- Exit into RECOVERY (R157). The relock test follows in the close of the event (R158). The spec gives the end-of-release claims of one
exit no order (R65, R157); that they are taken in ascending channel number, so that with a relock delay of 0 the lower numbers request
their slots first, is the model's choice (log entry 29). -/
def State.exitEvacuation (cause : EvacCause) (s : State) : State :=
  let s := { s with evac := { s.evac with state := .recovery } }
  let s := s.evacNotice cause 0 0
  let s := allChans.foldl (fun s c => s.onZone (·.endRelease s.setup c)) s
  allLanes.foldl (fun s l => s.returnLane l) s

/-- The monitor takes a source asserted (R154, R159). -/
def State.sourceSet (cause : EvacCause) (s : State) : State :=
  if s.evac.state = .evacuation then s else s.enterEvacuation cause

/-- The monitor takes a source cleared (R154). -/
def State.sourceCleared (cause : EvacCause) (s : State) : State :=
  if s.evac.state = .evacuation ∧ s.evac.line = false ∧ s.evac.host = false then s.exitEvacuation cause else s

/-- The reply to EVACUATE SET and EVACUATE CLEAR (R153). -/
def State.evacReply (s : State) : Reply := ok (flag s.evac.host ++ pair s.evac.line ++ o1 s.evac.state.code)

/-- EVACUATE SET (R153). -/
def serveEvacuateSet (tag : Octet) (body : List Octet) : Serve :=
  framed tag (body.length = 0) (fun s =>
    let s := { s with evac := { s.evac with host := true } }.sourceSet .hostSet
    (s, s.evacReply))

/-- EVACUATE CLEAR (R153); the relock test is made at the exit (R158), before the reply is built. -/
def serveEvacuateClear (tag : Octet) (body : List Octet) : Serve :=
  framed tag (body.length = 0) (fun s =>
    let s := ({ s with evac := { s.evac with host := false } }.sourceCleared .hostCleared).relockTest
    (s, s.evacReply))

def execEvacuateSet (tag : Octet) (body : List Octet) (s : State) : Out :=
  .next (s.request ⟨0x24, tag, body⟩ (serveEvacuateSet tag body))

def execEvacuateClear (tag : Octet) (body : List Octet) (s : State) : Out :=
  .next (s.request ⟨0x25, tag, body⟩ (serveEvacuateClear tag body))

/-- The line qualifies at a value: its level and its qualified value (R152). -/
def State.lineQualified (v : Bool) (s : State) : State :=
  { s with pins := { s.pins with lineLow := v }, evac := { s.evac with line := v, lineCount := 0 } }

/-- EVACUATION_LINE_ASSERTED (R152, R154): nothing when the qualified value is ASSERTED already, or while start-up qualifies the
line itself (R160). -/
def execEvacuationLineAsserted (s : State) : Out :=
  .next (if s.evac.line ∨ s.phase ≠ .running then s else ((s.lineQualified true).sourceSet .lineAsserted).closeZone)

/-- EVACUATION_LINE_CLEARED (R152, R154): nothing when the qualified value is CLEAR already. -/
def execEvacuationLineCleared (s : State) : Out :=
  .next (if s.evac.line = false ∨ s.phase ≠ .running then s
    else ((s.lineQualified false).sourceCleared .lineCleared).closeZone)

end Sys2Proof.Machine
end

