-- ==== Sys2Proof/Machine/Status.lean ====
section
/-! DEFINITION. The state of the part as a whole, the link counters, and a request of a kind not in use (R176, R181, R182). -/

namespace Sys2Proof.Machine

/-- The lease time left, 0 in STANDALONE (R181, R183). -/
def Authority.left : Authority → Nat
  | .online n => n
  | .standalone => 0

/-- The reply to STATUS (R181). -/
def statusOctets (s : State) : List Octet :=
  be 2 Config.partCode ++ o1 Config.revision ++ o1 s.mode.code ++ o1 s.evac.state.code ++ pair s.authority.isOnline ++
    be 4 s.authority.left ++ flag s.clock.valid ++ flag s.save.isSome ++ be 2 s.cards.length ++
    o1 (pendingEntries s.cards).length ++ be 2 s.journal.depth ++ flag s.journal.exhausted ++
    o1 s.alarms.records.length ++ flag s.alarms.overflow

/-- STATUS (R181). -/
def serveStatus (tag : Octet) (body : List Octet) : Serve :=
  framed tag (body.length = 0) fun s => (s, ok (statusOctets s))

/-- The seven link counters in the order of R182. -/
def Link.counterOctets (k : Link) : List Octet :=
  be 2 k.strayOctets ++ be 2 k.lengthErrors ++ be 2 k.gapTimeouts ++ be 2 k.checkErrors ++ be 2 k.busyRefusals ++
    be 2 k.overruns ++ be 2 k.droppedNotices

/-- The seven link counters at 0. -/
def Link.clearCounters (k : Link) : Link :=
  { k with
    strayOctets := 0, lengthErrors := 0, gapTimeouts := 0, checkErrors := 0, busyRefusals := 0, overruns := 0
    droppedNotices := 0 }

/-- LINK STATUS (R182). -/
def serveLinkStatus (tag : Octet) (body : List Octet) : Serve :=
  framed tag (body.length = 0) fun s =>
    ({ s with link := s.link.clearCounters },
      ok (s.link.counterOctets ++ o1 s.link.rate.code ++ o1 s.link.notices.length))

/-- A request of a kind not in use (R176, check 1). -/
def serveUnknownKind : Serve := fun s => (s, refuse .unknownKind)

def execStatus (tag : Octet) (body : List Octet) (s : State) : Out :=
  .next (s.request ⟨0x27, tag, body⟩ (serveStatus tag body))

def execLinkStatus (tag : Octet) (body : List Octet) (s : State) : Out :=
  .next (s.request ⟨0x28, tag, body⟩ (serveLinkStatus tag body))

def execUnknownKind (kind tag : Octet) (body : List Octet) (s : State) : Out :=
  .next (s.request ⟨kind, tag, body⟩ serveUnknownKind)

end Sys2Proof.Machine
end

