-- ==== Sys2Proof/Machine/Setup.lean ====
section
/-! DEFINITION. Setup records and their GET requests, maintenance, and the setup save (chapter 12; R1, R47, R88, R116, R162). -/

namespace Sys2Proof.Machine

/-! ## The records in their bodies: the fields of each rule in its order (R183) -/

/-- SETUP READER: the reader and its role (R162). -/
def setupReaderOf (body : List Octet) : Option (ReaderNo × Role) :=
  match fields [1, 1, 1] body with
  | [addr, code, index] => do return (← readerOf addr, ← roleOf code index)
  | _ => none

/-- SETUP CHANNEL: the channel and its record (R47). -/
def setupChannelOf (body : List Octet) : Option (Chan × ChanSetup) :=
  match fields [1, 1, 2, 1, 1, 1] body with
  | [chan, kind, door, mode, contact, privacy] => do
    let c ← indexOf 32 chan
    let k ← chanKindOf kind
    let m ← contactModeOf mode
    let ch ← pairOf contact
    let ph ← pairOf privacy
    if door ≤ 4095 then return (c, ⟨k, door, m, ch, ph⟩) else none
  | _ => none

/-- SETUP LANE: the lane and its record (R88). -/
def setupLaneOf (body : List Octet) : Option (LaneNo × LaneSetup) :=
  match fields [1, 1, 1, 1] body with
  | [lane, use, dir, gate] => do return (← indexOf 4 lane, ⟨← pairOf use, ← laneDirOf dir, ← indexOf 32 gate⟩)
  | _ => none

/-- SETUP TILL: the till and its record (R116). -/
def setupTillOf (body : List Octet) : Option (TillNo × TillSetup) :=
  match fields [1, 1, 1] body with
  | [till, use, cls] => do return (← indexOf 8 till, ⟨← pairOf use, ← tillClassOf cls⟩)
  | _ => none

/-- Every setting lies in its range (R1). -/
def Timing.inRange (t : Timing) : Bool :=
  decide (t.repeatWindow ≤ 10) && decide (500 ≤ t.queryHold) && decide (t.queryHold ≤ 3000) &&
    decide (1 ≤ t.answerTime) && decide (t.answerTime ≤ 10) && decide (10 ≤ t.armTime) && decide (t.armTime ≤ 300) &&
    decide (1 ≤ t.holdTime) && decide (t.holdTime ≤ 30) && decide (t.relockDelay ≤ 5) && decide (10 ≤ t.doorHeld) &&
    decide (t.doorHeld ≤ 600) && decide (100 ≤ t.driveTimeout) && decide (t.driveTimeout ≤ 2000) &&
    decide (1 ≤ t.ocQualify) && decide (t.ocQualify ≤ 50) && decide (5 ≤ t.debounce) && decide (t.debounce ≤ 200) &&
    decide (2 ≤ t.passWindow) && decide (t.passWindow ≤ 30) && decide (1 ≤ t.idleLimit) && decide (t.idleLimit ≤ 1440) &&
    decide (64 ≤ t.highWater) && decide (t.highWater ≤ 4096)

/-- SETUP TIMING: the thirteen settings in the order of R1. -/
def setupTimingOf (body : List Octet) : Option Timing :=
  match fields [1, 2, 1, 2, 1, 1, 2, 2, 1, 1, 1, 2, 2] body with
  | [repeatWindow, queryHold, answer, arm, hold, relock, doorHeld, drive, oc, debounce, pass, idle, high] =>
    let t : Timing := ⟨repeatWindow, queryHold, answer, arm, hold, relock, doorHeld, drive, oc, debounce, pass, idle, high⟩
    if t.inRange then some t else none
  | _ => none

/-- SETUP POLICY: the settings in the order of R192, each group's fault scope with its over-current mode. -/
def setupPolicyOf (body : List Octet) : Option Policy :=
  match fields [1, 1, 1, 1, 1, 1, 1, 1, 1, 1, 1, 1, 1, 1, 1] body with
  | [presence, passback, s0, m0, s1, m1, s2, m2, s3, m3, jamOpening, jamClosing, overcurrent, lost, rail] => do
    let presence ← pairOf presence
    let passback ← pairOf passback
    let scope := #v[← scopeOf s0, ← scopeOf s1, ← scopeOf s2, ← scopeOf s3]
    let mode := #v[← ocModeOf m0, ← ocModeOf m1, ← ocModeOf m2, ← ocModeOf m3]
    let mask : FaultSet := ⟨← flagOf jamOpening, ← flagOf jamClosing, ← flagOf overcurrent, ← flagOf lost⟩
    return ⟨presence, passback, scope, mode, mask, ← flagOf rail⟩
  | _ => none

/-- The record of a reader as it travels. -/
def Setup.readerOctets (cfg : Setup) (r : ReaderNo) : List Octet :=
  o1 (address r) ++ o1 (cfg.readers.get r).code ++ o1 (cfg.readers.get r).index

/-- The record of a channel as it travels. -/
def Setup.channelOctets (cfg : Setup) (c : Chan) : List Octet :=
  let x := cfg.channels.get c
  o1 c ++ o1 x.kind.code ++ be 2 x.door ++ o1 x.mode.code ++ pair x.contactHigh ++ pair x.privacyHigh

/-- The record of a lane as it travels. -/
def Setup.laneOctets (cfg : Setup) (l : LaneNo) : List Octet :=
  let x := cfg.lanes.get l
  o1 l ++ pair x.used ++ o1 x.dir.code ++ o1 x.gate

/-- The record of a till as it travels. -/
def Setup.tillOctets (cfg : Setup) (t : TillNo) : List Octet :=
  let x := cfg.tills.get t
  o1 t ++ pair x.used ++ o1 x.cls.code

/-- The timing settings as they travel. -/
def Timing.octets (t : Timing) : List Octet :=
  o1 t.repeatWindow ++ be 2 t.queryHold ++ o1 t.answerTime ++ be 2 t.armTime ++ o1 t.holdTime ++ o1 t.relockDelay ++
    be 2 t.doorHeld ++ be 2 t.driveTimeout ++ o1 t.ocQualify ++ o1 t.debounce ++ o1 t.passWindow ++ be 2 t.idleLimit ++
    be 2 t.highWater

/-- The policy settings as they travel. -/
def Policy.octets (p : Policy) : List Octet :=
  pair p.presence ++ pair p.passback ++
    (List.finRange 4).flatMap (fun g => o1 (p.scope.get g).code ++ o1 (p.ocMode.get g).code) ++ flag p.mask.jamOpening ++
    flag p.mask.jamClosing ++ flag p.mask.overcurrent ++ flag p.mask.positionLost ++ flag p.railMask

/-! ## Structural records -/

/-- The checks of R192 on a structural record: RANGE, then MAINTENANCE, then BUSY during a save. -/
def structural {α : Type} (record : Option α) (write : α → State → State) (s : State) : State × Reply :=
  match record with
  | none => (s, refuse .range)
  | some x =>
    if !s.inMaintenance then (s, refuse .maintenance)
    else if s.save.isSome then (s, refuse .busy)
    else (write x s, ok [])

/-- The working setup changed by `f`. -/
def State.onSetup (f : Setup → Setup) (s : State) : State := { s with setup := f s.setup }

/-- A SETUP READER changes the working setup alone; the reader takes its role when the setup is taken into service (R162, R171). -/
def State.writeReader (x : ReaderNo × Role) (s : State) : State :=
  s.onSetup (fun cfg => { cfg with readers := vset cfg.readers x.1 x.2 })

/-- The channel is put in OFF: it leaves its arbiter, its timers and qualifiers stop, and its privacy reads disengaged (R47, R49). -/
def Zone.putOff (cfg : Setup) (c : Chan) (z : Zone) : Zone :=
  (((z.leave c).enter cfg c .off).setChan c (fun ch =>
    { ch with privacy := false, contactQual := none, privacyQual := none })).settle cfg c

/-- What an accepted SETUP CHANNEL does to the channel, given its record before (R47). -/
def Zone.reconfigure (cfg : Setup) (pins : Pins) (old : ChanSetup) (c : Chan) (z : Zone) : Zone :=
  let new := cfg.channels.get c
  if new.kind ≠ old.kind then
    let z := z.putOff cfg c
    if new.kind = .none then z else (z.setChan c (·.readInputs cfg pins c)).place cfg c
  else if new.kind ≠ .none ∧
      (new.mode ≠ old.mode ∨ new.contactHigh ≠ old.contactHigh ∨ new.privacyHigh ≠ old.privacyHigh) then
    z.setChan c (·.requalify cfg pins c)
  else z

/-- A SETUP CHANNEL is written and changes its channel (R47). -/
def State.writeChannel (x : Chan × ChanSetup) (s : State) : State :=
  let old := s.setup.channels.get x.1
  let s := s.onSetup (fun cfg => { cfg with channels := vset cfg.channels x.1 x.2 })
  s.onZone (·.reconfigure s.setup s.pins old x.1)

/-- A SETUP LANE is written; a change from USED to UNUSED sets the lane's counters to 0 (R88). -/
def State.writeLane (x : LaneNo × LaneSetup) (s : State) : State :=
  let was := (s.setup.lanes.get x.1).used
  let s := s.onSetup (fun cfg => { cfg with lanes := vset cfg.lanes x.1 x.2 })
  if was && !x.2.used then s.onZone (·.setLane x.1 Lane.clearCounts) else s

/-- A SETUP TILL is written; the till keeps its last outcome (R116). -/
def State.writeTill (x : TillNo × TillSetup) (s : State) : State :=
  s.onSetup (fun cfg => { cfg with tills := vset cfg.tills x.1 x.2 })

/-- SETUP READER (R162, R192). -/
def serveSetupReader (tag : Octet) (body : List Octet) : Serve :=
  framed tag (body.length = 3) (structural (setupReaderOf body) State.writeReader)

/-- SETUP CHANNEL (R47, R192). -/
def serveSetupChannel (tag : Octet) (body : List Octet) : Serve :=
  framed tag (body.length = 7) (zoned (structural (setupChannelOf body) State.writeChannel))

/-- SETUP LANE (R88, R192). -/
def serveSetupLane (tag : Octet) (body : List Octet) : Serve :=
  framed tag (body.length = 4) (structural (setupLaneOf body) State.writeLane)

/-- SETUP TILL (R116, R192). -/
def serveSetupTill (tag : Octet) (body : List Octet) : Serve :=
  framed tag (body.length = 3) (structural (setupTillOf body) State.writeTill)

def execSetupReader (tag : Octet) (body : List Octet) (s : State) : Out :=
  .next (s.request ⟨0x29, tag, body⟩ (serveSetupReader tag body))

def execSetupChannel (tag : Octet) (body : List Octet) (s : State) : Out :=
  .next (s.request ⟨0x2A, tag, body⟩ (serveSetupChannel tag body))

def execSetupLane (tag : Octet) (body : List Octet) (s : State) : Out :=
  .next (s.request ⟨0x2B, tag, body⟩ (serveSetupLane tag body))

def execSetupTill (tag : Octet) (body : List Octet) (s : State) : Out :=
  .next (s.request ⟨0x2C, tag, body⟩ (serveSetupTill tag body))

/-! ## Operating records -/

/-- SETUP TIMING (R1, R192). -/
def serveSetupTiming (tag : Octet) (body : List Octet) : Serve :=
  framed tag (body.length = 19) fun s =>
    match setupTimingOf body with
    | none => (s, refuse .range)
    | some t => (s.onSetup (fun cfg => { cfg with timing := t }), ok [])

/-- The rail mask moves a monitor in UNDERVOLTAGE to GOOD, and one in GOOD counts no low sample (R77). -/
def State.maskRail (g : Grp) (s : State) : State :=
  if (s.zone.groups.get g).rail = .undervoltage then s.railToGood g
  else s.onZone (·.setGroup g (fun x => { x with railCount := 0 }))

/-- A SETUP POLICY is written; a rail mask holds every monitor in GOOD (R77, R192). That the monitors move in ascending group is the
model's choice (log entry 29). -/
def State.writePolicy (p : Policy) (s : State) : State :=
  let s := s.onSetup (fun cfg => { cfg with policy := p })
  if p.railMask then (List.finRange 4).foldl (fun s g => s.maskRail g) s else s

/-- SETUP POLICY (R192). -/
def serveSetupPolicy (tag : Octet) (body : List Octet) : Serve :=
  framed tag (body.length = 15) (zoned fun s =>
    match setupPolicyOf body with
    | none => (s, refuse .range)
    | some p => (s.writePolicy p, ok []))

def execSetupTiming (tag : Octet) (body : List Octet) (s : State) : Out :=
  .next (s.request ⟨0x2D, tag, body⟩ (serveSetupTiming tag body))

def execSetupPolicy (tag : Octet) (body : List Octet) (s : State) : Out :=
  .next (s.request ⟨0x2E, tag, body⟩ (serveSetupPolicy tag body))

/-! ## The six GET requests -/

/-- A GET of the record that an index names (R192). -/
def getRecord {α : Type} (index : Option α) (octets : Setup → α → List Octet) (s : State) : State × Reply :=
  match index with
  | none => (s, refuse .range)
  | some i => (s, ok (octets s.setup i))

def serveSetupReaderGet (tag : Octet) (body : List Octet) : Serve :=
  framed tag (body.length = 1) (getRecord (readerOf (num body)) Setup.readerOctets)

def serveSetupChannelGet (tag : Octet) (body : List Octet) : Serve :=
  framed tag (body.length = 1) (getRecord (indexOf 32 (num body)) Setup.channelOctets)

def serveSetupLaneGet (tag : Octet) (body : List Octet) : Serve :=
  framed tag (body.length = 1) (getRecord (indexOf 4 (num body)) Setup.laneOctets)

def serveSetupTillGet (tag : Octet) (body : List Octet) : Serve :=
  framed tag (body.length = 1) (getRecord (indexOf 8 (num body)) Setup.tillOctets)

def serveSetupTimingGet (tag : Octet) (body : List Octet) : Serve :=
  framed tag (body.length = 0) (getRecord (some ()) (fun cfg _ => cfg.timing.octets))

def serveSetupPolicyGet (tag : Octet) (body : List Octet) : Serve :=
  framed tag (body.length = 0) (getRecord (some ()) (fun cfg _ => cfg.policy.octets))

def execSetupReaderGet (tag : Octet) (body : List Octet) (s : State) : Out :=
  .next (s.request ⟨0x2F, tag, body⟩ (serveSetupReaderGet tag body))

def execSetupChannelGet (tag : Octet) (body : List Octet) (s : State) : Out :=
  .next (s.request ⟨0x30, tag, body⟩ (serveSetupChannelGet tag body))

def execSetupLaneGet (tag : Octet) (body : List Octet) (s : State) : Out :=
  .next (s.request ⟨0x31, tag, body⟩ (serveSetupLaneGet tag body))

def execSetupTillGet (tag : Octet) (body : List Octet) (s : State) : Out :=
  .next (s.request ⟨0x32, tag, body⟩ (serveSetupTillGet tag body))

def execSetupTimingGet (tag : Octet) (body : List Octet) (s : State) : Out :=
  .next (s.request ⟨0x33, tag, body⟩ (serveSetupTimingGet tag body))

def execSetupPolicyGet (tag : Octet) (body : List Octet) (s : State) : Out :=
  .next (s.request ⟨0x34, tag, body⟩ (serveSetupPolicyGet tag body))

/-! ## The setup save (R195) -/

/-- SETUP SAVE (R195). -/
def serveSetupSave (tag : Octet) (body : List Octet) : Serve :=
  framed tag (body.length = 0) fun s =>
    if s.save.isSome then (s, refuse .busy) else ({ s with save := some ⟨s.setup, Config.saveMs⟩ }, ok [])

def execSetupSave (tag : Octet) (body : List Octet) (s : State) : Out :=
  .next (s.request ⟨0x35, tag, body⟩ (serveSetupSave tag body))

/-- SETUP_SAVE_END (R195): the store holds the copy when it reads back, and an image that fails its check when it does not (log
entry 17). Nothing when no save is in progress. -/
def execSetupSaveEnd (readsBack : Bool) (s : State) : Out :=
  .next (match s.save with
    | some v =>
      ({ s with save := none, store := ⟨v.copy, if readsBack then .agrees else .fails⟩ }.notify (.setupSaved readsBack)).close
    | none => s)

/-! ## Maintenance (R193, R194) -/

/-- The conditions of MAINTENANCE ENTER (R193). -/
def State.canEnterMaintenance (s : State) : Bool :=
  allChans.all (fun c => !s.setup.inUse c || (s.zone.channels.get c).state.still) &&
    allLanes.all (fun l => !s.zone.laneUsed s.setup l || (s.zone.lanes.get l).state == .closed) &&
    allTills.all (fun t => !s.tillUsed t || (s.tills.get t).state.isIdle) && s.evac.state == .normal &&
    (pendingEntries s.cards).isEmpty

/-- MAINTENANCE ENTER (R193). -/
def serveMaintenanceEnter (tag : Octet) (body : List Octet) : Serve :=
  framed tag (body.length = 0) fun s =>
    if s.inMaintenance then (s, ok [])
    else if s.canEnterMaintenance then ({ s with mode := .maintenance }, ok [])
    else (s, refuse .state)

/-- Every lane and till is in use as its setup record says again (R156). -/
def State.clearUnfit (s : State) : State :=
  let s := allLanes.foldl (fun s l => s.onZone (·.setLane l (fun x => { x with unfit := false }))) s
  allTills.foldl (fun s t => s.setTill t (fun x => { x with unfit := false })) s

/-- A validated setup is taken into service (R194). -/
def State.leaveMaintenance (s : State) : State := { s with mode := .normal }.takeRoles.clearUnfit.busOn

/-- MAINTENANCE LEAVE (R194). -/
def serveMaintenanceLeave (tag : Octet) (body : List Octet) : Serve :=
  framed tag (body.length = 0) fun s =>
    if !s.inMaintenance then (s, refuse .state)
    else if !s.setup.valid then (s, refuse .setupInvalid)
    else (s.leaveMaintenance, ok [])

def execMaintenanceEnter (tag : Octet) (body : List Octet) (s : State) : Out :=
  .next (s.request ⟨0x36, tag, body⟩ (serveMaintenanceEnter tag body))

def execMaintenanceLeave (tag : Octet) (body : List Octet) (s : State) : Out :=
  .next (s.request ⟨0x37, tag, body⟩ (serveMaintenanceLeave tag body))

end Sys2Proof.Machine
end

