-- ==== Sys2Proof/Machine/Start.lean ====
section
/-! DEFINITION. Starts: what a reset keeps and clears, the two stores, and the end of start-up (R26, R46, R67, R87, R111, R131, R141,
R151, R160, R172, R191, R195 to R199). -/

namespace Sys2Proof.Machine

/-! ## The setup store at a start (R195, R196) -/

/-- What the load finds of the store's check: a save cut short fails it, and damage since the image was last written adds to what
stood there. -/
def StoreCheck.damaged (saving : Bool) (damage : StoreDamage) (check : StoreCheck) : StoreCheck :=
  if saving then .fails
  else
    match damage, check with
    | .none, c => c
    | .oneBit, .agrees => .oneBit
    | _, _ => .fails

/-- The store as the start finds it. -/
def State.storeFound (damage : StoreDamage) (s : State) : SetupStore :=
  { s.store with check := s.store.check.damaged s.save.isSome damage }

/-- The setup result of a load (R196). -/
def StoreCheck.result : StoreCheck → SetupResult
  | .agrees => .loaded
  | .oneBit => .corrected
  | .fails => .defaulted

/-- The working setup after the load (R196). -/
def SetupStore.load (x : SetupStore) : Setup :=
  match x.check with
  | .fails => .default
  | _ => x.image

/-! ## The retained collections (R26, R131, R197) -/

/-- A kept entry: its engagement is cleared, and a pending entry is removed (R26). -/
def Entry.kept (e : Entry) : Option Entry :=
  match e.body with
  | .known k => some ⟨e.card, .known { k with engaged := none }⟩
  | .pending _ => none

/-- The card table after a warm start (R26). -/
def keptCards (cards : List (Nat × Entry)) : List (Nat × Entry) :=
  cards.filterMap (fun x => x.2.kept.map (fun e => (x.1, e)))

/-- The folio table with its references recounted (R131). -/
def keptFolios (cards : List (Nat × Entry)) (folios : List (Nat × Folio)) : List (Nat × Folio) :=
  folios.map (fun x => (x.1, { x.2 with refs := refsTo cards x.1 }))

/-- The retained collections of `old` put into the state of a start (R26, R67, R131, R141, R151). -/
def State.keep (old s : State) : State :=
  let cards := keptCards old.cards
  let zone := allChans.foldl (fun z c => z.setChan c (fun ch => { ch with lockout := (old.zone.channels.get c).lockout })) s.zone
  { s with
    cards := cards
    tally := recountTally cards
    folios := keptFolios cards old.folios
    journal := old.journal
    clock := { s.clock with time := old.clock.time, valid := old.clock.valid }
    zone := zone }

/-! ## A start -/

/-- The reader record after a start, by its role (R172). -/
def Reader.start (role : Role) : Reader :=
  { Reader.reset with role := role, enrol := if role = .none then .unassigned else .absent }

/-- Every block in its state after reset, with the working setup and the settled start given; the straps are read (R191, R198).
A rail monitor begins in UNDERVOLTAGE unless the rail mask is set (R77). That no lane and no till is treated as UNUSED after a start
is the model's choice (log entry 30). -/
def State.restarted (cfg : Setup) (store : SetupStore) (info : StartInfo) (s : State) : State :=
  let rail := fun g : Group => { g with rail := if cfg.policy.railMask then .good else .undervoltage }
  let zone := State.reset.zone
  { State.reset with
    pending := s.pending
    samples := s.samples
    free := s.free
    pins := s.pins
    phase := .starting info 0 0
    setup := cfg
    store := store
    link := { Link.reset with rate := strapRate s.pins.strap1 s.pins.strap2, hostReady := s.pins.hostReady }
    readers := allReaders.foldl (fun v r => vset v r (Reader.start (cfg.readers.get r))) State.reset.readers
    zone := (List.finRange 4).foldl (fun z g => z.setGroup g rail) zone }

/-- A start that loads the setup store, cold or keeping the retained collections (R196, R197). -/
def State.loadStart (kind : StartKind) (kept : Bool) (damage : StoreDamage) (s : State) : State :=
  let store := s.storeFound damage
  let fresh := s.restarted store.load store ⟨kind, kept, store.check.result, 0, false⟩
  if kept then State.keep s fresh else fresh

/-- POWER_UP (R197): a cold start, whatever the retention store holds. -/
def execPowerUp (damage : StoreDamage) (s : State) : Out := .next (s.loadStart .cold false damage)

/-- The retained collections pass the check of a warm start (R197). -/
def State.retained (retentionDamaged : Bool) (s : State) : Bool :=
  s.retention.marker && s.retention.agrees && !retentionDamaged

/-- RESET_INPUT (R197). -/
def execResetInput (damage : StoreDamage) (retentionDamaged : Bool) (s : State) : Out :=
  .next (s.loadStart .warm (s.retained retentionDamaged) damage)

/-- MAIN_SUPPLY_LOSS (R197): the start when the supply returns. -/
def execMainSupplyLoss (damage : StoreDamage) (retentionDamaged : Bool) (s : State) : Out :=
  .next (s.loadStart .warm (s.retained retentionDamaged) damage)

/-- RETENTION_SUPPLY_LOSS (R197): the retention marker is lost. -/
def execRetentionSupplyLoss (s : State) : Out := .next { s with retention := { s.retention with marker := false } }

/-! ## RESTART (R197, R199) -/

/-- The restart of a RESTART that is taken: the working setup is kept, the store is not read (R196), and the retained collections are
kept when they pass their check (R197). -/
def State.restart (tag : Octet) (retentionDamaged : Bool) (s : State) : State :=
  let kept := s.retention.agrees && !retentionDamaged
  let fresh := s.restarted s.setup s.store ⟨.restart, kept, .kept, tag, s.inMaintenance⟩
  if kept then State.keep s fresh else fresh

/-- A RESTART at its turn: refused as a frame, refused BUSY during a save, or taken with no reply (R199). Whether it finds the retained
collections damaged (R197) is a free value (log entry 27). -/
def State.takeRestart (f : Frame) (s : State) : State :=
  if f.tag = 0 ∨ f.body ≠ [] then (s.carryOut f (fun s => (s, refuse .malformed))).close
  else if s.save.isSome then (s.carryOut f (fun s => (s, refuse .busy))).close
  else s.fresh.restart f.tag (Config.retentionDamaged s.free)

/-- RESTART (R197, R199). -/
def execRestart (tag : Octet) (body : List Octet) (s : State) : Out :=
  let f : Frame := ⟨0x38, tag, body⟩
  let s := s.arrive f
  .next (if s.phase = .running ∧ oldestWaiting s.link.queue = some f then s.takeRestart f else s.close)

/-! ## The end of start-up (R198) -/

/-- The operating mode of step 4. -/
def State.startMode (info : StartInfo) (s : State) : OpMode :=
  if info.result = .defaulted ∨ s.setup.valid = false ∨ info.inMaintenance then .maintenance else .normal

/-- One channel at the sweep (R67): placed by its bolt senses, it relocks; with the line ASSERTED it does not, and takes the release
claim in the same step. -/
def Zone.sweep (cfg : Setup) (pins : Pins) (release : Bool) (c : Chan) (z : Zone) : Zone :=
  if cfg.inUse c then
    let z := z.setChan c (·.readInputs cfg pins c)
    if release then
      (z.enter cfg c (if (z.channels.get c).home then .locked else .openHold .waitClose)).releaseClaim cfg c
    else z.place cfg c
  else z

/-- Every channel at the sweep (R67). The spec gives the sweep no order; that it goes in ascending channel number, so that with a relock
delay of 0 the lower numbers request their slots first, is the model's choice (log entry 29). -/
def State.sweepAll (release : Bool) (s : State) : State :=
  allChans.foldl (fun s c => s.onZone (·.sweep s.setup s.pins release c)) s

/-- The notices of a start go before every reply and every notice that waits; a notice beyond 64 is dropped (R180, R191). -/
def Link.leadWith (ns : List Notice) (k : Link) : Link :=
  let all := ns ++ k.notices
  { k with
    notices := all.take Config.noticePlaces
    lead := ns.length
    droppedNotices := (List.range (all.length - Config.noticePlaces)).foldl (fun n _ => satInc n) k.droppedNotices }

/-- The START notice (R198). -/
def State.startNotice (info : StartInfo) (s : State) : Notice :=
  .start info.kind info.kept info.result s.mode info.tag

/-- Steps 4 to 6 with the line CLEAR. The line's count of low samples goes on from those of start-up (R152), of which one at least was
high (log entry 22). -/
def State.startClear (info : StartInfo) (s : State) : State :=
  let count := min s.evac.lineCount (Config.lineSamples - 1)
  let s := { s with evac := { s.evac with line := false, lineCount := count, state := .normal }, mode := s.startMode info }
  let s := s.sweepAll false
  { s with link := s.link.leadWith [s.startNotice info] }

/-- Steps 4 to 6 with the line ASSERTED (R160). -/
def State.startReleased (info : StartInfo) (s : State) : State :=
  let s := { s with evac := { s.evac with line := true, lineCount := 0, state := .evacuation }, mode := s.startMode info }
  let s := if s.inMaintenance then { s with mode := .normal }.markUnfit else s
  let s := s.sweepAll true
  let s := allLanes.foldl (fun s l => s.evacuateLane l) s
  { s with link := s.link.leadWith [s.startNotice info, .evacuation .evacuation true s.evac.host .start 0 0] }

/-- START_UP_END (R198): the line qualifies, the mode and the channels are settled, START is sent, and the part runs. Nothing when
no start-up is in progress. -/
def execStartUpEnd (lineLow : Bool) (s : State) : Out :=
  .next (match s.phase with
    | .running => s
    | .starting info _ _ =>
      let s := if lineLow then s.startReleased info else s.startClear info
      ({ s with phase := .running }.busOn).close)

end Sys2Proof.Machine
end

