-- ==== Sys2Proof/Machine/Tick.lean ====
section
/-! DEFINITION. What the part does of itself when no command waits (log entries 1 and 2): one millisecond (timers, samples and
qualifiers; R49, R69, R77, R152, R175), and the events that have come due. -/

namespace Sys2Proof.Machine

/-! ## One millisecond -/

/-- The next sample of the inputs; with none given, the inputs hold their levels (log entry 6). -/
def State.sample (s : State) : State :=
  match s.samples with
  | [] => s
  | p :: ps => { s with pins := p, samples := ps }

/-- A debounce qualifier at a sample (R49): it starts when the level differs from the qualified one, runs while the level holds and
stops at a return. That the time runs from the sample that first shows the new level, which is qualified a whole debounce time
later, is the model's choice (log entry 31). -/
def debounce (time : Nat) (differs : Bool) (q : Option Nat) : Option Nat :=
  if differs then some (q.elim time (· - 1)) else none

/-- The over-current qualifier at a sample (R69, R71). Which sample completes a qualify time of N ms is the model's choice (log entry
31): DEBOUNCE qualifies at the Nth consecutive asserted sample, and BLANKING ignores the sample that falls N ms after the start. That a
masked sample restarts the count is log entry 28. -/
def OcQual.sample (masked asserted : Bool) (q : OcQual) : OcQual :=
  match q.mode with
  | .debounce =>
    let left := if asserted && !masked then q.left - 1 else q.time
    { q with left := left, qualified := asserted && !masked && left == 0 }
  | .blanking => { q with left := q.left - 1, qualified := asserted && !masked && q.left == 0 }

/-- The timers of a channel state after a millisecond. -/
def ChanState.tick : ChanState → ChanState
  | .openHold (.holding n) => .openHold (.holding (n - 1))
  | .openHold (.relockDelay n) => .openHold (.relockDelay (n - 1))
  | st => st

/-- A channel after a millisecond: its timers, and the samples of its qualifiers; an OFF channel ignores its inputs (R49). -/
def Channel.tick (cfg : Setup) (pins : Pins) (c : Chan) (ch : Channel) : Channel :=
  let x := cfg.channels.get c
  let contact := pins.contact.get c == x.contactHigh
  let privacy := pins.privacy.get c == x.privacyHigh
  let on := ch.state != .off
  { ch with
    state := ch.state.tick
    doorHeld := tickTimer ch.doorHeld
    driveLeft := tickTimer ch.driveLeft
    contactQual := debounce cfg.timing.debounce (on && contact != ch.contact) ch.contactQual
    privacyQual := debounce cfg.timing.debounce (on && x.kind == .cabin && privacy != ch.privacy) ch.privacyQual
    oc := ch.oc.map (·.sample cfg.policy.mask.overcurrent (pins.overcurrent.get c)) }

/-- A rail monitor at a sample (R77). -/
def Group.sample (masked good : Bool) (g : Group) : Group :=
  if masked then { g with railCount := 0 }
  else if good == (g.rail == .good) then { g with railCount := 0 }
  else { g with railCount := g.railCount + 1 }

/-- The pass window of a movement after a millisecond. -/
def Movement.tick (m : Movement) : Movement := { m with window := tickTimer m.window }

/-- A lane after a millisecond. -/
def Lane.tick (x : Lane) : Lane :=
  { x with
    state := match x.state with
      | .released m => .released m.tick
      | .closing m => .closing m.tick
      | st => st }

/-- A till after a millisecond. -/
def Till.tick (x : Till) : Till :=
  { x with
    state := match x.state with
      | .armed c n => .armed c (n - 1)
      | .authorising c p n => .authorising c p (n - 1)
      | .idle => .idle }

/-- A reader's repeat timer after a millisecond. -/
def Reader.tick (rd : Reader) : Reader := { rd with memory := rd.memory.map (fun m => { m with left := m.left - 1 }) }

/-- A pending entry's query hold timer after a millisecond. -/
def Entry.tick (e : Entry) : Entry :=
  { e with
    body := match e.body with
      | .pending h => .pending { h with left := h.left - 1 }
      | b => b }

def Authority.tick : Authority → Authority
  | .online n => .online (n - 1)
  | .standalone => .standalone

/-- The host link after a millisecond: the gap timer, the frame on the line and the host-ready input going low. -/
def Link.tick (ready : Bool) (k : Link) : Link :=
  { k with
    framer := match k.framer with
      | .inFrame got n => .inFrame got (n - 1)
      | .hunting => .hunting
    tx := k.tx.map (fun x => { x with left := x.left - 1 })
    hostReady := k.hostReady && ready }

/-- The line qualifier at a sample (R152). -/
def Evac.sample (low : Bool) (e : Evac) : Evac :=
  { e with lineCount := if low == e.line then 0 else e.lineCount + 1 }

/-- The channels, groups and lanes after a millisecond. -/
def Zone.tick (cfg : Setup) (pins : Pins) (z : Zone) : Zone :=
  let z := allChans.foldl (fun z c => z.setChan c (·.tick cfg pins c)) z
  let z := (List.finRange 4).foldl (fun z g => z.setGroup g (·.sample cfg.policy.railMask (pins.railGood.get g))) z
  allLanes.foldl (fun z l => z.setLane l Lane.tick) z

/-- The samples of the line that start-up takes (R152). -/
def Phase.sample (low : Bool) : Phase → Phase
  | .starting info n lows => .starting info (n + 1) (if low then lows + 1 else lows)
  | .running => .running

/-- One millisecond of the part's running. -/
def State.tick (s : State) : State :=
  let s := s.sample
  { s with
    phase := s.phase.sample s.pins.lineLow
    evac := s.evac.sample s.pins.lineLow
    zone := s.zone.tick s.setup s.pins
    tills := allTills.foldl (fun v t => vmod v t Till.tick) s.tills
    readers := allReaders.foldl (fun v r => vmod v r Reader.tick) s.readers
    cards := s.cards.map (fun x => (x.1, x.2.tick))
    authority := s.authority.tick
    clock := { s.clock with secondMs := s.clock.secondMs + 1, minuteMs := s.clock.minuteMs + 1 }
    bus := { s.bus with exchange := s.bus.exchange.map (fun x => { x with left := x.left - 1 }) }
    link := s.link.tick s.pins.hostReady
    save := s.save.map (fun v => { v with left := v.left - 1 }) }

/-! ## The events that have come due -/

/-- The event `i` when `b` holds. -/
def due (b : Bool) (i : Instr) : List Instr := if b then [i] else []

/-- A sense sample that differs from the sense as last taken; the position watch names the loss it watches for (R49, R70). -/
def Channel.senseDue (pins : Pins) (c : Chan) (ch : Channel) : List Instr :=
  let home := due (pins.home.get c != ch.home)
    (if ch.state = .locked ∧ ch.home then .positionLost c else .boltHomeSense c (pins.home.get c))
  let withdrawn := due (pins.withdrawn.get c != ch.withdrawn)
    (if ch.state.isOpenHold ∧ ch.withdrawn then .positionLost c else .boltWithdrawnSense c (pins.withdrawn.get c))
  home ++ withdrawn

/-- The timers of a channel that have run out. -/
def Channel.timerDue (c : Chan) (ch : Channel) : List Instr :=
  (match ch.state with
    | .openHold (.holding 0) => [.holdTimerExpiry c]
    | .openHold (.relockDelay 0) => [.relockDelayExpiry c]
    | _ => []) ++
  due (ch.doorHeld == some 0) (.doorHeldExpiry c) ++ due (ch.driveLeft == some 0) (.driveTimeout c)

/-- The due events of a channel; an OFF channel ignores its inputs (R49). A gate's qualified pulse or opening is its passage edge
(R60), and a masked over-current is not qualified (R71). -/
def Channel.due (cfg : Setup) (pins : Pins) (c : Chan) (ch : Channel) : List Instr :=
  let opens := !ch.contact && cfg.kind c == .gate
  if ch.state = .off then []
  else
    ch.senseDue pins c ++ ch.timerDue c ++
      Machine.due (ch.contactQual == some 0)
        (if opens then .passageEdge c else .contactQualified c (pins.contact.get c)) ++
      Machine.due (ch.privacyQual == some 0) (.privacyQualified c (pins.privacy.get c)) ++
      Machine.due (ch.oc.any (·.qualified) && !cfg.policy.mask.overcurrent) (.overcurrentQualified c)

/-- The due event of a rail monitor (R77). -/
def Group.due (g : Grp) (x : Group) : List Instr :=
  match x.rail with
  | .good => Machine.due (Nat.ble Config.railLowSamples x.railCount) (.railUndervoltage g)
  | .undervoltage => Machine.due (Nat.ble Config.railGoodSamples x.railCount) (.railGood g)

/-- The due event of a lane (R96). -/
def Lane.due (l : LaneNo) (x : Lane) : List Instr :=
  Machine.due (x.state.movement.any (fun m => m.window == some 0)) (.passWindowExpiry l)

/-- The due event of a till (R119, R128). -/
def Till.due (t : TillNo) (x : Till) : List Instr :=
  match x.state with
  | .armed _ 0 => [.armTimerExpiry t]
  | .authorising _ _ 0 => [.answerTimerExpiry t]
  | _ => []

/-- The due events of the decider and the card table (R13, R29). -/
def State.cardDue (s : State) : List Instr :=
  (pendingEntries s.cards).flatMap (fun x => due (x.2.2.left == 0) (.queryHoldExpiry x.2.1)) ++
    allReaders.flatMap (fun r => due ((s.readers.get r).memory.any (fun m => m.left == 0)) (.repeatTimerExpiry r))

/-- The due events of the clock and the lease (R144, R147, R150). -/
def State.clockDue (s : State) : List Instr :=
  due (Nat.ble Config.secondMs s.clock.secondMs) .shipTimeAdvance ++
    due (Nat.ble Config.minuteMs s.clock.minuteMs) .minuteTick ++ due (s.authority == .online 0) .leaseExpiry

/-- The due events of the two links (R161, R173, R175, R179). -/
def State.linkDue (s : State) : List Instr :=
  due (match s.link.framer with
    | .inFrame _ 0 => true
    | _ => false) .gapTimeout ++
  due (s.pins.hostReady && !s.link.hostReady) .hostReadyHigh ++
  due (s.link.tx.any (fun x => x.left == 0)) .transmitFrameEnd ++
  due (s.bus.exchange.any (fun x => x.left == 0)) .readerReplyWindow

/-- The due events of the evacuation line, of start-up and of a setup save (R152, R195, R198). -/
def State.partDue (s : State) : List Instr :=
  (match s.phase with
    | .running =>
      due (Nat.ble Config.lineSamples s.evac.lineCount)
        (if s.evac.line then .evacuationLineCleared else .evacuationLineAsserted)
    | .starting _ n lows => due (Nat.ble Config.lineSamples n) (.startUpEnd (lows == n))) ++
  due (s.save.any (fun v => v.left == 0)) (.setupSaveEnd (Config.saveReadsBack s.free))

/-- The events due now. -/
def State.due (s : State) : List Instr :=
  allChans.flatMap (fun c => (s.zone.channels.get c).due s.setup s.pins c) ++
    (List.finRange 4).flatMap (fun g => (s.zone.groups.get g).due g) ++
    allLanes.flatMap (fun l => (s.zone.lanes.get l).due l) ++ allTills.flatMap (fun t => (s.tills.get t).due t) ++
    s.cardDue ++ s.clockDue ++ s.linkDue ++ s.partDue

/-! ## The oldest waiting request -/

/-- The request kinds in use, in the order of R184: kind 0x01 first. -/
def requestKinds : List (Octet → List Octet → Instr) :=
  [.cardPut, .cardGet, .cardDelete, .cardStatus, .cardRefuse, .presenceSet, .tallyGet, .ashoreList] ++
    [.channelOpen, .channelLockout, .channelStatus, .faultRead, .alarmList, .alarmClear, .alarmEnable] ++
    [.laneOpen, .laneClose, .laneStatus, .deadlineSet, .deadlineClear, .deadlineGet] ++
    [.folioPut, .folioGet, .folioDelete, .chargeOpen, .chargeCancel, .authAnswer, .tillStatus, .journalFetch,
      .journalRelease, .chargeVoid] ++
    [.leaseGrant, .leaseEnd, .timeSet, .timeGet, .evacuateSet, .evacuateClear, .readerStatus, .status, .linkStatus] ++
    [.setupReader, .setupChannel, .setupLane, .setupTill, .setupTiming, .setupPolicy] ++
    [.setupReaderGet, .setupChannelGet, .setupLaneGet, .setupTillGet, .setupTimingGet, .setupPolicyGet] ++
    [.setupSave, .maintenanceEnter, .maintenanceLeave, .restart]

/-- The command that a frame of the request queue is (R176, R184). -/
def Frame.command (f : Frame) : Instr :=
  if f.kind = 0 then .unknownKind f.kind f.tag f.body
  else
    match requestKinds[f.kind.toNat - 1]? with
    | some k => k f.tag f.body
    | none => .unknownKind f.kind f.tag f.body

/-- The oldest WAITING request, once the part runs (R177, R191). -/
def State.turn (s : State) : List Instr :=
  if s.phase = .running then
    match oldestWaiting s.link.queue with
    | some f => [f.command]
    | none => []
  else []

/-! ## What comes next -/

/-- What the part may take next of itself. -/
def State.choices (s : State) : List Instr := s.turn ++ s.due

/-- The one it takes: of several, a free value decides (log entry 2). -/
def State.choose (s : State) : Option Instr := s.choices[Config.pick s.free % s.choices.length]?

end Sys2Proof.Machine
end

