-- ==== Sys2Proof/Machine/Dispatch.lean ====
section
/-! DEFINITION. The dispatch: one arm for each command of the part. -/

namespace Sys2Proof.Machine

/-- The effect of a command on everything but the queue of commands. -/
def exec (i : Instr) (s : State) : Host.Outcome State Fault Refusal :=
  match i with
  | .cardPut tag body => Sys2Proof.Machine.execCardPut tag body s
  | .cardGet tag body => Sys2Proof.Machine.execCardGet tag body s
  | .cardDelete tag body => Sys2Proof.Machine.execCardDelete tag body s
  | .cardStatus tag body => Sys2Proof.Machine.execCardStatus tag body s
  | .cardRefuse tag body => Sys2Proof.Machine.execCardRefuse tag body s
  | .presenceSet tag body => Sys2Proof.Machine.execPresenceSet tag body s
  | .tallyGet tag body => Sys2Proof.Machine.execTallyGet tag body s
  | .ashoreList tag body => Sys2Proof.Machine.execAshoreList tag body s
  | .channelOpen tag body => Sys2Proof.Machine.execChannelOpen tag body s
  | .channelLockout tag body => Sys2Proof.Machine.execChannelLockout tag body s
  | .channelStatus tag body => Sys2Proof.Machine.execChannelStatus tag body s
  | .faultRead tag body => Sys2Proof.Machine.execFaultRead tag body s
  | .alarmList tag body => Sys2Proof.Machine.execAlarmList tag body s
  | .alarmClear tag body => Sys2Proof.Machine.execAlarmClear tag body s
  | .alarmEnable tag body => Sys2Proof.Machine.execAlarmEnable tag body s
  | .laneOpen tag body => Sys2Proof.Machine.execLaneOpen tag body s
  | .laneClose tag body => Sys2Proof.Machine.execLaneClose tag body s
  | .laneStatus tag body => Sys2Proof.Machine.execLaneStatus tag body s
  | .deadlineSet tag body => Sys2Proof.Machine.execDeadlineSet tag body s
  | .deadlineClear tag body => Sys2Proof.Machine.execDeadlineClear tag body s
  | .deadlineGet tag body => Sys2Proof.Machine.execDeadlineGet tag body s
  | .folioPut tag body => Sys2Proof.Machine.execFolioPut tag body s
  | .folioGet tag body => Sys2Proof.Machine.execFolioGet tag body s
  | .folioDelete tag body => Sys2Proof.Machine.execFolioDelete tag body s
  | .chargeOpen tag body => Sys2Proof.Machine.execChargeOpen tag body s
  | .chargeCancel tag body => Sys2Proof.Machine.execChargeCancel tag body s
  | .authAnswer tag body => Sys2Proof.Machine.execAuthAnswer tag body s
  | .tillStatus tag body => Sys2Proof.Machine.execTillStatus tag body s
  | .journalFetch tag body => Sys2Proof.Machine.execJournalFetch tag body s
  | .journalRelease tag body => Sys2Proof.Machine.execJournalRelease tag body s
  | .chargeVoid tag body => Sys2Proof.Machine.execChargeVoid tag body s
  | .leaseGrant tag body => Sys2Proof.Machine.execLeaseGrant tag body s
  | .leaseEnd tag body => Sys2Proof.Machine.execLeaseEnd tag body s
  | .timeSet tag body => Sys2Proof.Machine.execTimeSet tag body s
  | .timeGet tag body => Sys2Proof.Machine.execTimeGet tag body s
  | .evacuateSet tag body => Sys2Proof.Machine.execEvacuateSet tag body s
  | .evacuateClear tag body => Sys2Proof.Machine.execEvacuateClear tag body s
  | .readerStatus tag body => Sys2Proof.Machine.execReaderStatus tag body s
  | .status tag body => Sys2Proof.Machine.execStatus tag body s
  | .linkStatus tag body => Sys2Proof.Machine.execLinkStatus tag body s
  | .setupReader tag body => Sys2Proof.Machine.execSetupReader tag body s
  | .setupChannel tag body => Sys2Proof.Machine.execSetupChannel tag body s
  | .setupLane tag body => Sys2Proof.Machine.execSetupLane tag body s
  | .setupTill tag body => Sys2Proof.Machine.execSetupTill tag body s
  | .setupTiming tag body => Sys2Proof.Machine.execSetupTiming tag body s
  | .setupPolicy tag body => Sys2Proof.Machine.execSetupPolicy tag body s
  | .setupReaderGet tag body => Sys2Proof.Machine.execSetupReaderGet tag body s
  | .setupChannelGet tag body => Sys2Proof.Machine.execSetupChannelGet tag body s
  | .setupLaneGet tag body => Sys2Proof.Machine.execSetupLaneGet tag body s
  | .setupTillGet tag body => Sys2Proof.Machine.execSetupTillGet tag body s
  | .setupTimingGet tag body => Sys2Proof.Machine.execSetupTimingGet tag body s
  | .setupPolicyGet tag body => Sys2Proof.Machine.execSetupPolicyGet tag body s
  | .setupSave tag body => Sys2Proof.Machine.execSetupSave tag body s
  | .maintenanceEnter tag body => Sys2Proof.Machine.execMaintenanceEnter tag body s
  | .maintenanceLeave tag body => Sys2Proof.Machine.execMaintenanceLeave tag body s
  | .restart tag body => Sys2Proof.Machine.execRestart tag body s
  | .unknownKind kind tag body => Sys2Proof.Machine.execUnknownKind kind tag body s
  | .hostOctetReceived octet => Sys2Proof.Machine.execHostOctetReceived octet s
  | .gapTimeout => Sys2Proof.Machine.execGapTimeout s
  | .hostReadyHigh => Sys2Proof.Machine.execHostReadyHigh s
  | .transmitFrameEnd => Sys2Proof.Machine.execTransmitFrameEnd s
  | .pollExchangeEnd reply => Sys2Proof.Machine.execPollExchangeEnd reply s
  | .probeExchangeEnd reply => Sys2Proof.Machine.execProbeExchangeEnd reply s
  | .assignExchangeEnd reply => Sys2Proof.Machine.execAssignExchangeEnd reply s
  | .readerReplyWindow => Sys2Proof.Machine.execReaderReplyWindow s
  | .queryHoldExpiry card => Sys2Proof.Machine.execQueryHoldExpiry card s
  | .repeatTimerExpiry reader => Sys2Proof.Machine.execRepeatTimerExpiry reader s
  | .boltWithdrawnSense c asserted => Sys2Proof.Machine.execBoltWithdrawnSense c asserted s
  | .boltHomeSense c asserted => Sys2Proof.Machine.execBoltHomeSense c asserted s
  | .holdTimerExpiry c => Sys2Proof.Machine.execHoldTimerExpiry c s
  | .relockDelayExpiry c => Sys2Proof.Machine.execRelockDelayExpiry c s
  | .doorHeldExpiry c => Sys2Proof.Machine.execDoorHeldExpiry c s
  | .contactQualified c high => Sys2Proof.Machine.execContactQualified c high s
  | .privacyQualified c high => Sys2Proof.Machine.execPrivacyQualified c high s
  | .passageEdge c => Sys2Proof.Machine.execPassageEdge c s
  | .passWindowExpiry lane => Sys2Proof.Machine.execPassWindowExpiry lane s
  | .driveTimeout c => Sys2Proof.Machine.execDriveTimeout c s
  | .overcurrentQualified c => Sys2Proof.Machine.execOvercurrentQualified c s
  | .positionLost c => Sys2Proof.Machine.execPositionLost c s
  | .railUndervoltage g => Sys2Proof.Machine.execRailUndervoltage g s
  | .railGood g => Sys2Proof.Machine.execRailGood g s
  | .armTimerExpiry till => Sys2Proof.Machine.execArmTimerExpiry till s
  | .answerTimerExpiry till => Sys2Proof.Machine.execAnswerTimerExpiry till s
  | .leaseExpiry => Sys2Proof.Machine.execLeaseExpiry s
  | .shipTimeAdvance => Sys2Proof.Machine.execShipTimeAdvance s
  | .minuteTick => Sys2Proof.Machine.execMinuteTick s
  | .deadlineExpired => Sys2Proof.Machine.execDeadlineExpired s
  | .evacuationLineAsserted => Sys2Proof.Machine.execEvacuationLineAsserted s
  | .evacuationLineCleared => Sys2Proof.Machine.execEvacuationLineCleared s
  | .setupSaveEnd readsBack => Sys2Proof.Machine.execSetupSaveEnd readsBack s
  | .powerUp damage => Sys2Proof.Machine.execPowerUp damage s
  | .resetInput damage retentionDamaged => Sys2Proof.Machine.execResetInput damage retentionDamaged s
  | .mainSupplyLoss damage retentionDamaged => Sys2Proof.Machine.execMainSupplyLoss damage retentionDamaged s
  | .retentionSupplyLoss => Sys2Proof.Machine.execRetentionSupplyLoss s
  | .startUpEnd lineLow => Sys2Proof.Machine.execStartUpEnd lineLow s

end Sys2Proof.Machine
end

