-- ==== Sys2Proof/Machine/Step.lean ====
section
/-! DEFINITION. One step: the command at the front of the queue, or, on an empty queue, what the part does of itself. -/

namespace Sys2Proof.Machine

/-- On an empty queue the part takes its oldest waiting request or an event that is due; with neither, one millisecond passes (log
entry 1). -/
def idle (s : State) : Host.Outcome State Fault Refusal :=
  match s.choose with
  | some i => exec i s.fresh
  | none => .next s.tick

/-- One step. -/
def step (s : State) : Host.Outcome State Fault Refusal :=
  match s.pending with
  | i :: rest => exec i { s with pending := rest }
  | [] => idle s

/-- The state with the command that a word spells put at the front of its queue; unchanged where the word spells none. -/
def State.withFetchWord (s : State) (nbits w : Nat) : State :=
  match decodeTableWord nbits w with
  | some i => { s with pending := i :: s.pending }
  | none => s

end Sys2Proof.Machine
end

