-- ==== Sys2Proof/Safety.lean ====
section
/-! DEFINITION. What the statements speak of: a step that goes on, a request at its turn, and the state after a reply. -/

namespace Sys2Proof.Machine

/-- The step goes on: it answers a next state. The spec gives the part no behaviour that stops it. -/
def Safe (s : State) : Prop := ∃ t, step s = .next t

/-- A request at its turn (R177): the part runs, and the request is the oldest WAITING entry or joins a queue that holds none. -/
def State.hasTurn (f : Frame) (s : State) : Prop :=
  s.phase = .running ∧
    (oldestWaiting s.link.queue = some f ∨
      (oldestWaiting s.link.queue = none ∧ s.link.queue.length < Config.requestPlaces))

/-- The state after a request whose block leaves `u` and replies `r` (R176, R177): the reply is built, and the transmitter begins
it when it is free. -/
def State.answered (f : Frame) (r : Reply) (u : State) : State := { u with link := u.link.answer f r }.close

/-! ## The laws the spec names -/

/-- The law of the card table (R5) over canonical tables: positions rise, every entry lies in the bucket of its card number, and a
card number has at most one entry; the folio table names slots 0 to 4,095. -/
def State.tablesLaw (s : State) : Prop :=
  Rising s.cards ∧ Rising s.folios ∧ (∀ x ∈ s.cards, x.1 / Config.ways = bucket x.2.card) ∧
    (∀ x ∈ s.cards, ∀ y ∈ s.cards, x.2.card = y.2.card → x.1 = y.1) ∧ (∀ x ∈ s.folios, x.1 < Config.folioSlots)

/-- The law of the tally (R20): each count is the number of entries of its category with its presence. -/
def State.tallyLaw (s : State) : Prop := s.tally = recountTally s.cards

/-- The laws of folio references (R9, R112) and of offline spend (R115). -/
def State.folioLaw (s : State) : Prop :=
  (∀ x ∈ s.folios, x.2.refs = refsTo s.cards x.1 ∧ x.2.spent ≤ x.2.allowance) ∧
    ∀ x ∈ s.cards, ∀ slot, x.2.folio = some slot → (tget s.folios slot).isSome

/-- The laws of the journal's sequences (R133) and capacity (R134): the entries carry a run of sequences that ends at the newest. -/
def Journal.law (j : Journal) : Prop :=
  j.entries.length ≤ Config.journalPlaces ∧ 1 ≤ j.next ∧ j.next ≤ Config.lastSequence ∧
    (j.exhausted = true → j.next = Config.lastSequence) ∧
    ∀ k : Fin j.entries.length,
      (j.entries.get k).seq + (j.entries.length - k.val) = j.next + (if j.exhausted then 1 else 0)

/-- The alarm list holds at most 64 records, no two with the same kind and source, and its overflow flag is clear with fewer than
64 (R81, R84). -/
def AlarmList.law (al : AlarmList) : Prop :=
  al.records.length ≤ Config.alarmPlaces ∧ (al.records.map AlarmRecord.alarm).Nodup ∧
    (al.overflow = true → al.records.length = Config.alarmPlaces)

/-- The capacities of the host link (R177, R178, R180). -/
def Link.law (k : Link) : Prop :=
  k.queue.length ≤ Config.requestPlaces ∧ k.busy.length ≤ Config.busyPlaces ∧ k.notices.length ≤ Config.noticePlaces

/-- The law of STANDALONE (R146): no pending entry and no till AUTHORISING. -/
def State.standaloneLaw (s : State) : Prop :=
  s.authority = .standalone → pendingEntries s.cards = [] ∧ ∀ t, (s.tills.get t).state.isAuthorising = false

/-- The law of engagements (R15): a pending movement and a referral each engage the known entry of their card, and an entry is engaged
by nothing else. -/
def State.engagementLaw (s : State) : Prop :=
  (∀ l m, (s.zone.lanes.get l).state.movement = some m → ∃ k, s.known m.card = some k ∧ k.engaged = some (.movement l)) ∧
  (∀ t c p left, (s.tills.get t).state = .authorising c p left →
    ∃ k, s.known p.card = some k ∧ k.engaged = some (.charge t)) ∧
  ∀ card k, s.known card = some k →
    (∀ l, k.engaged = some (.movement l) → ∃ m, (s.zone.lanes.get l).state.movement = some m ∧ m.card = card) ∧
    (∀ t, k.engaged = some (.charge t) → ∃ c p left, (s.tills.get t).state = .authorising c p left ∧ p.card = card)

/-- A channel waits for a slot in UNLOCK_WAIT and LOCK_WAIT (R62). -/
def ChanState.waits : ChanState → Bool
  | .unlockWait _ => true
  | .lockWait => true
  | _ => false

/-- The arbiters are in order (R62, R63): a queue holds waiting channels of its own group, each once, and a channel that drives
holds a slot of its group. -/
def Zone.orderly (z : Zone) : Prop :=
  (∀ g, (z.groups.get g).queue.Nodup) ∧
    (∀ g, ∀ c ∈ (z.groups.get g).queue, groupOf c = g ∧ (z.channels.get c).state.waits = true) ∧
    ∀ c, (z.channels.get c).state.drives = true →
      (z.groups.get (groupOf c)).slot0 = some c ∨ (z.groups.get (groupOf c)).slot1 = some c

/-- What an operation of one channel may change: that channel, the channels that wait in its group for a slot, the arbiter of its
group, and the lanes that name one of these channels. -/
def Zone.changesAround (cfg : Setup) (c : Chan) (z z' : Zone) : Prop :=
  let near := c :: (z.groups.get (groupOf c)).queue
  (∀ d, d ∉ near → z'.channels.get d = z.channels.get d) ∧
    (∀ g, g ≠ groupOf c → z'.groups.get g = z.groups.get g) ∧
    ∀ l, (∀ d ∈ near, z.laneOf cfg d ≠ some l) → z'.lanes.get l = z.lanes.get l

/-- The state of a channel that relocks with an expired hold, in a group inhibited or not (R53, R54, R79): WAIT_CLOSE at an open CABIN
door; else RELOCK_DELAY; and with a relock delay of 0 s INHIBITED toward the closed end, or LOCK_WAIT, or what its drive has come to. -/
def Zone.relocking (cfg : Setup) (c : Chan) (z : Zone) (inhibited : Bool) (st : ChanState) : Prop :=
  let shut := cfg.kind c = .gate ∨ z.doorOpen cfg c = false
  (cfg.kind c = .cabin → z.doorOpen cfg c = true → st = .openHold .waitClose) ∧
    (shut → cfg.timing.relockDelay ≠ 0 → st = .openHold (.relockDelay (cfg.timing.relockDelay * 1000))) ∧
    (shut → cfg.timing.relockDelay = 0 →
      if inhibited then st = .inhibited .closedEnd
      else st = .lockWait ∨ st = if (z.channels.get c).home then .locked else .locking)

/-- How a recovery of its group takes a channel from `z` to `z'` (R80): one that is neither INHIBITED nor waiting stays, and one that
is INHIBITED resumes toward its target end by its bolt senses. A gate that takes back a fresh hold reports to its lane (R53, R93). -/
def Zone.resumes (cfg : Setup) (c : Chan) (z z' : Zone) : Prop :=
  let ch := z.channels.get c
  let st' := (z'.channels.get c).state
  (ch.state.waits = false → (∀ t, ch.state ≠ .inhibited t) → z'.channels.get c = ch) ∧
    (ch.state = .inhibited .noEnd → st' = .fault) ∧
    (ch.state = .inhibited .closedEnd → ch.home = true → st' = .locked) ∧
    (ch.state = .inhibited .closedEnd → ch.home = false → st' = .lockWait ∨ st' = .locking) ∧
    ∀ a, ch.state = .inhibited (.openEnd a) →
      (ch.withdrawn = false → st' = .unlockWait a ∨ st' = .unlocking a) ∧
      (ch.withdrawn = true → ch.release = true → st' = .released) ∧
      (ch.withdrawn = true → ch.release = false →
        (a = .expired → z.relocking cfg c false st') ∧
        (a = .fresh → cfg.kind c = .cabin → st' = .openHold (.holding (cfg.timing.holdTime * 1000))) ∧
        (a = .fresh → cfg.kind c = .gate →
          (z.laneOf cfg c = none → st' = .openHold .laneHeld) ∧
          ∀ l, z.laneOf cfg c = some l →
            let lane := (z.lanes.get l).state
            let lane' := (z'.lanes.get l).state
            let window := some (cfg.timing.passWindow * 1000)
            (∀ m, lane = .released m → st' = .openHold .laneHeld ∧ lane' = .released { m with window := window }) ∧
            (∀ m, lane = .closing m → st' = .openHold .laneHeld ∧ lane' = .closing { m with window := window }) ∧
            (∀ r, lane = .heldOpen r → st' = .openHold .laneHeld) ∧
            (lane = .ready ∨ lane = .closed → z.relocking cfg c false st')))

/-- The arbiters are in order, a channel of kind NONE is OFF (R47), and every channel is OFF until the sweep of start-up (R67). -/
def State.slotLaw (s : State) : Prop :=
  s.zone.orderly ∧ (∀ c, s.setup.kind c = .none → (s.zone.channels.get c).state = .off) ∧
    (s.phase ≠ .running → ∀ c, (s.zone.channels.get c).state = .off)

/-- The states a released zone knows: every channel goes toward RELEASED, or has none to go to. -/
def ChanState.releasing : ChanState → Bool
  | .off => true
  | .unlockWait _ => true
  | .unlocking _ => true
  | .released => true
  | .fault => true
  | .inhibited .closedEnd => false
  | .inhibited _ => true
  | _ => false

/-- The law of evacuation (R155), with what keeps it: while evacuation is in effect every channel in use holds its release marker
and goes toward RELEASED, every till is IDLE and the mode is NORMAL; start-up finds every till IDLE and no evacuation. -/
def State.evacLaw (s : State) : Prop :=
  (s.evac.state = .evacuation → s.mode = .normal ∧ (∀ t, (s.tills.get t).state = .idle) ∧
    ∀ c, (s.zone.channels.get c).state.releasing = true ∧
      (s.setup.inUse c = true → (s.zone.channels.get c).release = true)) ∧
  (s.phase ≠ .running → s.evac.state = .normal ∧ ∀ t, (s.tills.get t).state = .idle)

end Sys2Proof.Machine
end

