-- ==== Sys2Proof/Certificates/Slice0/Obligations.lean ====
section
/-! DEFINITION. The statements for the provers. A request is stated at its turn (`State.hasTurn`), from the state in which its frame
has arrived (`s.arrive f`, which changes the host link alone), as the state its block leaves and the reply it builds
(`State.answered`). -/

open Sys2Proof Sys2Proof.Machine

/-! ## The step -/

/-- A step with a command at the front of the queue is `exec` of that command on the state with the rest (log entry 1). -/
def Obligations.StepRunsTheFrontCommand : Prop :=
  ∀ (c : Instr) (rest : List Instr) (s : Machine.State),
    step { s with pending := c :: rest } = exec c { s with pending := rest }

/-- On an empty queue a step is what the part does of itself (log entries 1 and 2): one of the events that may be taken, or one
millisecond. -/
def Obligations.EmptyQueueTakesAnEventOrAMillisecond : Prop :=
  ∀ s : Machine.State, s.pending = [] →
    (s.choices = [] → step s = .next s.tick) ∧
    (s.choices ≠ [] → ∃ i ∈ s.choices, step s = exec i s.fresh)

/-- No command and no event stops the part. -/
def Obligations.EveryStepGoesOn : Prop := ∀ s : Machine.State, Safe s

/-- One millisecond: the next sample of the inputs is taken, every timer that runs goes down by one, and the qualifiers read the
sample: the debounce of contacts and privacy latches, the over-current qualifier in its two modes, the rail counts, and the line's
count, in start-up too (R49, R69, R77, R152). Nothing else of the part changes. That a millisecond is what the part does on an
empty queue (log entry 1), that inputs with no sample given hold their levels (log entry 6), and the samples at which a debounce
starts and an over-current time ends (log entry 31) are the model's choice; that a masked over-current restarts its qualifier at
each sample is deduced (log entry 28). -/
def Obligations.AMillisecondOfThePart : Prop :=
  ∀ s : Machine.State,
    let p := s.samples.headD s.pins
    let cfg := s.setup
    let t := s.tick
    let down := fun (x : Option Nat) => x.map (· - 1)
    t.pins = p ∧ t.samples = s.samples.tail ∧
    (∀ c : Chan,
      let ch := s.zone.channels.get c
      let x := cfg.channels.get c
      let bounce := fun (differs : Prop) [Decidable differs] (q : Option Nat) =>
        if ch.state ≠ .off ∧ differs then some (match q with
          | none => cfg.timing.debounce
          | some n => n - 1)
        else none
      t.zone.channels.get c = { ch with
        state := match ch.state with
          | .openHold (.holding n) => .openHold (.holding (n - 1))
          | .openHold (.relockDelay n) => .openHold (.relockDelay (n - 1))
          | st => st
        doorHeld := down ch.doorHeld
        driveLeft := down ch.driveLeft
        contactQual := bounce ((p.contact.get c == x.contactHigh) ≠ ch.contact) ch.contactQual
        privacyQual := bounce (x.kind = .cabin ∧ (p.privacy.get c == x.privacyHigh) ≠ ch.privacy) ch.privacyQual
        oc := ch.oc.map fun q =>
          let high := p.overcurrent.get c = true ∧ cfg.policy.mask.overcurrent = false
          match q.mode with
          | .debounce => if high then { q with left := q.left - 1, qualified := decide (q.left ≤ 1) }
            else { q with left := q.time, qualified := false }
          | .blanking => { q with left := q.left - 1, qualified := decide (high ∧ q.left = 0) } }) ∧
    (∀ g : Grp,
      let x := s.zone.groups.get g
      t.zone.groups.get g = { x with
        railCount := if cfg.policy.railMask = true ∨ (p.railGood.get g = true ↔ x.rail = .good) then 0 else x.railCount + 1 }) ∧
    (∀ l : LaneNo,
      let x := s.zone.lanes.get l
      t.zone.lanes.get l = { x with
        state := match x.state with
          | .released m => .released { m with window := down m.window }
          | .closing m => .closing { m with window := down m.window }
          | st => st }) ∧
    (∀ i : TillNo,
      let x := s.tills.get i
      t.tills.get i = { x with
        state := match x.state with
          | .idle => .idle
          | .armed c n => .armed c (n - 1)
          | .authorising c q n => .authorising c q (n - 1) }) ∧
    (∀ r : ReaderNo,
      let rd := s.readers.get r
      t.readers.get r = { rd with memory := rd.memory.map fun m => { m with left := m.left - 1 } }) ∧
    t.cards = s.cards.map (fun e => (e.1, { e.2 with
      body := match e.2.body with
        | .known k => .known k
        | .pending h => .pending { h with left := h.left - 1 } })) ∧
    t.authority = (match s.authority with
      | .online n => .online (n - 1)
      | .standalone => .standalone) ∧
    t.evac = { s.evac with lineCount := if p.lineLow = s.evac.line then 0 else s.evac.lineCount + 1 } ∧
    t.phase = (match s.phase with
      | .running => .running
      | .starting info n lows => .starting info (n + 1) (if p.lineLow then lows + 1 else lows)) ∧
    t = { s with
      pins := p, samples := s.samples.tail, zone := t.zone, tills := t.tills, readers := t.readers, cards := t.cards
      authority := t.authority, evac := t.evac, phase := t.phase
      clock := { s.clock with secondMs := s.clock.secondMs + 1, minuteMs := s.clock.minuteMs + 1 }
      bus := { s.bus with exchange := s.bus.exchange.map fun x => { x with left := x.left - 1 } }
      save := s.save.map fun v => { v with left := v.left - 1 }
      link := { s.link with
        framer := match s.link.framer with
          | .hunting => .hunting
          | .inFrame got n => .inFrame got (n - 1)
        tx := s.link.tx.map fun x => { x with left := x.left - 1 }
        hostReady := s.link.hostReady && p.hostReady } }

/-- The events that the part may take of itself, each due exactly when its timer has run out or its input has qualified: a sense
that differs from the sense as taken, POSITION_LOST where the position watch runs (R49, R70); the channel timers (R53, R54, R57,
R68); a qualified contact, which on a gate is its passage edge (R60), and a qualified latch; an over-current that has qualified
(R69); five low samples of a rail or a hundred good ones (R77); the pass window, the till timers, the query hold and the repeat
window; the second, the minute and the lease; the gap, host-ready, the end of a frame and the reply window; 50 samples of the line
(R152), the end of start-up (R198) and of a save. Which request has its turn is R177. That the part acts so on an empty queue is
the model's choice (log entries 1 and 2), and so are the moments of log entries 16, 17 and 31; that a masked over-current is not
due is log entry 28. -/
def Obligations.TheEventsThatAreDue : Prop :=
  ∀ s : Machine.State,
    let p := s.pins
    s.choices = s.turn ++ s.due ∧
    (s.turn = if s.phase = .running then
        (oldestWaiting s.link.queue).elim [] (fun f => [f.command]) else []) ∧
    (∀ f : Frame, f.command ∉ s.due) ∧
    (∀ (c : Chan) (v : Bool),
      let ch := s.zone.channels.get c
      let on := ch.state ≠ .off
      let rests := ch.state = .locked ∧ ch.home = true
      let stands := ch.state.isOpenHold = true ∧ ch.withdrawn = true
      let edge := s.setup.kind c = .gate ∧ ch.contact = false
      (.boltHomeSense c v ∈ s.due ↔ on ∧ ¬rests ∧ p.home.get c = v ∧ ch.home = !v) ∧
      (.boltWithdrawnSense c v ∈ s.due ↔ on ∧ ¬stands ∧ p.withdrawn.get c = v ∧ ch.withdrawn = !v) ∧
      (.positionLost c ∈ s.due ↔ rests ∧ p.home.get c = false ∨ stands ∧ p.withdrawn.get c = false) ∧
      (.holdTimerExpiry c ∈ s.due ↔ ch.state = .openHold (.holding 0)) ∧
      (.relockDelayExpiry c ∈ s.due ↔ ch.state = .openHold (.relockDelay 0)) ∧
      (.doorHeldExpiry c ∈ s.due ↔ on ∧ ch.doorHeld = some 0) ∧
      (.driveTimeout c ∈ s.due ↔ on ∧ ch.driveLeft = some 0) ∧
      (.passageEdge c ∈ s.due ↔ on ∧ ch.contactQual = some 0 ∧ edge) ∧
      (.contactQualified c v ∈ s.due ↔ on ∧ ch.contactQual = some 0 ∧ ¬edge ∧ p.contact.get c = v) ∧
      (.privacyQualified c v ∈ s.due ↔ on ∧ ch.privacyQual = some 0 ∧ p.privacy.get c = v) ∧
      (.overcurrentQualified c ∈ s.due ↔
        on ∧ s.setup.policy.mask.overcurrent = false ∧ ∃ q, ch.oc = some q ∧ q.qualified = true)) ∧
    (∀ g : Grp,
      let x := s.zone.groups.get g
      (.railUndervoltage g ∈ s.due ↔ x.rail = .good ∧ 5 ≤ x.railCount) ∧
      (.railGood g ∈ s.due ↔ x.rail = .undervoltage ∧ 100 ≤ x.railCount)) ∧
    (∀ l : LaneNo,
      .passWindowExpiry l ∈ s.due ↔
        ∃ m : Movement, ((s.zone.lanes.get l).state = .released m ∨ (s.zone.lanes.get l).state = .closing m) ∧
          m.window = some 0) ∧
    (∀ t : TillNo,
      (.armTimerExpiry t ∈ s.due ↔ ∃ c, (s.tills.get t).state = .armed c 0) ∧
      (.answerTimerExpiry t ∈ s.due ↔ ∃ c q, (s.tills.get t).state = .authorising c q 0)) ∧
    (∀ card, .queryHoldExpiry card ∈ s.due ↔ ∃ i r arrival, (i, ⟨card, .pending ⟨r, arrival, 0⟩⟩) ∈ s.cards) ∧
    (∀ r, .repeatTimerExpiry r ∈ s.due ↔ ∃ card, (s.readers.get r).memory = some ⟨card, 0⟩) ∧
    (.shipTimeAdvance ∈ s.due ↔ 1000 ≤ s.clock.secondMs) ∧ (.minuteTick ∈ s.due ↔ 60000 ≤ s.clock.minuteMs) ∧
    (.leaseExpiry ∈ s.due ↔ s.authority = .online 0) ∧
    (.gapTimeout ∈ s.due ↔ ∃ got, s.link.framer = .inFrame got 0) ∧
    (.hostReadyHigh ∈ s.due ↔ p.hostReady = true ∧ s.link.hostReady = false) ∧
    (.transmitFrameEnd ∈ s.due ↔ ∃ f, s.link.tx = some ⟨f, 0⟩) ∧
    (.readerReplyWindow ∈ s.due ↔ ∃ r sent, s.bus.exchange = some ⟨r, sent, 0⟩) ∧
    (.evacuationLineAsserted ∈ s.due ↔ s.phase = .running ∧ s.evac.line = false ∧ 50 ≤ s.evac.lineCount) ∧
    (.evacuationLineCleared ∈ s.due ↔ s.phase = .running ∧ s.evac.line = true ∧ 50 ≤ s.evac.lineCount) ∧
    (∀ v : Bool,
      (.startUpEnd v ∈ s.due ↔ ∃ info n lows, s.phase = .starting info n lows ∧ 50 ≤ n ∧ v = decide (lows = n)) ∧
      (.setupSaveEnd v ∈ s.due ↔ (∃ copy, s.save = some ⟨copy, 0⟩) ∧ v = Config.saveReadsBack s.free))

/-- A frame whose turn has not come, as every frame in start-up, is queued, refused BUSY or discarded; nothing else of the part
changes but what the transmitter does. A request at its turn whose kind is not in use is refused UNKNOWN_KIND, and one in use with
tag 0 or with a body of another size than its kind permits is refused MALFORMED; neither changes anything but the host link (R176
to R178, R191). That a command which spells the oldest WAITING request of a running part is that request's turn and hands up no
second frame, and that a request is carried out in the step in which it arrives, are the model's choice (log entry 4), and so are
the sizes of the bodies that no table lays out (log entries 8 and 9). -/
def Obligations.FramesAreQueuedThenChecked : Prop :=
  let sizes : List (List Nat) :=
    [[23, 26, 29, 32], [7], [7], [8], [7], [8], [0], [4]] ++ [[2], [2], [1], [2], [1], [10], [2]] ++
    [[1], [1], [2], [3], [0], [0]] ++ [[16], [2], [2], [9], [1], [6], [1], [5], [4], [4]] ++
    [[2], [0], [4], [0], [0], [0], [1], [0], [0]] ++ [[3], [7], [4], [3], [19], [15]] ++ [[1], [1], [1], [1], [0], [0]] ++
    [[0], [0], [0], [0]]
  ∀ (f : Frame) (s : Machine.State),
    (¬s.hasTurn f →
      exec f.command s = .next (s.arrive f).close ∧
      (s.link.queue.length < 4 → s.arrive f = { s with link := { s.link with queue := s.link.queue ++ [.waiting f] } }) ∧
      (4 ≤ s.link.queue.length → s.link.busy.length < 8 →
        s.arrive f =
          { s with link :=
            { s.link with
              busy := s.link.busy ++ [⟨⟨replyKind f.kind, f.tag, [0x03]⟩, s.link.built⟩]
              built := s.link.built + 1
              busyRefusals := satInc s.link.busyRefusals } }) ∧
      (4 ≤ s.link.queue.length → 8 ≤ s.link.busy.length →
        s.arrive f = { s with link := { s.link with overruns := satInc s.link.overruns } })) ∧
    (s.hasTurn f →
      (oldestWaiting s.link.queue = some f → s.arrive f = s) ∧
      (oldestWaiting s.link.queue ≠ some f →
        s.arrive f = { s with link := { s.link with queue := s.link.queue ++ [.waiting f] } }) ∧
      (requestKindInUse f.kind = false →
        f.command = .unknownKind f.kind f.tag f.body ∧
        exec (.unknownKind f.kind f.tag f.body) s = .next ((s.arrive f).answered f ⟨.unknownKind, []⟩)) ∧
      (requestKindInUse f.kind = true → f.tag = 0 →
        exec f.command s = .next ((s.arrive f).answered f ⟨.malformed, []⟩)) ∧
      (∀ ns, requestKindInUse f.kind = true → sizes[f.kind.toNat - 1]? = some ns → f.body.length ∉ ns →
        exec f.command s = .next ((s.arrive f).answered f ⟨.malformed, []⟩)))

/-! ## Laws that every step keeps -/

/-- Every step keeps the canonical order of the card and folio tables, the bucket of every card, and one entry for a card number
(R5). -/
def Obligations.EveryStepKeepsTheTablesLaw : Prop :=
  ∀ s t : Machine.State, s.tablesLaw → step s = .next t → t.tablesLaw

/-- Every step keeps the law of the tally (R20). -/
def Obligations.EveryStepKeepsTheTallyLaw : Prop :=
  ∀ s t : Machine.State, s.tablesLaw ∧ s.tallyLaw → step s = .next t → t.tallyLaw

/-- Every step keeps the folio references counted from the card entries and no spent above its allowance (R9, R112, R115). -/
def Obligations.EveryStepKeepsTheFolioLaw : Prop :=
  ∀ s t : Machine.State, s.tablesLaw ∧ s.folioLaw → step s = .next t → t.folioLaw

/-- Every step keeps the law of engagements: a card entry is engaged MOVEMENT(lane) exactly while that lane holds a pending movement
for the card, and CHARGE(till) exactly while that till is AUTHORISING for the card (R15). QUERY is the pending entry itself, which
holds its presentation. -/
def Obligations.EveryStepKeepsTheEngagementLaw : Prop :=
  ∀ s t : Machine.State, s.tablesLaw ∧ s.engagementLaw → step s = .next t → t.engagementLaw

/-- Every step keeps the run of sequences and the places of the journal, the alarm list's 64 distinct records with its overflow
flag, and the places of the host link's queues (R81, R84, R133, R134, R177, R178, R180). -/
def Obligations.EveryStepKeepsTheCapacities : Prop :=
  ∀ s t : Machine.State, step s = .next t →
    (s.journal.law → t.journal.law) ∧ (s.alarms.law → t.alarms.law) ∧ (s.link.law → t.link.law)

/-- Every step keeps the law of STANDALONE: no pending entry and no till AUTHORISING (R14, R146). -/
def Obligations.EveryStepKeepsTheStandaloneLaw : Prop :=
  ∀ s t : Machine.State, s.tablesLaw ∧ s.standaloneLaw → step s = .next t → t.standaloneLaw

/-- Every step keeps the arbiters in order: a queue holds waiting channels of its group, each once, and a channel that drives
holds a slot; a channel of kind NONE is OFF (R47, R62, R63). Arbiters in order let at most two channels of a group drive (R62).
That every channel is OFF until the sweep of start-up, which the law holds too, is the model's choice (log entry 7). -/
def Obligations.EveryStepKeepsTheDriveSlotLaw : Prop :=
  (∀ s t : Machine.State, s.slotLaw → step s = .next t → t.slotLaw) ∧
  (∀ (z : Zone) (g : Grp), z.orderly → (members g).countP (fun c => (z.channels.get c).state.drives) ≤ 2)

/-- Every step keeps the law of evacuation: while it is in effect every channel in use holds its release marker and goes toward
RELEASED, every till is IDLE and the mode is NORMAL (R129, R155, R156). What the law says of the time before start-up has settled
the part (no evacuation, every till IDLE, every channel OFF) is the model's choice (log entries 5 and 7). -/
def Obligations.EveryStepKeepsTheEvacuationLaw : Prop :=
  ∀ s t : Machine.State, s.slotLaw ∧ s.evacLaw → step s = .next t → t.evacLaw

/-- The laws hold at reset. The values of `State.reset` that the spec leaves open are the model's choice (log entries 5 to 7); that
the retained collections are empty at a cold start is R197. -/
def Obligations.TheLawsHoldAtReset : Prop :=
  State.reset.tablesLaw ∧ State.reset.tallyLaw ∧ State.reset.folioLaw ∧ State.reset.journal.law ∧ State.reset.alarms.law ∧
    State.reset.link.law ∧ State.reset.standaloneLaw ∧ State.reset.slotLaw ∧ State.reset.evacLaw ∧
    State.reset.engagementLaw

/-! ## Encodings -/

/-- The octets of a frame, taken one by one by a hunting framer, hand up exactly that frame (R174, R184). -/
def Obligations.TheOctetsOfAFrameHandItUp : Prop :=
  ∀ (f : Frame) (s : Machine.State), f.body.length ≤ 240 → s.link.framer = .hunting → s.pending = [] → s.close = s →
    Host.Core.run Sys2Proof.core f.octets.length { s with pending := f.octets.map .hostOctetReceived } =
      .next { s with link := s.link.handUp f }.close

/-- The part's four frames of the reader bus are spelled with their kind, length, body and check; every frame of a reader, spelled
so, is heard as that frame when it answers the frame sent, nothing else is heard as valid, and octets that are not valid are
corrupt (R161, R190). That the card number of a PRESENT goes most significant octet first is the model's choice (log entry 32). -/
def Obligations.FramesOfTheReaderBus : Prop :=
  ∀ x : Exchange,
    let addr : Octet := BitVec.ofNat 8 (x.reader.val + 1)
    let spelled := fun (kind : Octet) (body : List Octet) =>
      addr :: kind :: BitVec.ofNat 8 body.length :: (body ++ [crc8 (addr :: kind :: BitVec.ofNat 8 body.length :: body)])
    (x.sent = .poll → x.octets = spelled 0x01 []) ∧
    (∀ p : Pattern, x.sent = .indicate p →
      x.octets = spelled 0x02 [match p with
        | .green => 0x01
        | .red => 0x02
        | .amber => 0x03]) ∧
    (x.sent = .probe → x.octets = spelled 0x03 []) ∧
    (∀ c : Chan, x.sent = .assign (.door c) → x.octets = spelled 0x04 [0x01, BitVec.ofNat 8 c.val]) ∧
    (∀ t : TillNo, x.sent = .assign (.counter t) → x.octets = spelled 0x04 [0x02, BitVec.ofNat 8 t.val]) ∧
    (∀ l : LaneNo, x.sent = .assign (.laneOut l) → x.octets = spelled 0x04 [0x03, BitVec.ofNat 8 l.val]) ∧
    (∀ l : LaneNo, x.sent = .assign (.laneIn l) → x.octets = spelled 0x04 [0x04, BitVec.ofNat 8 l.val]) ∧
    (∀ (kind : Octet) (body : List Octet) (fr : ReaderFrame),
      body.length ≤ 255 → readerFrameOf kind.toNat body = some fr → x.sent.answeredBy fr = true →
        x.hear (spelled kind body) = .valid fr) ∧
    (∀ (os : List Octet) (fr : ReaderFrame), x.hear os = .valid fr →
      ∃ kind body, os = spelled kind body ∧ readerFrameOf kind.toNat body = some fr ∧ x.sent.answeredBy fr = true) ∧
    (∀ os : List Octet, (x.hear os = .nothing ↔ os = []) ∧
      (os ≠ [] → (∀ fr, x.hear os ≠ .valid fr) → x.hear os = .corrupt))

/-- A setup record read back from what its GET returns is the record (R47, R88, R116, R162, R183, R192). -/
def Obligations.SetupRecordsReadBack : Prop :=
  (∀ t : Timing, t.inRange = true → setupTimingOf t.octets = some t) ∧
  (∀ p : Policy, setupPolicyOf p.octets = some p) ∧
  (∀ (cfg : Setup) (r : ReaderNo), setupReaderOf (cfg.readerOctets r) = some (r, cfg.readers.get r)) ∧
  (∀ (cfg : Setup) (c : Chan), (cfg.channels.get c).door ≤ 4095 →
    setupChannelOf (cfg.channelOctets c) = some (c, cfg.channels.get c)) ∧
  (∀ (cfg : Setup) (l : LaneNo), setupLaneOf (cfg.laneOctets l) = some (l, cfg.lanes.get l)) ∧
  (∀ (cfg : Setup) (t : TillNo), setupTillOf (cfg.tillOctets t) = some (t, cfg.tills.get t))

/-- A SPAN grant of base `b` (a multiple of 2^p) and size 2^p is coded 2b + 2^p and covers the doors b to b + 2^p − 1; a DOOR
grant covers its door; no other code is valid (R3, R185). -/
def Obligations.AGrantCoversItsDoors : Prop :=
  (∀ p k d : Nat, p ≤ 12 → (k + 1) * 2 ^ p ≤ 4096 →
    spanValid (2 * (k * 2 ^ p) + 2 ^ p) = true ∧
    ((Grant.span (2 * (k * 2 ^ p) + 2 ^ p)).covers d = true ↔ k * 2 ^ p ≤ d ∧ d < (k + 1) * 2 ^ p)) ∧
  (∀ n d : Nat, (Grant.door n).covers d = true ↔ d = n) ∧
  (∀ code : Nat, spanValid code = true ↔
    ∃ p k, p ≤ 12 ∧ (k + 1) * 2 ^ p ≤ 4096 ∧ code = 2 * (k * 2 ^ p) + 2 ^ p)

/-! ## Requests that read -/

/-- TALLY GET, STATUS, TIME GET and DEADLINE GET reply what stands, and each of the six setup GET requests returns its record of the
working setup, or refuses a number that names none RANGE; they change nothing (R20, R109, R149, R181, R192). The octet of a flag
(log entry 8), the lease left of 0 in STANDALONE, the one octet of the pending entries and the number at the head of a record (log
entry 9), and the rounding of the seconds to the tick (log entry 26) are the model's choice. -/
def Obligations.ReadsReplyAndChangeNothing : Prop :=
  ∀ (tag : Octet) (s : Machine.State), tag ≠ 0 →
    (s.hasTurn ⟨0x07, tag, []⟩ →
      exec (.tallyGet tag []) s = .next ((s.arrive ⟨0x07, tag, []⟩).answered ⟨0x07, tag, []⟩
        ⟨.ok, be 2 s.tally.guestAboard ++ be 2 s.tally.guestAshore ++ be 2 s.tally.crewAboard ++ be 2 s.tally.crewAshore ++
          be 2 s.tally.callerAboard ++ be 2 s.tally.callerAshore ++ be 2 s.cards.length ++
          be 1 (pendingEntries s.cards).length⟩)) ∧
    (s.hasTurn ⟨0x27, tag, []⟩ →
      exec (.status tag []) s = .next ((s.arrive ⟨0x27, tag, []⟩).answered ⟨0x27, tag, []⟩
        ⟨.ok, be 2 0x4832 ++ be 1 0x01 ++ be 1 s.mode.code ++ be 1 s.evac.state.code ++
          be 1 (if s.authority.isOnline then 0 else 1) ++ be 4 s.authority.left ++ be 1 (if s.clock.valid then 1 else 0) ++
          be 1 (if s.save.isSome then 1 else 0) ++ be 2 s.cards.length ++ be 1 (pendingEntries s.cards).length ++
          be 2 s.journal.entries.length ++ be 1 (if s.journal.exhausted then 1 else 0) ++ be 1 s.alarms.records.length ++
          be 1 (if s.alarms.overflow then 1 else 0)⟩)) ∧
    (s.hasTurn ⟨0x23, tag, []⟩ →
      exec (.timeGet tag []) s = .next ((s.arrive ⟨0x23, tag, []⟩).answered ⟨0x23, tag, []⟩
        ⟨.ok, be 4 s.clock.time.toNat ++ be 1 (if s.clock.valid then 1 else 0) ++ be 1 s.clock.toTick⟩)) ∧
    (s.hasTurn ⟨0x15, tag, []⟩ →
      exec (.deadlineGet tag []) s = .next ((s.arrive ⟨0x15, tag, []⟩).answered ⟨0x15, tag, []⟩
        ⟨.ok, be 1 s.deadline.code ++ be 2 s.deadline.remaining ++ be 1 s.deadline.lead ++ be 2 s.tally.guestAshore ++
          be 2 s.tally.crewAshore ++ be 2 s.tally.callerAshore⟩)) ∧
    (∀ r : ReaderNo, s.hasTurn ⟨0x2F, tag, be 1 (r.val + 1)⟩ →
      exec (.setupReaderGet tag (be 1 (r.val + 1))) s =
        .next ((s.arrive ⟨0x2F, tag, be 1 (r.val + 1)⟩).answered ⟨0x2F, tag, be 1 (r.val + 1)⟩
          ⟨.ok, s.setup.readerOctets r⟩)) ∧
    (∀ c : Chan, s.hasTurn ⟨0x30, tag, be 1 c.val⟩ →
      exec (.setupChannelGet tag (be 1 c.val)) s =
        .next ((s.arrive ⟨0x30, tag, be 1 c.val⟩).answered ⟨0x30, tag, be 1 c.val⟩ ⟨.ok, s.setup.channelOctets c⟩)) ∧
    (∀ l : LaneNo, s.hasTurn ⟨0x31, tag, be 1 l.val⟩ →
      exec (.setupLaneGet tag (be 1 l.val)) s =
        .next ((s.arrive ⟨0x31, tag, be 1 l.val⟩).answered ⟨0x31, tag, be 1 l.val⟩ ⟨.ok, s.setup.laneOctets l⟩)) ∧
    (∀ t : TillNo, s.hasTurn ⟨0x32, tag, be 1 t.val⟩ →
      exec (.setupTillGet tag (be 1 t.val)) s =
        .next ((s.arrive ⟨0x32, tag, be 1 t.val⟩).answered ⟨0x32, tag, be 1 t.val⟩ ⟨.ok, s.setup.tillOctets t⟩)) ∧
    (s.hasTurn ⟨0x33, tag, []⟩ →
      exec (.setupTimingGet tag []) s =
        .next ((s.arrive ⟨0x33, tag, []⟩).answered ⟨0x33, tag, []⟩ ⟨.ok, s.setup.timing.octets⟩)) ∧
    (s.hasTurn ⟨0x34, tag, []⟩ →
      exec (.setupPolicyGet tag []) s =
        .next ((s.arrive ⟨0x34, tag, []⟩).answered ⟨0x34, tag, []⟩ ⟨.ok, s.setup.policy.octets⟩)) ∧
    (∀ n : Nat, n < 256 →
      (n = 0 ∨ 48 < n → s.hasTurn ⟨0x2F, tag, be 1 n⟩ →
        exec (.setupReaderGet tag (be 1 n)) s =
          .next ((s.arrive ⟨0x2F, tag, be 1 n⟩).answered ⟨0x2F, tag, be 1 n⟩ ⟨.range, []⟩)) ∧
      (32 ≤ n → s.hasTurn ⟨0x30, tag, be 1 n⟩ →
        exec (.setupChannelGet tag (be 1 n)) s =
          .next ((s.arrive ⟨0x30, tag, be 1 n⟩).answered ⟨0x30, tag, be 1 n⟩ ⟨.range, []⟩)) ∧
      (4 ≤ n → s.hasTurn ⟨0x31, tag, be 1 n⟩ →
        exec (.setupLaneGet tag (be 1 n)) s =
          .next ((s.arrive ⟨0x31, tag, be 1 n⟩).answered ⟨0x31, tag, be 1 n⟩ ⟨.range, []⟩)) ∧
      (8 ≤ n → s.hasTurn ⟨0x32, tag, be 1 n⟩ →
        exec (.setupTillGet tag (be 1 n)) s =
          .next ((s.arrive ⟨0x32, tag, be 1 n⟩).answered ⟨0x32, tag, be 1 n⟩ ⟨.range, []⟩)))

/-- CARD GET, FOLIO GET, CHANNEL STATUS and TILL STATUS return the record named and change nothing (R21, R66, R114, R130). The
octets of flags, marks and bolt senses (log entry 8), of fields that a state does not carry (log entry 9), of the readers a till
status names (log entry 14) and of the door of a gate in EDGE mode (log entry 31) are the model's choice. -/
def Obligations.GetsAndStatusesReturnTheRecordNamed : Prop :=
  (∀ (tag : Octet) (s : Machine.State), tag ≠ 0 →
     (∀ card : CardNo, s.hasTurn ⟨0x02, tag, be 7 card.toNat⟩ →
       (cardValid card = false →
         exec (.cardGet tag (be 7 card.toNat)) s =
           .next ((s.arrive ⟨0x02, tag, be 7 card.toNat⟩).answered ⟨0x02, tag, be 7 card.toNat⟩ ⟨.range, []⟩)) ∧
       (cardValid card = true → lookup s.cards card = none →
         exec (.cardGet tag (be 7 card.toNat)) s =
           .next ((s.arrive ⟨0x02, tag, be 7 card.toNat⟩).answered ⟨0x02, tag, be 7 card.toNat⟩ ⟨.notFound, []⟩)) ∧
       (∀ i e, cardValid card = true → lookup s.cards card = some (i, e) →
         exec (.cardGet tag (be 7 card.toNat)) s =
           .next ((s.arrive ⟨0x02, tag, be 7 card.toNat⟩).answered ⟨0x02, tag, be 7 card.toNat⟩ ⟨.ok, e.octets i⟩))) ∧
     (∀ slot : Nat, slot < 65536 → s.hasTurn ⟨0x17, tag, be 2 slot⟩ →
       (4096 ≤ slot →
         exec (.folioGet tag (be 2 slot)) s =
           .next ((s.arrive ⟨0x17, tag, be 2 slot⟩).answered ⟨0x17, tag, be 2 slot⟩ ⟨.range, []⟩)) ∧
       (slot < 4096 → tget s.folios slot = none →
         exec (.folioGet tag (be 2 slot)) s =
           .next ((s.arrive ⟨0x17, tag, be 2 slot⟩).answered ⟨0x17, tag, be 2 slot⟩
             ⟨.ok, be 2 slot ++ be 1 0 ++ be 4 0 ++ be 4 0 ++ be 4 0 ++ be 2 0⟩)) ∧
       (∀ x, slot < 4096 → tget s.folios slot = some x →
         exec (.folioGet tag (be 2 slot)) s =
           .next ((s.arrive ⟨0x17, tag, be 2 slot⟩).answered ⟨0x17, tag, be 2 slot⟩
             ⟨.ok, be 2 slot ++ be 1 x.state.code ++ be 4 x.allowance ++ be 4 x.spent ++ be 4 x.threshold ++
               be 2 x.refs⟩)))) ∧
  (∀ (tag : Octet) (s : Machine.State), tag ≠ 0 →
     (∀ c : Chan,
       let f : Frame := ⟨0x0B, tag, be 1 c.val⟩
       let ch := s.zone.channels.get c
       let x := s.setup.channels.get c
       s.hasTurn f →
       exec (.channelStatus tag (be 1 c.val)) s = .next ((s.arrive f).answered f
         ⟨.ok, be 1 x.kind.code ++ be 2 x.door ++ be 1 x.mode.code ++ be 1 ch.state.code ++ be 1 ch.state.stageCode ++
           be 1 ch.state.arrivalCode ++ be 1 (if ch.release then 1 else 0) ++ be 1 ch.state.targetCode ++
           be 1 ((s.zone.groups.get (groupOf c)).slotOf c) ++ be 1 ((s.zone.groups.get (groupOf c)).positionOf c) ++
           be 1 (if x.mode = .level ∧ ch.contact = true then 0 else 1) ++ be 1 (if ch.privacy then 0 else 1) ++
           be 1 (if ch.home then 1 else 0) ++ be 1 (if ch.withdrawn then 1 else 0) ++ be 1 (if ch.lockout then 1 else 0) ++
           be 1 (if ch.record.kinds.isEmpty then 0 else 1) ++ be 4 (ch.state.holdLeft.getD 0xFFFFFFFF) ++
           be 4 (ch.state.relockLeft.getD 0xFFFFFFFF) ++ be 4 (ch.doorHeld.getD 0xFFFFFFFF)⟩)) ∧
     (∀ t : TillNo,
       let f : Frame := ⟨0x1C, tag, be 1 t.val⟩
       s.hasTurn f →
       exec (.tillStatus tag (be 1 t.val)) s = .next ((s.arrive f).answered f
         ⟨.ok, be 1 (if s.tillUsed t then 0 else 1) ++ be 1 (s.setup.tills.get t).cls.code ++
           be 1 (s.nthHolder (.counter t) 0) ++ be 1 (s.nthHolder (.counter t) 1) ++ (s.tills.get t).state.octets ++
           lastOctets (s.tills.get t).last⟩)) ∧
     (∀ n : Nat, n < 256 → 32 ≤ n → s.hasTurn ⟨0x0B, tag, be 1 n⟩ →
       exec (.channelStatus tag (be 1 n)) s =
         .next ((s.arrive ⟨0x0B, tag, be 1 n⟩).answered ⟨0x0B, tag, be 1 n⟩ ⟨.range, []⟩)) ∧
     (∀ n : Nat, n < 256 → 8 ≤ n → s.hasTurn ⟨0x1C, tag, be 1 n⟩ →
       exec (.tillStatus tag (be 1 n)) s =
         .next ((s.arrive ⟨0x1C, tag, be 1 n⟩).answered ⟨0x1C, tag, be 1 n⟩ ⟨.range, []⟩)))

/-- ASHORE LIST, JOURNAL FETCH and ALARM LIST walk their collection from a position and change nothing, and refuse a cursor, a
filter, a count or a position out of range RANGE (R25, R85, R136). The flag octets (log entry 8) and the place of the filter (log
entry 9) are the model's choice. -/
def Obligations.WalksReplyAndChangeNothing : Prop :=
  ∀ (tag : Octet) (s : Machine.State), tag ≠ 0 →
    (∀ cursor present category : Nat, cursor < 65536 → present < 256 → category < 256 →
      let body := be 2 cursor ++ be 1 present ++ be 1 category
      let f : Frame := ⟨0x08, tag, body⟩
      s.hasTurn f →
        (8192 ≤ cursor ∨ 2 ≤ present ∨ present = 1 ∧ 3 ≤ category →
          exec (.ashoreList tag body) s = .next ((s.arrive f).answered f ⟨.range, []⟩)) ∧
        (∀ filter : Option Category, cursor < 8192 →
          present = 0 ∧ filter = none ∨ present = 1 ∧ (∃ k, filter = some k ∧ k.code = category) →
          let found := (s.cards.filter (fun x => Nat.ble cursor x.1 && x.2.listed filter)).take 16
          exec (.ashoreList tag body) s = .next ((s.arrive f).answered f
            ⟨.ok, be 1 found.length ++ found.flatMap (fun x => be 7 x.2.card.toNat) ++
              be 2 ((found[15]?).elim 8192 (fun x => x.1 + 1))⟩))) ∧
    (∀ start count : Nat, start < 2 ^ 32 → count < 256 → count = 0 ∨ 8 < count →
      let f : Frame := ⟨0x1D, tag, be 4 start ++ be 1 count⟩
      s.hasTurn f → exec (.journalFetch tag f.body) s = .next ((s.arrive f).answered f ⟨.range, []⟩)) ∧
    (∀ position : Nat, 63 < position → position < 256 →
      let f : Frame := ⟨0x0D, tag, be 1 position⟩
      s.hasTurn f → exec (.alarmList tag f.body) s = .next ((s.arrive f).answered f ⟨.range, []⟩)) ∧
    (∀ start count : Nat, start < 2 ^ 32 → 1 ≤ count → count ≤ 8 →
      let body := be 4 start ++ be 1 count
      let f : Frame := ⟨0x1D, tag, body⟩
      let es := (s.journal.entries.filter (fun e => Nat.ble start e.seq)).take count
      s.hasTurn f →
      exec (.journalFetch tag body) s = .next ((s.arrive f).answered f
        ⟨.ok, be 2 s.journal.entries.length ++ be 4 ((s.journal.entries.head?.map JournalEntry.seq).getD 0) ++
          be 4 s.journal.next ++ be 1 (if s.journal.exhausted then 1 else 0) ++ be 1 es.length ++
          es.flatMap JournalEntry.block⟩)) ∧
    (∀ position : Nat, position ≤ 63 →
      let f : Frame := ⟨0x0D, tag, be 1 position⟩
      let rs := (s.alarms.records.drop position).take 8
      s.hasTurn f →
      exec (.alarmList tag (be 1 position)) s = .next ((s.arrive f).answered f
        ⟨.ok, be 1 s.alarms.records.length ++ be 1 (if s.alarms.overflow then 1 else 0) ++ enableOctets s.setup ++
          be 1 rs.length ++ rs.flatMap AlarmRecord.octets⟩))

/-- READER STATUS, LINK STATUS and LANE STATUS with clear return the record as it stood, and then clear its latch and counts; a
number or a flag out of range is refused RANGE (R102, R170, R182). The flag octets (log entry 8), the octets of fields that a
record does not hold and of the rate (log entry 9) and the reader that a lane status names (log entry 14) are the model's choice. -/
def Obligations.StatusReadsThatClearAfterReading : Prop :=
  ∀ (tag : Octet) (s : Machine.State), tag ≠ 0 →
    (∀ r : ReaderNo,
      let f : Frame := ⟨0x26, tag, be 1 (r.val + 1)⟩
      let rd := s.readers.get r
      s.hasTurn f →
      exec (.readerStatus tag (be 1 (r.val + 1))) s = .next
        ({ s.arrive f with
            readers := vset s.readers r { rd with lost := false, filtered := 0, busErrors := 0, missCount := 0 } }.answered f
          ⟨.ok, be 1 rd.role.code ++ be 1 rd.role.index ++ be 1 rd.enrol.code ++
            [rd.offered.elim 0 Offer.type] ++ [rd.offered.elim 0 Offer.revision] ++
            be 1 (if rd.tamper then 1 else 0) ++ be 1 (if rd.lost then 1 else 0) ++ be 1 rd.misses ++
            be 1 (rd.slot.elim 0 Pattern.code) ++ be 1 (rd.marker.elim 0 (fun m => m.stage.code)) ++ be 2 rd.filtered ++
            be 2 rd.busErrors ++ be 2 rd.missCount⟩)) ∧
    (let f : Frame := ⟨0x28, tag, []⟩
     let k := (s.arrive f).link
     s.hasTurn f →
     exec (.linkStatus tag []) s = .next
       ({ s.arrive f with
           link := { k with strayOctets := 0, lengthErrors := 0, gapTimeouts := 0, checkErrors := 0, busyRefusals := 0,
                            overruns := 0, droppedNotices := 0 } }.answered f
         ⟨.ok, be 2 k.strayOctets ++ be 2 k.lengthErrors ++ be 2 k.gapTimeouts ++ be 2 k.checkErrors ++
           be 2 k.busyRefusals ++ be 2 k.overruns ++ be 2 k.droppedNotices ++ be 1 k.rate.code ++
           be 1 k.notices.length⟩)) ∧
    (∀ (l : LaneNo) (clear : Bool),
      let f : Frame := ⟨0x12, tag, be 1 l.val ++ be 1 (if clear then 1 else 0)⟩
      let x := s.zone.lanes.get l
      let cfg := s.setup.lanes.get l
      s.hasTurn f →
      exec (.laneStatus tag f.body) s = .next
        ((if clear then
            { s.arrive f with zone := { s.zone with
              lanes := vset s.zone.lanes l { x with committedOut := 0, committedIn := 0, abandoned := 0,
                                                    unattributed := 0 } } }
          else s.arrive f).answered f
          ⟨.ok, be 1 (if s.zone.laneUsed s.setup l then 0 else 1) ++ be 1 cfg.dir.code ++ be 1 cfg.gate.val ++
            be 1 (s.holderAddress (.laneOut l)) ++ be 1 (s.holderAddress (.laneIn l)) ++ x.state.octets ++
            movementOctets x.state.movement ++ be 2 x.committedOut ++ be 2 x.committedIn ++ be 2 x.abandoned ++
            be 2 x.unattributed⟩)) ∧
    (∀ n : Nat, n < 256 → n = 0 ∨ 48 < n →
      let f : Frame := ⟨0x26, tag, be 1 n⟩
      s.hasTurn f → exec (.readerStatus tag f.body) s = .next ((s.arrive f).answered f ⟨.range, []⟩)) ∧
    (∀ n v : Nat, n < 256 → v < 256 → 4 ≤ n ∨ 2 ≤ v →
      let f : Frame := ⟨0x12, tag, be 1 n ++ be 1 v⟩
      s.hasTurn f → exec (.laneStatus tag f.body) s = .next ((s.arrive f).answered f ⟨.range, []⟩))

/-! ## Requests on cards -/

/-- CARD DELETE removes an unengaged known entry with its place in the tally and its folio reference, CARD REFUSE a pending
entry, whose held presentation it denies; CARD STATUS sets the status of a known entry and nothing else, PRESENCE SET the
presence of an unengaged one, with the tally. Each refuses the rest in the order of its rule (R12, R22 to R24). -/
def Obligations.CardEditsWriteOneEntry : Prop :=
  (∀ (tag : Octet) (card : CardNo) (s : Machine.State), tag ≠ 0 →
     (let f : Frame := ⟨0x03, tag, be 7 card.toNat⟩
      let u := s.arrive f
      s.hasTurn f →
       (cardValid card = false → exec (.cardDelete tag f.body) s = .next (u.answered f ⟨.range, []⟩)) ∧
       (cardValid card = true → lookup s.cards card = none →
         exec (.cardDelete tag f.body) s = .next (u.answered f ⟨.notFound, []⟩)) ∧
       (∀ i d h, cardValid card = true → lookup s.cards card = some (i, ⟨d, .pending h⟩) →
         exec (.cardDelete tag f.body) s = .next (u.answered f ⟨.busy, []⟩)) ∧
       (∀ i d k, cardValid card = true → lookup s.cards card = some (i, ⟨d, .known k⟩) → k.engaged ≠ none →
         exec (.cardDelete tag f.body) s = .next (u.answered f ⟨.busy, []⟩)) ∧
       (∀ i d k, cardValid card = true → lookup s.cards card = some (i, ⟨d, .known k⟩) → k.engaged = none →
         exec (.cardDelete tag f.body) s = .next
           ({ u with
               cards := tdel i s.cards
               tally := s.tally.move (some (k.holder.category, k.presence)) none
               folios := moveRef k.folio none s.folios }.answered f ⟨.ok, []⟩))) ∧
     (let f : Frame := ⟨0x05, tag, be 7 card.toNat⟩
      let u := s.arrive f
      s.hasTurn f →
       (cardValid card = false → exec (.cardRefuse tag f.body) s = .next (u.answered f ⟨.range, []⟩)) ∧
       (cardValid card = true → (∀ i d h, lookup s.cards card ≠ some (i, ⟨d, .pending h⟩)) →
         exec (.cardRefuse tag f.body) s = .next (u.answered f ⟨.notFound, []⟩)) ∧
       (∀ i d h, cardValid card = true → lookup s.cards card = some (i, ⟨d, .pending h⟩) →
         exec (.cardRefuse tag f.body) s = .next
           (({ u with cards := tdel i s.cards }.finish h.reader card h.arrival true .deniedUnknown).answered f
             ⟨.ok, []⟩)))) ∧
  (∀ (tag : Octet) (card : CardNo) (n : Nat) (s : Machine.State), tag ≠ 0 → n < 256 → cardValid card = true →
     (let f : Frame := ⟨0x04, tag, be 7 card.toNat ++ be 1 n⟩
      let u := s.arrive f
      s.hasTurn f →
       (3 ≤ n → exec (.cardStatus tag f.body) s = .next (u.answered f ⟨.range, []⟩)) ∧
       (n < 3 → lookup s.cards card = none → exec (.cardStatus tag f.body) s = .next (u.answered f ⟨.notFound, []⟩)) ∧
       (∀ i d h, n < 3 → lookup s.cards card = some (i, ⟨d, .pending h⟩) →
         exec (.cardStatus tag f.body) s = .next (u.answered f ⟨.state, []⟩)) ∧
       (∀ i d k st, st.code = n → lookup s.cards card = some (i, ⟨d, .known k⟩) →
         exec (.cardStatus tag f.body) s = .next
           ({ u with cards := tput i ⟨card, .known { k with status := st }⟩ s.cards }.answered f ⟨.ok, []⟩))) ∧
     (let f : Frame := ⟨0x06, tag, be 7 card.toNat ++ be 1 n⟩
      let u := s.arrive f
      s.hasTurn f →
       (2 ≤ n → exec (.presenceSet tag f.body) s = .next (u.answered f ⟨.range, []⟩)) ∧
       (n < 2 → lookup s.cards card = none → exec (.presenceSet tag f.body) s = .next (u.answered f ⟨.notFound, []⟩)) ∧
       (∀ i d h, n < 2 → lookup s.cards card = some (i, ⟨d, .pending h⟩) →
         exec (.presenceSet tag f.body) s = .next (u.answered f ⟨.state, []⟩)) ∧
       (∀ i d k, n < 2 → lookup s.cards card = some (i, ⟨d, .known k⟩) → k.engaged ≠ none →
         exec (.presenceSet tag f.body) s = .next (u.answered f ⟨.busy, []⟩)) ∧
       (∀ i d k p, p.code = n → lookup s.cards card = some (i, ⟨d, .known k⟩) → k.engaged = none →
         exec (.presenceSet tag f.body) s = .next
           ({ u with
               cards := tput i ⟨card, .known { k with presence := p }⟩ s.cards
               tally := s.tally.move (some (k.holder.category, k.presence)) (some (k.holder.category, p)) }.answered f
             ⟨.ok, []⟩))))

/-- CARD PUT is refused, inserts, displaces, overwrites or resolves, in the order of its checks; `p` is what a body of the
layout of R186 gives, or none when check 1 fails (R6 to R8, R11). The relock test, made at the close of a request that may open
a channel, is named (log entry 13). -/
def Obligations.CardPutWritesOneEntry : Prop :=
  ∀ (tag : Octet) (body : List Octet) (s : Machine.State), tag ≠ 0 →
    (body.length = 23 ∨ body.length = 26 ∨ body.length = 29 ∨ body.length = 32) →
    let f : Frame := ⟨0x01, tag, body⟩
    let u := s.arrive f
    s.hasTurn f →
      (cardPutOf body = none → exec (.cardPut tag body) s = .next (u.relockTest.answered f ⟨.range, []⟩)) ∧
      (∀ p slot, cardPutOf body = some p → p.entry.folio = some slot → tget s.folios slot = none →
        exec (.cardPut tag body) s = .next (u.relockTest.answered f ⟨.folioEmpty, []⟩)) ∧
      (∀ p, cardPutOf body = some p → (∀ slot, p.entry.folio = some slot → tget s.folios slot ≠ none) →
        (lookup s.cards p.card = none → freeWay s.cards p.card = none → displacedWay s.cards p.card = none →
          exec (.cardPut tag body) s = .next (u.relockTest.answered f ⟨.tableFull, []⟩)) ∧
        (∀ i, lookup s.cards p.card = none → freeWay s.cards p.card = some i →
          exec (.cardPut tag body) s = .next
            ((u.setEntry i (some ⟨p.card, .known p.entry⟩)).relockTest.answered f
              ⟨.ok, be 2 i ++ be 1 0 ++ be 7 0⟩)) ∧
        (∀ i e, lookup s.cards p.card = none → freeWay s.cards p.card = none → displacedWay s.cards p.card = some i →
          tget s.cards i = some e →
          exec (.cardPut tag body) s = .next
            ((u.setEntry i (some ⟨p.card, .known p.entry⟩)).relockTest.answered f
              ⟨.ok, be 2 i ++ be 1 0 ++ be 7 e.card.toNat⟩)) ∧
        (∀ i d k, lookup s.cards p.card = some (i, ⟨d, .known k⟩) → k.engaged ≠ none →
          exec (.cardPut tag body) s = .next (u.relockTest.answered f ⟨.busy, []⟩)) ∧
        (∀ i d k, lookup s.cards p.card = some (i, ⟨d, .known k⟩) → k.engaged = none →
          exec (.cardPut tag body) s = .next
            ((u.setEntry i (some ⟨p.card, .known
                { p.entry with
                  holder := match k.holder, p.entry.holder with
                    | .caller idle _, .caller _ _ => .caller idle false
                    | _, h => h
                  engaged := none
                  lastSeen := k.lastSeen }⟩)).relockTest.answered f
              ⟨.ok, be 2 i ++ be 1 1 ++ be 7 0⟩)) ∧
        (∀ i d h, lookup s.cards p.card = some (i, ⟨d, .pending h⟩) →
          let k := { p.entry with lastSeen := h.arrival }
          exec (.cardPut tag body) s = .next
            (((u.setEntry i (some ⟨p.card, .known k⟩)).decideKnown h.reader p.card h.arrival true k).relockTest.answered f
              ⟨.ok, be 2 i ++ be 1 2 ++ be 7 0⟩)))

/-- A body passes the first check of CARD PUT exactly when it is a card entry block of R186 within the ranges of R3, R4 and R6, and
then it gives the entry of that block, unengaged (a privilege or validity bit beyond those listed is out of range, log entry 9; a
new entry's last-seen is 0, R7). An entry goes to the lowest-numbered free way of its card's bucket, which has none exactly when its
four ways are taken (R7). A displaced entry is an ASHORE, unengaged CALLER of the card's bucket, and none of the bucket's such
callers was seen before it; none is displaced exactly when the bucket has no such CALLER (R7). -/
def Obligations.ABodyPutsACardInItsBucket : Prop :=
  (∀ (body : List Octet) (p : CardPut),
    body.length = 23 ∨ body.length = 26 ∨ body.length = 29 ∨ body.length = 32 →
    let e := p.entry
    (cardPutOf body = some p ↔
      p.card = BitVec.ofNat 56 (fieldAt body 0 7) ∧ p.card ≠ 0 ∧ p.card ≠ BitVec.allOnes 56 ∧
      (fieldAt body 7 1 = 0 ∧ e.holder = .guest ∨ fieldAt body 7 1 = 1 ∧ e.holder = .crew ∨
        fieldAt body 7 1 = 2 ∧ e.holder = .caller 0 false ∧ e.validUntil ≠ none) ∧
      (fieldAt body 8 1 = 0 ∧ e.status = .active ∨ fieldAt body 8 1 = 1 ∧ e.status = .hold ∨
        fieldAt body 8 1 = 2 ∧ e.status = .revoked) ∧
      (fieldAt body 9 2 = 0xFFFF ∧ e.folio = none ∨ fieldAt body 9 2 ≤ 4095 ∧ e.folio = some (fieldAt body 9 2)) ∧
      fieldAt body 11 1 = (if e.mayCharge then 1 else 0) + (if e.adult then 2 else 0) + (if e.officer then 4 else 0) ∧
      fieldAt body 12 1 = (if e.validFrom.isSome then 1 else 0) + (if e.validUntil.isSome then 2 else 0) ∧
      (∀ t, e.validFrom = some t → fieldAt body 13 4 = t.toNat) ∧
      (∀ t, e.validUntil = some t → fieldAt body 17 4 = t.toNat) ∧
      (∀ t t', e.validFrom = some t → e.validUntil = some t' → t ≤ t') ∧
      (fieldAt body 21 1 = 0 ∧ e.presence = .aboard ∨ fieldAt body 21 1 = 1 ∧ e.presence = .ashore) ∧
      fieldAt body 22 1 = e.grants.length ∧ body.length = 23 + 3 * e.grants.length ∧
      (∀ i g, e.grants[i]? = some g →
        (∃ n, g = .door n ∧ fieldAt body (23 + 3 * i) 1 = 0 ∧ fieldAt body (24 + 3 * i) 2 = n ∧ n ≤ 4095) ∨
        (∃ n, g = .span n ∧ fieldAt body (23 + 3 * i) 1 = 1 ∧ fieldAt body (24 + 3 * i) 2 = n ∧ 1 ≤ n ∧ n ≤ 8191)) ∧
      e.engaged = none ∧ e.lastSeen = 0)) ∧
  (∀ (cards : List (Nat × Entry)) (card : CardNo),
    (∀ i, freeWay cards card = some i ↔
      i / 4 = bucket card ∧ tget cards i = none ∧ ∀ j, j / 4 = bucket card → j < i → tget cards j ≠ none) ∧
    (freeWay cards card = none ↔ ∀ j, j / 4 = bucket card → tget cards j ≠ none)) ∧
  (∀ (cards : List (Nat × Entry)) (card : CardNo) (i : Nat), displacedWay cards card = some i →
    i / 4 = bucket card ∧
    ∃ d k idle rep, tget cards i = some ⟨d, .known k⟩ ∧ k.holder = .caller idle rep ∧ k.presence = .ashore ∧
      k.engaged = none ∧
      ∀ j d' k' idle' rep', j / 4 = bucket card → tget cards j = some ⟨d', .known k'⟩ → k'.holder = .caller idle' rep' →
        k'.presence = .ashore → k'.engaged = none → k.lastSeen ≤ k'.lastSeen ∧ (k'.lastSeen = k.lastSeen → i ≤ j)) ∧
  (∀ (cards : List (Nat × Entry)) (card : CardNo), displacedWay cards card = none ↔
    ∀ j d k idle rep, j / 4 = bucket card → tget cards j = some ⟨d, .known k⟩ → k.holder = .caller idle rep →
      k.presence = .ashore → k.engaged ≠ none)

/-! ## Requests on folios, tills and the journal -/

/-- FOLIO PUT writes a record within its ranges and keeps its references, and FOLIO DELETE empties an unreferenced slot; each
refuses the rest in the order of its rule: a FOLIO PUT is RANGE with a slot, a state octet, an allowance, a threshold or a spent
mode that is out of range, and with a spent above the allowance (R113, R114). -/
def Obligations.FolioPutAndFolioDeleteWriteOneSlot : Prop :=
  ∀ (tag : Octet) (slot : Nat) (s : Machine.State), tag ≠ 0 → slot < 65536 →
    (∀ state allowance threshold mode given : Nat,
      state < 256 → allowance < 2 ^ 32 → threshold < 2 ^ 32 → mode < 256 → given < 2 ^ 32 →
      let f : Frame := ⟨0x16, tag, be 2 slot ++ be 1 state ++ be 4 allowance ++ be 4 threshold ++ be 1 mode ++ be 4 given⟩
      s.hasTurn f → state = 0 ∨ 4 ≤ state ∨ 2 ≤ mode →
        exec (.folioPut tag f.body) s = .next ((s.arrive f).answered f ⟨.range, []⟩)) ∧
    (∀ (st : FolioState) (allowance threshold given : Nat) (keep : Bool),
      allowance < 2 ^ 32 → threshold < 2 ^ 32 → given < 2 ^ 32 →
      let f : Frame := ⟨0x16, tag, be 2 slot ++ be 1 st.code ++ be 4 allowance ++ be 4 threshold ++
        be 1 (if keep then 1 else 0) ++ be 4 given⟩
      let old := tget s.folios slot
      let spent := if keep then old.elim 0 Folio.spent else given
      let new : Folio := ⟨st, allowance, spent, threshold, old.elim 0 Folio.refs⟩
      s.hasTurn f →
        (4096 ≤ slot ∨ 1000000 < allowance ∨ 999999 < threshold ∨ allowance < spent →
          exec (.folioPut tag f.body) s = .next ((s.arrive f).answered f ⟨.range, []⟩)) ∧
        (slot < 4096 → allowance ≤ 1000000 → threshold ≤ 999999 → spent ≤ allowance →
          exec (.folioPut tag f.body) s = .next
            ({ s.arrive f with folios := tput slot new s.folios }.answered f
              ⟨.ok, be 2 slot ++ be 1 st.code ++ be 4 allowance ++ be 4 spent ++ be 4 threshold ++ be 2 new.refs ++
                be 1 (if old.isNone then 0 else 1)⟩))) ∧
    (let f : Frame := ⟨0x18, tag, be 2 slot⟩
     s.hasTurn f →
      (4096 ≤ slot → exec (.folioDelete tag f.body) s = .next ((s.arrive f).answered f ⟨.range, []⟩)) ∧
      (slot < 4096 → tget s.folios slot = none →
        exec (.folioDelete tag f.body) s = .next ((s.arrive f).answered f ⟨.notFound, []⟩)) ∧
      (∀ x, slot < 4096 → tget s.folios slot = some x → 0 < x.refs →
        exec (.folioDelete tag f.body) s = .next ((s.arrive f).answered f ⟨.inUse, []⟩)) ∧
      (∀ x, slot < 4096 → tget s.folios slot = some x → x.refs = 0 →
        exec (.folioDelete tag f.body) s = .next
          ({ s.arrive f with folios := tdel slot s.folios }.answered f ⟨.ok, []⟩)))

/-- CHARGE OPEN arms an IDLE till, and CHARGE CANCEL ends the open charge of a till CANCELLED, with no card from ARMED and with the
taken card from AUTHORISING; each is refused in the order of its rule (R118, R120). -/
def Obligations.ChargeOpenAndChargeCancel : Prop :=
  (∀ (tag : Octet) (till amount ref : Nat) (s : Machine.State), tag ≠ 0 → till < 256 → amount < 2 ^ 32 → ref < 2 ^ 32 →
     let f : Frame := ⟨0x19, tag, be 1 till ++ be 4 amount ++ be 4 ref⟩
     let u := s.arrive f
     s.hasTurn f →
       (8 ≤ till ∨ amount = 0 ∨ 999999 < amount → exec (.chargeOpen tag f.body) s = .next (u.answered f ⟨.range, []⟩)) ∧
       (∀ t : TillNo, t.val = till → 1 ≤ amount → amount ≤ 999999 →
         (s.mode = .maintenance → exec (.chargeOpen tag f.body) s = .next (u.answered f ⟨.maintenance, []⟩)) ∧
         (s.mode = .normal → s.evac.state = .evacuation →
           exec (.chargeOpen tag f.body) s = .next (u.answered f ⟨.suspended, []⟩)) ∧
         (s.mode = .normal → s.evac.state ≠ .evacuation → s.tillUsed t = false →
           exec (.chargeOpen tag f.body) s = .next (u.answered f ⟨.state, []⟩)) ∧
         (s.mode = .normal → s.evac.state ≠ .evacuation → s.tillUsed t = true → (s.tills.get t).state ≠ .idle →
           exec (.chargeOpen tag f.body) s = .next (u.answered f ⟨.busy, []⟩)) ∧
         (s.mode = .normal → s.evac.state ≠ .evacuation → s.tillUsed t = true → (s.tills.get t).state = .idle →
           exec (.chargeOpen tag f.body) s = .next
             ({ u with
                 tills := vset s.tills t { s.tills.get t with
                   state := .armed ⟨amount, BitVec.ofNat 32 ref, s.clock.time⟩ (s.setup.timing.armTime * 1000) } }.answered f
               ⟨.ok, be 1 1 ++ be 4 s.clock.time.toNat⟩)))) ∧
  (∀ (tag : Octet) (till : Nat) (s : Machine.State), tag ≠ 0 → till < 256 →
     let f : Frame := ⟨0x1A, tag, be 1 till⟩
     let u := s.arrive f
     s.hasTurn f →
       (8 ≤ till → exec (.chargeCancel tag f.body) s = .next (u.answered f ⟨.range, []⟩)) ∧
       (∀ t : TillNo, t.val = till →
         (s.tillUsed t = false ∨ (s.tills.get t).state = .idle →
           exec (.chargeCancel tag f.body) s = .next (u.answered f ⟨.state, []⟩)) ∧
         (∀ c left, s.tillUsed t = true → (s.tills.get t).state = .armed c left →
           exec (.chargeCancel tag f.body) s = .next
             ((u.endCharge t c .cancelled none none none).answered f ⟨.ok, be 1 0⟩)) ∧
         (∀ c p left, s.tillUsed t = true → (s.tills.get t).state = .authorising c p left →
           exec (.chargeCancel tag f.body) s = .next
             ((u.endCharge t c .cancelled (some (p.card, p.reader)) (some p.slot) none).answered f ⟨.ok, be 1 0⟩))))

/-- An ARMED till takes the card of a CHARGE_TAKEN decision, after its TAP notice: the ordered checks of R121, then the tier that
the authority and the amount select (R122): LOCAL or OFFLINE approval, DECLINED_LIMIT, or the referral, which puts the till in
AUTHORISING with its answer timer, engages the card, sends AUTH QUERY and lets the decision wait at the reader, which is shown WAIT
(R125). The re-check of a referral reads the card, its folio and its presence as they stand (R126). That the AUTH QUERY notice
stands after the TAP notice of its decision is log entry 11. A counter without an ARMED till is stated with the other verdicts. -/
def Obligations.TakingACard : Prop :=
  ∀ (t : TillNo) (c : Charge) (card : CardNo) (r : ReaderNo) (arrival : ShipTime) (k : Known) (s : Machine.State),
    (∀ left queried, (s.readers.get r).role = .counter t → (s.tills.get t).state = .armed c left →
      s.verdict (.counter t) k = .chargeTaken →
      s.decideKnown r card arrival queried k = (s.tap r card .chargeTaken arrival queried).takeCard t c card r arrival k) ∧
    (let paying := k.status = .active ∧ ∀ slot, k.folio = some slot → ∃ x, tget s.folios slot = some x ∧ x.state = .open
     let charged := k.folio ≠ none ∧ k.mayCharge = true
     let ofAge := (s.setup.tills.get t).cls = .general ∨ k.adult = true
     let here := s.setup.policy.presence = false ∨ k.presence = .aboard
     let taken := s.takeCard t c card r arrival k
     let ends := fun o => s.endCharge t c o (some (card, r)) k.folio none
     (¬paying → taken = ends .declinedStatus) ∧
     (paying → ¬charged → taken = ends .declinedNoFolio) ∧
     (paying → charged → ¬ofAge → taken = ends .declinedAge) ∧
     (paying → charged → ofAge → ¬here → taken = ends .declinedPresence) ∧
     (∀ slot x, paying → charged → ofAge → here → k.folio = some slot → tget s.folios slot = some x →
       (s.authority = .standalone →
         (c.amount ≤ x.allowance - x.spent → taken = s.approve t c card r slot .offline) ∧
         (x.allowance - x.spent < c.amount → taken = ends .declinedLimit)) ∧
       (∀ left, s.authority = .online left →
         (c.amount ≤ x.threshold → taken = s.approve t c card r slot .localTier) ∧
         (x.threshold < c.amount →
           let rd := s.readers.get r
           let engaged := s.changeKnown card (fun k => { k with engaged := some (.charge t) })
           (∀ k', s.known card = some k' → engaged.known card = some { k' with engaged := some (.charge t) }) ∧
           taken = { engaged with
             tills := vset s.tills t { s.tills.get t with
               state := .authorising c ⟨card, r, slot, x.threshold⟩ (s.setup.timing.answerTime * 1000) }
             link := s.link.notify (.authQuery t card slot c.amount c.ref)
             readers := vset s.readers r
               { rd with
                 slot := if rd.enrol = .active then some .amber else rd.slot
                 marker := some ⟨card, arrival, .awaitingCharge⟩ } })))) ∧
    (∀ p : Payer, s.recheck p = true ↔
      ∃ k', s.known p.card = some k' ∧ k'.status = .active ∧
        (∃ x, tget s.folios p.slot = some x ∧ x.state = .open) ∧
        (s.setup.policy.presence = false ∨ k'.presence = .aboard))

/-- The end of a charge puts the till in IDLE with its last outcome, clears the CHARGE engagement of the taken card, sends the
CHARGE RESULT notice and closes the decision of the taken card with its indication; nothing else of the part changes (R124). The
engagement is one field of the card's entry: the rest of the entry, every other entry, the tally and the folios stay. -/
def Obligations.TheEndOfACharge : Prop :=
  ∀ (t : TillNo) (c : Charge) (o : ChargeOutcome) (card : CardNo) (r : ReaderNo) (slot : Option Nat) (ap : Option Approval)
    (s : Machine.State),
    (s.endCharge t c o none slot ap =
      { s with
        tills := vset s.tills t { s.tills.get t with state := .idle, last := some ⟨o, none, c.ref, ap⟩ }
        link := s.link.notify (.chargeResult t o none slot c.amount c.ref ap (!s.clock.valid)) }) ∧
    (let rd := s.readers.get r
     let window := s.setup.timing.repeatWindow
     s.endCharge t c o (some (card, r)) slot ap =
      { s.disengage card (.charge t) with
        tills := vset s.tills t { s.tills.get t with state := .idle, last := some ⟨o, some card, c.ref, ap⟩ }
        link := s.link.notify (.chargeResult t o (some card) slot c.amount c.ref ap (!s.clock.valid))
        readers := vset s.readers r
          { rd with
            slot := if rd.enrol = .active then some (if o = .approved then .green else .red) else rd.slot
            marker := none
            memory := if window = 0 then none else some ⟨card, window * 1000⟩ } }) ∧
    (∀ i d k, lookup s.cards card = some (i, ⟨d, .known k⟩) → k.engaged = some (.charge t) →
      s.disengage card (.charge t) = { s with cards := tput i ⟨card, .known { k with engaged := none }⟩ s.cards }) ∧
    (s.tablesLaw → (∀ k, s.known card = some k → k.engaged ≠ some (.charge t)) → s.disengage card (.charge t) = s)

/-- AUTH ANSWER ends the referral of the host reference it names: DECLINED_REFERRAL on a decline, DECLINED_STATUS when the re-
check fails, and otherwise by the approval with the authority REFERRED; it is refused RANGE or LATE otherwise (R126, R127). -/
def Obligations.AuthAnswerEndsTheReferralItNames : Prop :=
  ∀ (tag : Octet) (till ref answer : Nat) (s : Machine.State), tag ≠ 0 → till < 256 → ref < 2 ^ 32 → answer < 256 →
    let f : Frame := ⟨0x1B, tag, be 1 till ++ be 4 ref ++ be 1 answer⟩
    let u := s.arrive f
    s.hasTurn f →
      (8 ≤ till ∨ 2 ≤ answer → exec (.authAnswer tag f.body) s = .next (u.answered f ⟨.range, []⟩)) ∧
      (∀ t : TillNo, t.val = till → answer < 2 →
        ((∀ c p left, (s.tills.get t).state = .authorising c p left → c.ref ≠ BitVec.ofNat 32 ref) →
          exec (.authAnswer tag f.body) s = .next (u.answered f ⟨.late, []⟩)) ∧
        (∀ c p left, (s.tills.get t).state = .authorising c p left → c.ref = BitVec.ofNat 32 ref →
          (answer = 1 →
            exec (.authAnswer tag f.body) s = .next
              ((u.endCharge t c .declinedReferral (some (p.card, p.reader)) (some p.slot) none).answered f
                ⟨.ok, be 1 6⟩)) ∧
          (answer = 0 → s.recheck p = false →
            exec (.authAnswer tag f.body) s = .next
              ((u.endCharge t c .declinedStatus (some (p.card, p.reader)) (some p.slot) none).answered f
                ⟨.ok, be 1 1⟩)) ∧
          (answer = 0 → s.recheck p = true → s.journal.entries.length < 4096 → s.journal.exhausted = false →
            exec (.authAnswer tag f.body) s = .next
              ((u.approve t c p.card p.reader p.slot .referred).answered f ⟨.ok, be 1 0⟩)) ∧
          (answer = 0 → s.recheck p = true → 4096 ≤ s.journal.entries.length ∨ s.journal.exhausted = true →
            exec (.authAnswer tag f.body) s = .next
              ((u.endCharge t c .declinedJournalFull (some (p.card, p.reader)) (some p.slot) none).answered f
                ⟨.ok, be 1 7⟩))))

/-- An approval against a journal with room writes one entry with the next sequence and raises the folio's spent for OFFLINE and
STAND_IN alone, and the till ends APPROVED with that sequence; the CHARGE RESULT notice is sent, and a JOURNAL notice after it when
the write raises the depth to the high-water threshold. Against a full journal it changes neither journal nor folio, and sends the
CHARGE RESULT alone (R115, R123, R134, R140). -/
def Obligations.AnApprovalWritesOneJournalEntry : Prop :=
  ∀ (t : TillNo) (c : Charge) (card : CardNo) (r : ReaderNo) (slot : Nat) (tier : Tier) (s : Machine.State),
    let a := s.approve t c card r slot tier
    (s.journal.entries.length < 4096 → s.journal.exhausted = false →
      a.journal.entries = s.journal.entries ++
        [⟨s.journal.next, s.clock.time, !s.clock.valid, slot, card, t, c.amount, tier, c.ref, false⟩] ∧
      (s.journal.next < 4294967295 → a.journal.next = s.journal.next + 1 ∧ a.journal.exhausted = false) ∧
      (s.journal.next = 4294967295 → a.journal.next = 4294967295 ∧ a.journal.exhausted = true) ∧
      (a.tills.get t).last = some ⟨.approved, some card, c.ref, some ⟨s.journal.next, tier⟩⟩ ∧
      (a.tills.get t).state = .idle ∧
      (tier = .localTier ∨ tier = .referred → a.folios = s.folios) ∧
      (∀ x, tier = .offline ∨ tier = .standIn → tget s.folios slot = some x →
        tget a.folios slot = some { x with spent := x.spent + c.amount }) ∧
      (let depth := s.journal.entries.length + 1
       let high := s.setup.timing.highWater
       let oldest := (s.journal.entries.head?.map JournalEntry.seq).getD s.journal.next
       let told := s.link.notify (.chargeResult t .approved (some card) (some slot) c.amount c.ref
         (some ⟨s.journal.next, tier⟩) (!s.clock.valid))
       (depth = high → a.link = told.notify (.journal depth high (some oldest) a.journal.next a.journal.exhausted)) ∧
       (depth ≠ high → a.link = told))) ∧
    (4096 ≤ s.journal.entries.length ∨ s.journal.exhausted = true →
      a.journal = s.journal ∧ a.folios = s.folios ∧ (a.tills.get t).state = .idle ∧
      (a.tills.get t).last = some ⟨.declinedJournalFull, some card, c.ref, none⟩ ∧
      a.link = s.link.notify (.chargeResult t .declinedJournalFull (some card) (some slot) c.amount c.ref none
        (!s.clock.valid)))

/-- JOURNAL RELEASE removes the entries through its release point and no others, and CHARGE VOID voids one held entry and reduces
the spent of its folio for OFFLINE and STAND_IN; each refuses the rest in the order of its rule (R137, R138, R139). That a release
at or beyond the next sequence is refused RANGE on an empty journal too (log entry 33) and the octet of the adjusted mark (log
entry 8) are the model's choice. -/
def Obligations.JournalReleaseAndChargeVoid : Prop :=
  ∀ (tag : Octet) (n : Nat) (s : Machine.State), tag ≠ 0 → n < 2 ^ 32 →
    (let f : Frame := ⟨0x1E, tag, be 4 n⟩
     let left := s.journal.entries.filter (fun e => Nat.blt n e.seq)
     s.hasTurn f →
      (s.journal.next ≤ n → s.journal.exhausted = false →
        exec (.journalRelease tag f.body) s = .next ((s.arrive f).answered f ⟨.range, []⟩)) ∧
      (n < s.journal.next ∨ s.journal.exhausted = true →
        exec (.journalRelease tag f.body) s = .next
          ({ s.arrive f with journal := { s.journal with entries := left } }.answered f
            ⟨.ok, be 2 (s.journal.entries.length - left.length) ++ be 2 left.length ++
              be 4 ((left.head?.map JournalEntry.seq).getD 0)⟩))) ∧
    (let f : Frame := ⟨0x1F, tag, be 4 n⟩
     let u := { s.arrive f with journal := { s.journal with
       entries := s.journal.entries.map (fun e : JournalEntry => if e.seq = n then { e with voided := true } else e) } }
     s.hasTurn f →
      ((∀ e ∈ s.journal.entries, e.seq ≠ n) →
        exec (.chargeVoid tag f.body) s = .next ((s.arrive f).answered f ⟨.notFound, []⟩)) ∧
      (∀ e, s.journal.entries.find? (fun e : JournalEntry => e.seq = n) = some e →
        (e.voided = true → exec (.chargeVoid tag f.body) s = .next ((s.arrive f).answered f ⟨.state, []⟩)) ∧
        (∀ x, e.voided = false → e.tier = .offline ∨ e.tier = .standIn → tget s.folios e.slot = some x →
          exec (.chargeVoid tag f.body) s = .next
            ({ u with folios := tput e.slot { x with spent := x.spent - e.amount } s.folios }.answered f
              ⟨.ok, be 4 n ++ be 1 e.tier.code ++ be 2 e.slot ++ be 4 e.amount ++ be 1 1 ++
                be 4 (x.spent - e.amount)⟩)) ∧
        (e.voided = false → e.tier = .localTier ∨ e.tier = .referred ∨ tget s.folios e.slot = none →
          exec (.chargeVoid tag f.body) s = .next
            (u.answered f
              ⟨.ok, be 4 n ++ be 1 e.tier.code ++ be 2 e.slot ++ be 4 e.amount ++ be 1 0 ++ be 4 0⟩))))

/-! ## Requests on the authority, the clock, the evacuation, the deadline and the lanes -/

/-- LEASE GRANT starts the lease at its length whatever the authority, LEASE END enters STANDALONE with its effects (written out
with the lease expiry), TIME SET sets a valid time and restarts the second counter, DEADLINE SET replaces the record whatever it
was and DEADLINE CLEAR returns it to NONE, neither with a notice (R107, R109, R143, R145, R148). The octets of the time-valid flag
and of the authority (log entry 8) are the model's choice. -/
def Obligations.LeaseTimeAndDeadlineRequests : Prop :=
  (∀ (tag : Octet) (n : Nat) (s : Machine.State), tag ≠ 0 →
     (n < 65536 →
      let f : Frame := ⟨0x20, tag, be 2 n⟩
      s.hasTurn f →
       (n < 5 ∨ 300 < n → exec (.leaseGrant tag f.body) s = .next ((s.arrive f).answered f ⟨.range, []⟩)) ∧
       (5 ≤ n → n ≤ 300 →
         exec (.leaseGrant tag f.body) s = .next
           ({ s.arrive f with authority := .online (n * 1000) }.answered f ⟨.ok, be 1 0 ++ be 4 (n * 1000)⟩))) ∧
     (let f : Frame := ⟨0x21, tag, []⟩
      s.hasTurn f →
       (s.authority = .standalone →
         exec (.leaseEnd tag []) s = .next ((s.arrive f).answered f ⟨.ok, be 1 1 ++ be 1 0 ++ be 1 0⟩)) ∧
       (∀ left, s.authority = .online left →
         exec (.leaseEnd tag []) s = .next
           ({ s.arrive f with authority := .standalone }.resolveWaits.answered f
             ⟨.ok, be 1 0 ++ be 1 (pendingByReader s.cards).length ++ be 1 s.authorisingTills.length⟩))) ∧
     (n < 2 ^ 32 →
      let f : Frame := ⟨0x22, tag, be 4 n⟩
      s.hasTurn f →
       exec (.timeSet tag f.body) s = .next
         ({ s.arrive f with clock :=
             { s.clock with time := BitVec.ofNat 32 n, valid := true, secondMs := 0 } }.answered f
           ⟨.ok, be 4 s.clock.time.toNat ++ be 1 (if s.clock.valid then 1 else 0) ++ be 4 n⟩))) ∧
  (∀ (tag : Octet) (m l : Nat) (s : Machine.State), tag ≠ 0 → m < 65536 → l < 256 →
     (let f : Frame := ⟨0x13, tag, be 2 m ++ be 1 l⟩
      s.hasTurn f →
       (m = 0 ∨ 1440 < m ∨ 120 < l ∨ m ≤ l →
         exec (.deadlineSet tag f.body) s = .next ((s.arrive f).answered f ⟨.range, []⟩)) ∧
       (1 ≤ m → m ≤ 1440 → l ≤ 120 → l < m →
         exec (.deadlineSet tag f.body) s = .next
           ({ s.arrive f with deadline := .running m l }.answered f ⟨.ok, be 1 1 ++ be 2 m ++ be 1 l⟩))) ∧
     (let f : Frame := ⟨0x14, tag, []⟩
      s.hasTurn f →
       exec (.deadlineClear tag []) s = .next ({ s.arrive f with deadline := .none }.answered f ⟨.ok, []⟩)))

/-- LANE OPEN and LANE CLOSE move the lane by the tables of their rules, and are refused in their order (R90, R91). -/
def Obligations.LaneOpenAndLaneClose : Prop :=
  ∀ (tag : Octet) (n : Nat) (s : Machine.State), tag ≠ 0 → n < 256 →
    (let f : Frame := ⟨0x10, tag, be 1 n⟩
     s.hasTurn f →
      (4 ≤ n → exec (.laneOpen tag f.body) s = .next ((s.arrive f).answered f ⟨.range, []⟩)) ∧
      (∀ l : LaneNo, l.val = n →
        (s.mode = .maintenance → exec (.laneOpen tag f.body) s = .next ((s.arrive f).answered f ⟨.maintenance, []⟩)) ∧
        (s.mode = .normal → s.zone.laneUsed s.setup l = false →
          exec (.laneOpen tag f.body) s = .next ((s.arrive f).answered f ⟨.state, []⟩)) ∧
        (s.mode = .normal → s.zone.laneUsed s.setup l = true →
          let after := match (s.zone.lanes.get l).state with
            | .closed => LaneState.ready
            | .closing m => .released m
            | .heldOpen _ => .heldOpen .ready
            | st => st
          exec (.laneOpen tag f.body) s = .next
            ({ s.arrive f with zone := { s.zone with
                lanes := vset s.zone.lanes l { s.zone.lanes.get l with state := after } } }.answered f
              ⟨.ok, after.octets⟩)))) ∧
    (let f : Frame := ⟨0x11, tag, be 1 n⟩
     s.hasTurn f →
      (4 ≤ n → exec (.laneClose tag f.body) s = .next ((s.arrive f).answered f ⟨.range, []⟩)) ∧
      (∀ l : LaneNo, l.val = n →
        (s.zone.laneUsed s.setup l = false →
          exec (.laneClose tag f.body) s = .next ((s.arrive f).answered f ⟨.state, []⟩)) ∧
        (s.zone.laneUsed s.setup l = true →
          let after := match (s.zone.lanes.get l).state with
            | .ready => LaneState.closed
            | .released m => .closing m
            | .heldOpen _ => .heldOpen .closed
            | st => st
          exec (.laneClose tag f.body) s = .next
            ({ s.arrive f with zone := { s.zone with
                lanes := vset s.zone.lanes l { s.zone.lanes.get l with state := after } } }.answered f
              ⟨.ok, after.octets⟩))))

/-! ## Claims on a channel -/

/-- An open claim by the state of its channel (R50), and a lane's relock claim by the state of its gate (R61): the state entered, the
slot or the place in the queue, the drive timer that starts with a drive, and, for a gate, what its lane takes (R93). A channel that
would wait in an inhibited group enters INHIBITED (R79), a drive whose sense is asserted already ends at once (R52, R55), a relock
delay of 0 is no delay (R54), and the drive timer is that of R68. -/
def Obligations.OpenAndRelockClaimsByState : Prop :=
  ∀ (cfg : Setup) (c : Chan) (z : Zone), z.orderly →
    let ch := z.channels.get c
    let g := z.groups.get (groupOf c)
    let full := g.slot0 ≠ none ∧ g.slot1 ≠ none
    let timed := fun ch' : Channel => ch'.driveLeft = some cfg.timing.driveTimeout
    let free := fun g' : Group => c ∉ g'.queue ∧ g'.slot0 ≠ some c ∧ g'.slot1 ≠ some c
    let held := ChanState.openHold (.holding (cfg.timing.holdTime * 1000))
    let delayed := ChanState.openHold (.relockDelay (cfg.timing.relockDelay * 1000))
    (let z' := z.openClaim cfg c
     let ch' := z'.channels.get c
     let g' := z'.groups.get (groupOf c)
     let claims := ch.state = .locked ∨ ch.state = .fault ∧ cfg.policy.scope.get (groupOf c) = .isolate
     let next := claims ∧ g.inhibited = false ∧ g.queue = []
     (claims → g.inhibited = true → ch'.state = .inhibited (.openEnd .fresh) ∧ c ∉ g'.queue) ∧
     (claims → g.inhibited = false → full → ch'.state = .unlockWait .fresh ∧ g' = { g with queue := g.queue ++ [c] }) ∧
     (next → ch.withdrawn = false →
       (g.slot0 = none → ch'.state = .unlocking .fresh ∧ g' = { g with slot0 := some c } ∧ timed ch') ∧
       (g.slot0 ≠ none → g.slot1 = none → ch'.state = .unlocking .fresh ∧ g' = { g with slot1 := some c } ∧ timed ch')) ∧
     (next → ¬full → ch.withdrawn = true →
       (ch.release = true → ch'.state = .released ∧ free g') ∧
       (ch.release = false → cfg.kind c = .cabin → ch'.state = held ∧ free g')) ∧
     (∀ a, ch.state = .unlockWait a → ch'.state = .unlockWait .fresh ∧ g' = g) ∧
     (∀ a, ch.state = .unlocking a → ch'.state = .unlocking .fresh ∧ ch'.driveLeft = ch.driveLeft ∧ g' = g) ∧
     ((∃ st, ch.state = .openHold st) ∨ ch.state = .lockWait →
       (ch.state = .lockWait → cfg.kind c = .cabin ∨ cfg.timing.relockDelay ≠ 0 → c ∉ g'.queue) ∧
       (cfg.kind c = .cabin → ch'.state = held) ∧
       (cfg.kind c = .gate →
         (z.laneOf cfg c = none → ch'.state = .openHold .laneHeld) ∧
         (∀ l, z.laneOf cfg c = some l →
           let window := some (cfg.timing.passWindow * 1000)
           (∀ m, (z.lanes.get l).state = .released m →
             ch'.state = .openHold .laneHeld ∧ (z'.lanes.get l).state = .released { m with window := window }) ∧
           (∀ m, (z.lanes.get l).state = .closing m →
             ch'.state = .openHold .laneHeld ∧ (z'.lanes.get l).state = .closing { m with window := window }) ∧
           (∀ r, (z.lanes.get l).state = .heldOpen r → ch'.state = .openHold .laneHeld) ∧
           ((z.lanes.get l).state = .ready ∨ (z.lanes.get l).state = .closed →
             (ch.release = true → ch'.state = .openHold .laneHeld) ∧
             (ch.release = false → cfg.timing.relockDelay ≠ 0 → ch'.state = delayed))))) ∧
     (ch.state = .locking →
       (ch.withdrawn = false → ch'.state = .unlocking .fresh ∧ timed ch') ∧
       (ch.withdrawn = true → ch.release = true → ch'.state = .released ∧ free g') ∧
       (ch.withdrawn = true → ch.release = false → cfg.kind c = .cabin → ch'.state = held ∧ free g')) ∧
     (ch.state = .off ∨ ch.state = .released ∨ (∃ t, ch.state = .inhibited t) ∨
         ch.state = .fault ∧ cfg.policy.scope.get (groupOf c) = .group → z' = z)) ∧
    (let z' := z.relockClaim cfg c
     let ch' := z'.channels.get c
     let g' := z'.groups.get (groupOf c)
     (ch.release = true → z' = z) ∧
     (ch.release = false →
       (∀ n, ch.state = .openHold (.relockDelay n) → z' = z) ∧
       (∀ st, ch.state = .openHold st → (∀ n, st ≠ .relockDelay n) →
         (cfg.timing.relockDelay ≠ 0 → ch'.state = delayed) ∧
         (cfg.timing.relockDelay = 0 →
           (g.inhibited = true → ch'.state = .inhibited .closedEnd ∧ c ∉ g'.queue) ∧
           (g.inhibited = false → full → ch'.state = .lockWait ∧ g' = { g with queue := g.queue ++ [c] }) ∧
           (g.inhibited = false → g.queue = [] → ch.home = false →
             (g.slot0 = none → ch'.state = .locking ∧ g' = { g with slot0 := some c } ∧ timed ch') ∧
             (g.slot0 ≠ none → g.slot1 = none → ch'.state = .locking ∧ g' = { g with slot1 := some c } ∧ timed ch')) ∧
           (g.inhibited = false → g.queue = [] → ¬full → ch.home = true → ch'.state = .locked ∧ free g'))) ∧
       (∀ a, ch.state = .unlockWait a → ch.home = true → ch'.state = .locked ∧ c ∉ g'.queue) ∧
       (∀ a, ch.state = .unlockWait a → ch.home = false → ch'.state = .lockWait ∧ g' = g) ∧
       (∀ a, ch.state = .unlocking a → ch.home = false → ch'.state = .locking ∧ timed ch') ∧
       (∀ a, ch.state = .unlocking a → ch.home = true → ch'.state = .locked ∧ free g') ∧
       (∀ t, ch.state = .inhibited t → ch'.state = .inhibited .closedEnd ∧ g' = g) ∧
       (ch.state = .locked ∨ ch.state = .lockWait ∨ ch.state = .locking ∨ ch.state = .fault ∨ ch.state = .released ∨
           ch.state = .off → z' = z)))

/-- A release claim and an end-of-release claim by the state of the channel (R64, R65), with the slot or the place in the queue that
its arbiter gives (R62), INHIBITED in place of a wait in an inhibited group (R79), and the expired hold at the end of the release
(R53); the arrival hold EXPIRED that a release claim gives is the model's choice (log entry 12). -/
def Obligations.ReleaseAndEndOfReleaseByState : Prop :=
  ∀ (cfg : Setup) (c : Chan) (z : Zone), z.orderly →
    let ch := z.channels.get c
    let g := z.groups.get (groupOf c)
    (cfg.inUse c = false → z.releaseClaim cfg c = z ∧ z.endRelease cfg c = z) ∧
    (cfg.inUse c = true →
      (let z' := z.releaseClaim cfg c
       let ch' := z'.channels.get c
       let g' := z'.groups.get (groupOf c)
       ch'.release = true ∧
       (ch.state = .locked ∨ ch.state = .fault ∨ (∃ st, ch.state = .openHold st) ∧ ch.withdrawn = false →
         (g.inhibited = true → ch'.state = .inhibited (.openEnd .expired) ∧ c ∉ g'.queue) ∧
         (g.inhibited = false → g.slot0 ≠ none → g.slot1 ≠ none →
           ch'.state = .unlockWait .expired ∧ g' = { g with queue := g.queue ++ [c] }) ∧
         (g.inhibited = false → g.queue = [] → g.slot0 = none → ch.withdrawn = false →
           ch'.state = .unlocking .expired ∧ g' = { g with slot0 := some c })) ∧
       ((∃ st, ch.state = .openHold st) → ch.withdrawn = true → ch'.state = .released) ∧
       (ch.state = .lockWait → ch'.state = .released ∧ c ∉ g'.queue) ∧
       (ch.state = .locking → ch.withdrawn = false → ch'.state = .unlocking .expired) ∧
       (∀ a, ch.state = .inhibited (.openEnd a) → ch'.state = .inhibited (.openEnd a)) ∧
       (ch.state = .inhibited .closedEnd ∨ ch.state = .inhibited .noEnd → ch'.state = .inhibited (.openEnd .expired)) ∧
       ((∃ a, ch.state = .unlockWait a ∨ ch.state = .unlocking a) ∨ ch.state = .released ∨ ch.state = .off →
         ch'.state = ch.state ∧ g' = g)) ∧
      (let z' := z.endRelease cfg c
       let ch' := z'.channels.get c
       ch'.release = false ∧
       (ch.state = .released → cfg.kind c = .cabin → z.doorOpen cfg c = true → ch'.state = .openHold .waitClose) ∧
       (ch.state = .released → cfg.kind c = .gate ∨ z.doorOpen cfg c = false → cfg.timing.relockDelay ≠ 0 →
         ch'.state = .openHold (.relockDelay (cfg.timing.relockDelay * 1000))) ∧
       ((∃ a, ch.state = .unlockWait a) → ch'.state = .unlockWait .expired) ∧
       ((∃ a, ch.state = .unlocking a) → ch'.state = .unlocking .expired) ∧
       (ch.state ≠ .released → (∀ a, ch.state ≠ .unlockWait a ∧ ch.state ≠ .unlocking a) → ch'.state = ch.state)))

/-- A claim, a door that opens or closes, and ISOLATE change no channel but their own and those that wait in its group for a slot, no
arbiter but that of its group, and no lane but one that names such a channel as its gate (R50, R54, R55, R61 to R65, R73). -/
def Obligations.AnOperationOfAChannelStaysInItsGroup : Prop :=
  ∀ (cfg : Setup) (c : Chan) (z : Zone), z.orderly →
    z.changesAround cfg c (z.openClaim cfg c) ∧ z.changesAround cfg c (z.relockClaim cfg c) ∧
    z.changesAround cfg c (z.releaseClaim cfg c) ∧ z.changesAround cfg c (z.endRelease cfg c) ∧
    z.changesAround cfg c (z.doorOpens cfg c) ∧ z.changesAround cfg c (z.doorCloses cfg c) ∧
    z.changesAround cfg c (z.isolate cfg c)

/-! ## Channels -/

/-- CHANNEL OPEN makes an open claim, or is refused in the order of its rule; CHANNEL LOCKOUT writes the lockout marker alone (R51,
R59). The relock test at the close of a request that may open a channel is named (log entry 13); the octets of the two flags are the
model's choice (log entry 8). -/
def Obligations.ChannelOpenAndChannelLockout : Prop :=
  ∀ (tag : Octet) (n v : Nat) (s : Machine.State), tag ≠ 0 → n < 256 → v < 256 →
    (let f : Frame := ⟨0x09, tag, be 1 n ++ be 1 v⟩
     let u := s.arrive f
     s.hasTurn f →
      (32 ≤ n ∨ 2 ≤ v → exec (.channelOpen tag f.body) s = .next (u.relockTest.answered f ⟨.range, []⟩)) ∧
      (∀ c : Chan, c.val = n → v < 2 →
        let ch := s.zone.channels.get c
        let barred := s.evac.state = .evacuation ∨ s.setup.kind c ≠ .cabin ∨ ch.state = .off ∨ ch.state = .released ∨
          (∃ t, ch.state = .inhibited t) ∨ ch.state = .fault ∧ s.setup.policy.scope.get (groupOf c) = .group
        let z := s.zone.openClaim s.setup c
        (s.mode = .maintenance →
          exec (.channelOpen tag f.body) s = .next (u.relockTest.answered f ⟨.maintenance, []⟩)) ∧
        (s.mode = .normal → barred → exec (.channelOpen tag f.body) s = .next (u.relockTest.answered f ⟨.state, []⟩)) ∧
        (s.mode = .normal → ¬barred → ch.privacy = true → v = 0 →
          exec (.channelOpen tag f.body) s = .next (u.relockTest.answered f ⟨.privacy, []⟩)) ∧
        (s.mode = .normal → ¬barred → ch.privacy = false ∨ v = 1 →
          exec (.channelOpen tag f.body) s = .next
            ({ u with zone := z }.relockTest.answered f ⟨.ok, be 1 (z.channels.get c).state.code⟩)))) ∧
    (let f : Frame := ⟨0x0A, tag, be 1 n ++ be 1 v⟩
     let u := s.arrive f
     s.hasTurn f →
      (32 ≤ n ∨ 2 ≤ v → exec (.channelLockout tag f.body) s = .next (u.answered f ⟨.range, []⟩)) ∧
      (∀ c : Chan, c.val = n → v < 2 →
        exec (.channelLockout tag f.body) s = .next
          ({ u with zone := { s.zone with
              channels := vset s.zone.channels c { s.zone.channels.get c with lockout := decide (v = 1) } } }.answered f
            ⟨.ok, be 1 v⟩)))

/-- The withdrawn sense ends an unlocking drive in OPEN_HOLD or RELEASED and the home sense a locking drive in LOCKED; the slot
is released. Elsewhere a sense that is not lost at the end where the channel rests is taken alone (R49, R52, R53, R55). A gate's fresh
hold is reported to its lane (R93). The pin that a sense writes (log entry 6), senses that are independent of each other (log entry
20) and the OFF channel, whose pin alone changes (log entry 21), are the model's choice. -/
def Obligations.TheBoltSensesEndTheDrive : Prop :=
  ∀ (c : Chan) (v : Bool) (s : Machine.State), s.zone.orderly →
    let ch := s.zone.channels.get c
    let cfg := s.setup
    (let p := { s with pins := { s.pins with withdrawn := vset s.pins.withdrawn c v } }
     (ch.state = .off → exec (.boltWithdrawnSense c v) s = .next p) ∧
     (ch.state ≠ .off → ch.state.isOpenHold = false ∨ ch.withdrawn = false ∨ v = true →
       (∀ a, ch.state = .unlocking a → v = false) →
       exec (.boltWithdrawnSense c v) s = .next
         ({ p with zone := { s.zone with channels := vset s.zone.channels c { ch with withdrawn := v } } }.closeZone)) ∧
     (∀ a, ch.state = .unlocking a →
       ∃ z, exec (.boltWithdrawnSense c true) s = .next
           ({ s with pins := { s.pins with withdrawn := vset s.pins.withdrawn c true }, zone := z }.closeZone) ∧
         s.zone.changesAround cfg c z ∧
         let ch' := z.channels.get c
         let g' := z.groups.get (groupOf c)
         ch'.withdrawn = true ∧
         (ch'.state.drives = false → ch'.driveLeft = none ∧ g'.slot0 ≠ some c ∧ g'.slot1 ≠ some c) ∧
         (ch.release = true → ch'.state = .released) ∧
         (ch.release = false → cfg.kind c = .cabin → a = .fresh →
           ch'.state = .openHold (.holding (cfg.timing.holdTime * 1000))) ∧
         (ch.release = false → cfg.kind c = .cabin → a = .expired → s.zone.doorOpen cfg c = true →
           ch'.state = .openHold .waitClose) ∧
         (ch.release = false → a = .expired → cfg.kind c = .gate ∨ s.zone.doorOpen cfg c = false →
           cfg.timing.relockDelay ≠ 0 → ch'.state = .openHold (.relockDelay (cfg.timing.relockDelay * 1000))) ∧
         (ch.release = false → a = .expired → cfg.kind c = .gate ∨ s.zone.doorOpen cfg c = false →
           cfg.timing.relockDelay = 0 → (s.zone.groups.get (groupOf c)).inhibited = false →
           (s.zone.groups.get (groupOf c)).queue = [] → ch.home = false → ch'.state = .locking) ∧
         (ch.release = false → cfg.kind c = .gate → a = .fresh →
           (s.zone.laneOf cfg c = none → ch'.state = .openHold .laneHeld) ∧
           (∀ l, s.zone.laneOf cfg c = some l →
             let lane := (s.zone.lanes.get l).state
             let lane' := (z.lanes.get l).state
             let window := some (cfg.timing.passWindow * 1000)
             (∀ m, lane = .released m →
               ch'.state = .openHold .laneHeld ∧ lane' = .released { m with window := window }) ∧
             (∀ m, lane = .closing m → ch'.state = .openHold .laneHeld ∧ lane' = .closing { m with window := window }) ∧
             (∀ r, lane = .heldOpen r → ch'.state = .openHold .laneHeld) ∧
             (lane = .ready ∨ lane = .closed → cfg.timing.relockDelay ≠ 0 →
               ch'.state = .openHold (.relockDelay (cfg.timing.relockDelay * 1000))))))) ∧
    (let p := { s with pins := { s.pins with home := vset s.pins.home c v } }
     (ch.state = .off → exec (.boltHomeSense c v) s = .next p) ∧
     (ch.state ≠ .off → ch.state ≠ .locked ∨ ch.home = false ∨ v = true → (ch.state = .locking → v = false) →
       exec (.boltHomeSense c v) s = .next
         ({ p with zone := { s.zone with channels := vset s.zone.channels c { ch with home := v } } }.closeZone)) ∧
     (ch.state = .locking →
       ∃ z, exec (.boltHomeSense c true) s = .next
           ({ s with pins := { s.pins with home := vset s.pins.home c true }, zone := z }.closeZone) ∧
         s.zone.changesAround cfg c z ∧
         let ch' := z.channels.get c
         let g' := z.groups.get (groupOf c)
         ch'.home = true ∧ ch'.state = .locked ∧ ch'.driveLeft = none ∧ g'.slot0 ≠ some c ∧ g'.slot1 ≠ some c))

/-- The hold timer gives an expired hold, the relock delay a request for a slot, and the door-held timer the HELD alarm; an
expiry of a timer that does not run does nothing (R53, R54, R57; log entry 3). The request is answered by the arbiter (R62), by
INHIBITED in an inhibited group (R79), or, with the bolt home already, by LOCKED (R55); a relock delay of 0 is no delay (R54). -/
def Obligations.TheChannelTimersRunOut : Prop :=
  ∀ (c : Chan) (s : Machine.State), s.zone.orderly →
    let ch := s.zone.channels.get c
    let cfg := s.setup
    let g := s.zone.groups.get (groupOf c)
    let requests := fun z : Zone =>
      let ch' := z.channels.get c
      let g' := z.groups.get (groupOf c)
      let timed := ch'.driveLeft = some cfg.timing.driveTimeout
      (g.inhibited = true → ch'.state = .inhibited .closedEnd ∧ c ∉ g'.queue) ∧
      (g.inhibited = false → g.slot0 ≠ none → g.slot1 ≠ none →
        ch'.state = .lockWait ∧ g' = { g with queue := g.queue ++ [c] }) ∧
      (g.inhibited = false → g.queue = [] → ch.home = false →
        (g.slot0 = none → ch'.state = .locking ∧ g' = { g with slot0 := some c } ∧ timed) ∧
        (g.slot0 ≠ none → g.slot1 = none → ch'.state = .locking ∧ g' = { g with slot1 := some c } ∧ timed)) ∧
      (g.inhibited = false → g.queue = [] → g.slot0 = none ∨ g.slot1 = none → ch.home = true →
        ch'.state = .locked ∧ c ∉ g'.queue ∧ g'.slot0 ≠ some c ∧ g'.slot1 ≠ some c)
    ((∀ n, ch.state ≠ .openHold (.holding n)) → exec (.holdTimerExpiry c) s = .next s) ∧
    (∀ n, ch.state = .openHold (.holding n) → cfg.kind c = .cabin →
      ∃ z, exec (.holdTimerExpiry c) s = .next ({ s with zone := z }.closeZone) ∧ s.zone.changesAround cfg c z ∧
        (s.zone.doorOpen cfg c = true → (z.channels.get c).state = .openHold .waitClose) ∧
        (s.zone.doorOpen cfg c = false → cfg.timing.relockDelay ≠ 0 →
          (z.channels.get c).state = .openHold (.relockDelay (cfg.timing.relockDelay * 1000))) ∧
        (s.zone.doorOpen cfg c = false → cfg.timing.relockDelay = 0 → requests z)) ∧
    ((∀ n, ch.state ≠ .openHold (.relockDelay n)) → exec (.relockDelayExpiry c) s = .next s) ∧
    (∀ n, ch.state = .openHold (.relockDelay n) →
      ∃ z, exec (.relockDelayExpiry c) s = .next ({ s with zone := z }.closeZone) ∧ s.zone.changesAround cfg c z ∧
        requests z) ∧
    (ch.doorHeld = none → exec (.doorHeldExpiry c) s = .next s) ∧
    (∀ n, ch.doorHeld = some n →
      exec (.doorHeldExpiry c) s = .next
        (({ s with zone := { s.zone with
            channels := vset s.zone.channels c { ch with doorHeld := none, heldReported := true } } }.raise (.held c)).close))

/-- The qualified contact of a CABIN door: FORCED in LOCKED, the door-held timer in OPEN_HOLD, the closing stages stopped,
WAIT_CLOSE ended, and the field alone in every other state; a pulse of a CABIN channel in EDGE mode, which is none while the level is
active already; the contact of a gate, which gives its passage edge and raises no alarm; and the privacy input (R49, R54 to R60). The
pin that an input writes (log entry 6) and the OFF channel, whose pin alone changes (log entry 21), are the model's choice. -/
def Obligations.DoorAndPrivacyInputs : Prop :=
  ∀ (c : Chan) (high : Bool) (s : Machine.State), s.zone.orderly →
    let ch := s.zone.channels.get c
    let cfg := s.setup
    let x := cfg.channels.get c
    (let p := { s with pins := { s.pins with contact := vset s.pins.contact c high } }
     let put := fun ch' : Channel => { p with zone := { s.zone with channels := vset s.zone.channels c ch' } }
     (ch.state = .off → exec (.contactQualified c high) s = .next p) ∧
     (ch.state ≠ .off → cfg.kind c = .cabin → x.mode = .level →
       ((high = x.contactHigh ↔ ch.contact = true) →
         exec (.contactQualified c high) s = .next (put { ch with contactQual := none }).closeZone) ∧
       (high = x.contactHigh → ch.contact = false → ch.state = .locked →
         exec (.contactQualified c high) s = .next
           ((put { ch with contactQual := none, contact := true }).raise (.forced c)).closeZone) ∧
       (∀ n, high = x.contactHigh → ch.contact = false → ch.state = .openHold (.relockDelay n) →
         exec (.contactQualified c high) s = .next
           (put { ch with contactQual := none, contact := true, state := .openHold .waitClose,
                          doorHeld := some (cfg.timing.doorHeld * 1000), driveLeft := none, oc := none }).closeZone) ∧
       (∀ st, high = x.contactHigh → ch.contact = false → ch.state = .openHold st → (∀ n, st ≠ .relockDelay n) →
         exec (.contactQualified c high) s = .next
           (put { ch with contactQual := none, contact := true,
                          doorHeld := some (cfg.timing.doorHeld * 1000) }).closeZone) ∧
       (high = x.contactHigh → ch.contact = false → ch.state = .lockWait ∨ ch.state = .locking ∧ ch.withdrawn = false →
         ∃ z, exec (.contactQualified c high) s = .next ({ p with zone := z }.closeZone) ∧ s.zone.changesAround cfg c z ∧
           (z.channels.get c).contact = true ∧
           (ch.state = .lockWait → (z.channels.get c).state = .openHold .waitClose ∧
             (z.channels.get c).doorHeld = some (cfg.timing.doorHeld * 1000) ∧
             c ∉ (z.groups.get (groupOf c)).queue) ∧
           (ch.state = .locking → (z.channels.get c).state = .unlocking .expired)) ∧
       (high = x.contactHigh → ch.contact = false → ch.state = .locking → ch.withdrawn = true →
         ∃ z, exec (.contactQualified c high) s = .next ({ p with zone := z }.closeZone) ∧ s.zone.changesAround cfg c z ∧
           let g' := z.groups.get (groupOf c)
           (z.channels.get c).contact = true ∧ c ∉ g'.queue ∧ g'.slot0 ≠ some c ∧ g'.slot1 ≠ some c ∧
           (ch.release = true → (z.channels.get c).state = .released) ∧
           (ch.release = false → (z.channels.get c).state = .openHold .waitClose ∧
             (z.channels.get c).doorHeld = some (cfg.timing.doorHeld * 1000))) ∧
       (high = x.contactHigh → ch.contact = false → ch.state ≠ .locked → ch.state.isOpenHold = false →
         ch.state ≠ .lockWait → ch.state ≠ .locking →
         exec (.contactQualified c high) s = .next (put { ch with contactQual := none, contact := true }).closeZone) ∧
       (high ≠ x.contactHigh → ch.contact = true → ch.state ≠ .openHold .waitClose →
         exec (.contactQualified c high) s = .next
           (put { ch with contactQual := none, contact := false, doorHeld := none, heldReported := false }).closeZone) ∧
       (high ≠ x.contactHigh → ch.contact = true → ch.state = .openHold .waitClose →
         ∃ z, exec (.contactQualified c high) s = .next ({ p with zone := z }.closeZone) ∧ s.zone.changesAround cfg c z ∧
           let g := s.zone.groups.get (groupOf c)
           let st' := (z.channels.get c).state
           (z.channels.get c).contact = false ∧ (z.channels.get c).doorHeld = none ∧
           (z.channels.get c).heldReported = false ∧
           (cfg.timing.relockDelay ≠ 0 → st' = .openHold (.relockDelay (cfg.timing.relockDelay * 1000))) ∧
           (cfg.timing.relockDelay = 0 →
             (g.inhibited = true → st' = .inhibited .closedEnd) ∧
             (g.inhibited = false → g.slot0 ≠ none → g.slot1 ≠ none →
               st' = .lockWait ∧ z.groups.get (groupOf c) = { g with queue := g.queue ++ [c] }) ∧
             (g.inhibited = false → g.queue = [] → g.slot0 = none ∨ g.slot1 = none →
               st' = if ch.home then .locked else .locking)))) ∧
     (ch.state ≠ .off → cfg.kind c = .cabin → x.mode = .edge →
       (high = x.contactHigh → ch.contact = false → ch.state = .locked →
         exec (.contactQualified c high) s = .next
           ((put { ch with contactQual := none, contact := true }).raise (.forced c)).closeZone) ∧
       (high ≠ x.contactHigh ∨ ch.contact = true ∨ ch.state ≠ .locked →
         exec (.contactQualified c high) s = .next
           (put { ch with contactQual := none, contact := high == x.contactHigh }).closeZone)) ∧
     (ch.state ≠ .off → cfg.kind c = .gate →
       (high = x.contactHigh → ch.contact = false →
         exec (.contactQualified c high) s = exec (.passageEdge c) p) ∧
       (high ≠ x.contactHigh ∨ ch.contact = true →
         exec (.contactQualified c high) s = .next
           (put { ch with contactQual := none, contact := high == x.contactHigh }).closeZone))) ∧
    (let p := { s with pins := { s.pins with privacy := vset s.pins.privacy c high } }
     (ch.state = .off ∨ cfg.kind c ≠ .cabin → exec (.privacyQualified c high) s = .next p) ∧
     (ch.state ≠ .off → cfg.kind c = .cabin →
       exec (.privacyQualified c high) s = .next
         { p with zone := { s.zone with
             channels := vset s.zone.channels c { ch with privacy := high == x.privacyHigh, privacyQual := none } } }))

/-- A fault of a channel, with the scope applied: a record with one fault more, a FAULT notice, and the channel in FAULT with no
slot (ISOLATE) or the whole group INHIBITED with the fault latch set (GROUP), each channel with the target end that the table of
R74 gives its state; RELEASED, which that table does not list, is a state of EVACUATION, where GROUP scope is not applied. A gate's
drive fault abandons the movement of its lane, RELEASED or CLOSING, with a LANE notice of the lane state after it, and the lane's
relock claim makes the target end of its INHIBITED gate closed (R61, R71 to R75, R97). That the scope is applied before that claim
is log entry 25. -/
def Obligations.AFaultStopsItsChannelOrItsGroup : Prop :=
  ∀ (c : Chan) (k : FaultKind) (s : Machine.State), s.zone.orderly →
    let r := (s.zone.channels.get c).record
    let cfg := s.setup
    let sc := if s.evac.state = .evacuation then .isolate else cfg.policy.scope.get (groupOf c)
    let t := s.takeFault c k
    let ch' := t.zone.channels.get c
    let moving := fun (l : LaneNo) (m : Movement) => s.zone.laneOf cfg c = some l ∧
      ((s.zone.lanes.get l).state = .released m ∨ (s.zone.lanes.get l).state = .closing m)
    let abandons := k ≠ .positionLost ∧ ∃ l m, moving l m
    (ch'.record = if r.kinds.isEmpty then ⟨r.kinds.add k, s.clock.time, 1⟩
      else { r with kinds := r.kinds.add k, count := satInc r.count }) ∧
    (¬abandons → t = { s with zone := t.zone, link := s.link.notify (.fault (groupOf c) (some c) (.taken k sc)) }) ∧
    (sc = .isolate → s.zone.changesAround cfg c t.zone ∧ ch'.state = .fault ∧ ch'.driveLeft = none ∧
      (let g' := t.zone.groups.get (groupOf c)
       c ∉ g'.queue ∧ g'.slot0 ≠ some c ∧ g'.slot1 ≠ some c ∧ g'.latch = (s.zone.groups.get (groupOf c)).latch)) ∧
    (sc = .group →
      (let g' := t.zone.groups.get (groupOf c)
       g'.latch = true ∧ g'.queue = [] ∧ g'.slot0 = none ∧ g'.slot1 = none) ∧
      (∀ g, g ≠ groupOf c → t.zone.groups.get g = s.zone.groups.get g) ∧
      (∀ l, (∀ m, ¬moving l m) → t.zone.lanes.get l = s.zone.lanes.get l) ∧
      (∀ d, groupOf d ≠ groupOf c → t.zone.channels.get d = s.zone.channels.get d) ∧
      (∀ d, groupOf d = groupOf c → (s.zone.channels.get d).state ≠ .off →
        ∃ target, (t.zone.channels.get d).state = .inhibited target) ∧
      (∀ d, groupOf d = groupOf c → (s.zone.channels.get d).state ≠ .off → (s.zone.channels.get d).state ≠ .released →
        let target : Target := match (s.zone.channels.get d).state with
          | .locked => .closedEnd
          | .unlockWait a => .openEnd a
          | .unlocking a => .openEnd a
          | .openHold .laneHeld => if cfg.kind d = .gate then .openEnd .fresh else .openEnd .expired
          | .openHold _ => .openEnd .expired
          | .lockWait => .closedEnd
          | .locking => .closedEnd
          | .inhibited x => x
          | _ => .noEnd
        (d ≠ c ∨ (s.zone.channels.get c).release = true ∨ ¬abandons → (t.zone.channels.get d).state = .inhibited target) ∧
        (d = c → (s.zone.channels.get c).release = false → abandons →
          (t.zone.channels.get d).state = .inhibited .closedEnd))) ∧
    (∀ l m, moving l m → k ≠ .positionLost →
      let after := if (s.zone.lanes.get l).state = .released m then LaneState.ready else .closed
      t.zone.lanes.get l =
        { s.zone.lanes.get l with state := after, abandoned := satInc (s.zone.lanes.get l).abandoned } ∧
      t.link = (s.link.notify (.fault (groupOf c) (some c) (.taken k sc))).notify
        (.lane l m.card m.dir m.accepted .gateFault after) ∧
      (∀ e, s.known m.card = some e →
        t.known m.card = some { e with engaged := if e.engaged = some (.movement l) then none else e.engaged }) ∧
      t = { s with cards := t.cards, tally := t.tally, folios := t.folios, zone := t.zone, link := t.link })

/-- The drive timer, the over-current qualifier and the position watch take their fault, unless it is masked; where they do not
run they do nothing (R68 to R71; log entry 3). That POSITION_LOST clears its sense (log entry 20) and the pin of that sense (log entry
6) is the model's choice. -/
def Obligations.TheProtectionEventsTakeTheirFault : Prop :=
  ∀ (c : Chan) (s : Machine.State),
    let ch := s.zone.channels.get c
    let mask := s.setup.policy.mask
    let put := fun ch' : Channel => { s with zone := { s.zone with channels := vset s.zone.channels c ch' } }
    (ch.driveLeft = none ∨ ch.state.drives = false → exec (.driveTimeout c) s = .next s) ∧
    (∀ n k, ch.driveLeft = some n →
      (∃ a, ch.state = .unlocking a) ∧ k = .jamOpening ∨ ch.state = .locking ∧ k = .jamClosing →
      (mask.has k = false →
        exec (.driveTimeout c) s = .next ((put { ch with driveLeft := none }).takeFault c k).closeZone) ∧
      (mask.has k = true → exec (.driveTimeout c) s = .next (put { ch with driveLeft := none }).closeZone)) ∧
    (ch.state.drives = false → exec (.overcurrentQualified c) s = .next s) ∧
    (ch.state.drives = true →
      (mask.overcurrent = false → exec (.overcurrentQualified c) s = .next (s.takeFault c .overcurrent).closeZone) ∧
      (mask.overcurrent = true → exec (.overcurrentQualified c) s = .next s.closeZone)) ∧
    (ch.state ≠ .locked → ch.state.isOpenHold = false → exec (.positionLost c) s = .next s) ∧
    (let p := { put { ch with home := false } with pins := { s.pins with home := vset s.pins.home c false } }
     ch.state = .locked →
      (ch.home = true → mask.positionLost = false →
        exec (.positionLost c) s = .next (p.takeFault c .positionLost).closeZone) ∧
      (ch.home = false ∨ mask.positionLost = true → exec (.positionLost c) s = .next p.closeZone)) ∧
    (let p := { put { ch with withdrawn := false } with pins := { s.pins with withdrawn := vset s.pins.withdrawn c false } }
     ∀ st, ch.state = .openHold st →
      (ch.withdrawn = true → mask.positionLost = false →
        exec (.positionLost c) s = .next (p.takeFault c .positionLost).closeZone) ∧
      (ch.withdrawn = false ∨ mask.positionLost = true → exec (.positionLost c) s = .next p.closeZone))

/-- A rail that falls inhibits its group, and a rail that comes good, with no fault latch set, lets its INHIBITED channels resume
toward their targets; a monitor held by the rail mask takes no undervoltage (R77 to R80). A channel that resumes at its open end
takes the hold it kept, as at the end of a drive (R53, R93). The pin that a rail writes (log entry 6), and that a RAIL_GOOD or
RAIL_UNDERVOLTAGE which finds its monitor there already does nothing and else acts at once (log entry 3), are the model's choice. -/
def Obligations.RailsInhibitAndRecover : Prop :=
  ∀ (g : Grp) (s : Machine.State), s.zone.orderly →
    let x := s.zone.groups.get g
    (let p := { s with pins := { s.pins with railGood := vset s.pins.railGood g false } }
     (s.setup.policy.railMask = true ∨ x.rail = .undervoltage → exec (.railUndervoltage g) s = .next p) ∧
     (s.setup.policy.railMask = false → x.rail = .good →
       ∃ z, exec (.railUndervoltage g) s = .next
           ({ p with zone := z, link := s.link.notify (.fault g none .undervoltage) }.closeZone) ∧
         z.lanes = s.zone.lanes ∧ (∀ g', g' ≠ g → z.groups.get g' = s.zone.groups.get g') ∧
         z.groups.get g =
           { x with rail := .undervoltage, railCount := 0, slot0 := none, slot1 := none, queue := [] } ∧
         ∀ d : Chan,
           (groupOf d ≠ g → z.channels.get d = s.zone.channels.get d) ∧
           (groupOf d = g → (z.channels.get d).state = match (s.zone.channels.get d).state with
             | .unlocking a => .inhibited (.openEnd a)
             | .unlockWait a => .inhibited (.openEnd a)
             | .locking => .inhibited .closedEnd
             | .lockWait => .inhibited .closedEnd
             | .fault => .inhibited .noEnd
             | st => st))) ∧
    (let p := { s with pins := { s.pins with railGood := vset s.pins.railGood g true } }
     let x' := { x with rail := .good, railCount := 0, railSettled := true }
     (x.rail = .good → exec (.railGood g) s = .next p) ∧
     (x.rail = .undervoltage → x.latch = true →
       exec (.railGood g) s = .next ({ p with zone := { s.zone with groups := vset s.zone.groups g x' } }.closeZone)) ∧
     (x.rail = .undervoltage → x.latch = false →
       ∃ z, exec (.railGood g) s = .next
           ({ p with
               zone := z
               link := if x.railSettled then s.link.notify (.fault g none .recovered) else s.link }.closeZone) ∧
         (z.groups.get g).rail = .good ∧ (∀ g', g' ≠ g → z.groups.get g' = s.zone.groups.get g') ∧
         ∀ d : Chan,
           (groupOf d ≠ g → z.channels.get d = s.zone.channels.get d) ∧ (groupOf d = g → s.zone.resumes s.setup d z)))

/-- FAULT READ returns the record of a channel and its group; with clear it empties the record, and then does what the table of R76
says: it releases the fault latch when all eight records of the group are empty, the group then recovers when its rail is good
(R80), and it places a channel in FAULT by its bolt senses (R64, R67). The relock test is named (log entry 13); the four marks for
the fault kinds (log entry 9), the octets of marks and flags (log entry 8) and the arrival hold EXPIRED of a channel placed under
its release marker (log entry 12) are the model's choice. -/
def Obligations.FaultReadReturnsAndClears : Prop :=
  ∀ (tag : Octet) (n v : Nat) (s : Machine.State), tag ≠ 0 → n < 256 → v < 256 →
    let f : Frame := ⟨0x0C, tag, be 1 n ++ be 1 v⟩
    let u := s.arrive f
    s.hasTurn f →
      (32 ≤ n ∨ 2 ≤ v → exec (.faultRead tag f.body) s = .next (u.relockTest.answered f ⟨.range, []⟩)) ∧
      (∀ c : Chan, c.val = n → v < 2 →
        let g := groupOf c
        let x := s.zone.groups.get g
        let ch := s.zone.channels.get c
        let scope := s.setup.policy.scope.get g
        let reply : Bool → Bool → Reply := fun latch inhibited =>
          ⟨.ok, be 1 (if ch.record.kinds.jamOpening then 1 else 0) ++ be 1 (if ch.record.kinds.jamClosing then 1 else 0) ++
            be 1 (if ch.record.kinds.overcurrent then 1 else 0) ++ be 1 (if ch.record.kinds.positionLost then 1 else 0) ++
            be 4 ch.record.first.toNat ++ be 2 ch.record.count ++ be 1 x.rail.code ++ be 1 (if latch then 1 else 0) ++
            be 1 (if inhibited then 1 else 0) ++ be 1 scope.code ++ be 1 (s.setup.policy.ocMode.get g).code⟩
        let channels := vset s.zone.channels c { ch with record := ⟨⟨false, false, false, false⟩, 0, 0⟩ }
        let others := ∀ d, groupOf d = g → d ≠ c → (s.zone.channels.get d).record.kinds = ⟨false, false, false, false⟩
        (v = 0 → exec (.faultRead tag f.body) s = .next (u.relockTest.answered f (reply x.latch x.inhibited))) ∧
        (v = 1 → x.latch = true → ¬others →
          exec (.faultRead tag f.body) s = .next
            ({ u with zone := { s.zone with channels := channels } }.relockTest.answered f (reply true true))) ∧
        (v = 1 → x.latch = false → ch.state ≠ .fault ∨ scope = .isolate ∨ x.rail = .undervoltage →
          exec (.faultRead tag f.body) s = .next
            ({ u with zone := { s.zone with channels := channels } }.relockTest.answered f (reply false x.inhibited))) ∧
        (v = 1 → x.latch = true → others → x.rail = .undervoltage →
          exec (.faultRead tag f.body) s = .next
            ({ u with
                zone := { s.zone with channels := channels, groups := vset s.zone.groups g { x with latch := false } }
                link := u.link.notify (.fault g none .latchReleased) }.relockTest.answered f (reply false true))) ∧
        (v = 1 → x.latch = true → others → x.rail = .good →
          ∃ z, exec (.faultRead tag f.body) s = .next
              ({ u with
                  zone := z
                  link := (u.link.notify (.fault g none .latchReleased)).notify
                    (.fault g none .recovered) }.relockTest.answered f (reply false false)) ∧
            (z.groups.get g).latch = false ∧ (z.channels.get c).record.kinds = ⟨false, false, false, false⟩ ∧
            (s.zone.orderly → (∀ g', g' ≠ g → z.groups.get g' = s.zone.groups.get g') ∧
              ∀ d, (groupOf d ≠ g → z.channels.get d = s.zone.channels.get d) ∧
                (groupOf d = g → { s.zone with channels := channels }.resumes s.setup d z))) ∧
        (v = 1 → x.latch = false → x.rail = .good → ch.state = .fault → scope = .group → s.zone.orderly →
          ∃ z, exec (.faultRead tag f.body) s = .next
              ({ u with zone := z }.relockTest.answered f (reply false false)) ∧
            s.zone.changesAround s.setup c z ∧ (z.channels.get c).record.kinds = ⟨false, false, false, false⟩ ∧
            (let st' := (z.channels.get c).state
             (ch.release = false → s.setup.inUse c = false → st' = .off) ∧
             (ch.release = false → s.setup.inUse c = true →
               (ch.home = true → st' = .locked) ∧ (ch.home = false → s.zone.relocking s.setup c false st')) ∧
             (ch.release = true → ch.withdrawn = true → st' = .released) ∧
             (ch.release = true → ch.withdrawn = false → st' = .unlockWait .expired ∨ st' = .unlocking .expired))))

/-! ## Alarms and passages -/

/-- An alarm of a disabled kind leaves no trace; one of an enabled kind repeats the record of its kind and source, joins the list as a
new record, or, with 64 records and none of its own, sets the overflow flag, and its ALARM notice says which (R82 to R84). A notice
joins the tail of the notice queue, or is dropped and counted when the queue holds 64 (R180). -/
def Obligations.AnAlarmAndANoticeAreTaken : Prop :=
  (∀ (a : Alarm) (s : Machine.State),
    let rs := s.alarms.records
    let now := s.clock.time
    let more := fun n : Nat => if n < 65535 then n + 1 else n
    let on := s.setup.alarmOn.get a.kind.code = true
    (¬on → s.raise a = s) ∧
    (∀ r, on → s.alarms.law → r ∈ rs → r.alarm = a →
      s.raise a = { s with
        alarms := { s.alarms with
          records := rs.map fun x : AlarmRecord => if x.alarm = a then { x with last := now, count := more x.count } else x }
        link := s.link.notify (.alarm a now (more r.count) .repeated (!s.clock.valid)) }) ∧
    (on → (∀ r ∈ rs, r.alarm ≠ a) → rs.length < 64 →
      s.raise a = { s with
        alarms := { s.alarms with records := rs ++ [⟨a, now, now, 1⟩] }
        link := s.link.notify (.alarm a now 1 .new (!s.clock.valid)) }) ∧
    (on → (∀ r ∈ rs, r.alarm ≠ a) → 64 ≤ rs.length →
      s.raise a = { s with
        alarms := { s.alarms with overflow := true }
        link := s.link.notify (.alarm a now 0 .notLatched (!s.clock.valid)) })) ∧
  (∀ (n : Notice) (k : Link),
    (k.notices.length < 64 → k.notify n = { k with notices := k.notices ++ [n] }) ∧
    (64 ≤ k.notices.length →
      k.notify n = { k with droppedNotices := if k.droppedNotices < 65535 then k.droppedNotices + 1 else k.droppedNotices }))

/-- ALARM CLEAR removes the record of a kind and source, or all records; ALARM ENABLE sets the enable of a kind, and a disable
removes its records. Clearing room clears the overflow flag, and a kind, a source or a value out of range is refused RANGE (R83,
R84, R86). The body of ALARM CLEAR (log entry 9) and the octets of its flag and of the enables (log entry 8) are the model's
choice. -/
def Obligations.AlarmClearAndAlarmEnable : Prop :=
  ∀ (tag : Octet) (s : Machine.State), tag ≠ 0 →
    (∀ body : List Octet, body.length = 9 →
      (let f : Frame := ⟨0x0E, tag, be 1 1 ++ body⟩
       s.hasTurn f →
       exec (.alarmClear tag f.body) s = .next
         ({ s.arrive f with alarms := ⟨[], false⟩ }.answered f ⟨.ok, be 1 0⟩)) ∧
      (∀ n, 2 ≤ n → n < 256 →
        let f : Frame := ⟨0x0E, tag, be 1 n ++ body⟩
        s.hasTurn f → exec (.alarmClear tag f.body) s = .next ((s.arrive f).answered f ⟨.range, []⟩))) ∧
    (∀ a : Alarm, (a.kind = .revokedTap ∨ a.kind = .overstay → cardValid a.card = true) →
      let f : Frame := ⟨0x0E, tag, be 1 0 ++ be 1 a.kind.code.val ++ be 7 a.card.toNat ++ be 1 a.place⟩
      let left := s.alarms.records.filter (fun r : AlarmRecord => r.alarm ≠ a)
      s.hasTurn f →
        ((∀ r ∈ s.alarms.records, r.alarm ≠ a) →
          exec (.alarmClear tag f.body) s = .next ((s.arrive f).answered f ⟨.notFound, []⟩)) ∧
        (∀ r ∈ s.alarms.records, r.alarm = a →
          exec (.alarmClear tag f.body) s = .next
            ({ s.arrive f with alarms := ⟨left, s.alarms.overflow && decide (64 ≤ left.length)⟩ }.answered f
              ⟨.ok, be 1 left.length⟩))) ∧
    (∀ (kind place : Nat) (card : CardNo), kind < 256 → place < 256 →
      8 ≤ kind ∨ kind ≤ 1 ∧ 32 ≤ place ∨ 2 ≤ kind ∧ kind ≤ 5 ∧ (place = 0 ∨ 48 < place) ∨ kind = 6 ∧ 4 ≤ place ∨
        (kind = 5 ∨ kind = 7) ∧ cardValid card = false →
      let f : Frame := ⟨0x0E, tag, be 1 0 ++ be 1 kind ++ be 7 card.toNat ++ be 1 place⟩
      s.hasTurn f → exec (.alarmClear tag f.body) s = .next ((s.arrive f).answered f ⟨.range, []⟩)) ∧
    (∀ kind v : Nat, 8 ≤ kind → kind < 256 → v < 256 →
      let f : Frame := ⟨0x0F, tag, be 1 kind ++ be 1 v⟩
      s.hasTurn f → exec (.alarmEnable tag f.body) s = .next ((s.arrive f).answered f ⟨.range, []⟩)) ∧
    (∀ (k : AlarmKind) (v : Nat), v < 256 →
      let f : Frame := ⟨0x0F, tag, be 1 k.code.val ++ be 1 v⟩
      let cfg := { s.setup with alarmOn := vset s.setup.alarmOn k.code (decide (v = 0)) }
      let left := s.alarms.records.filter (fun r : AlarmRecord => r.alarm.kind ≠ k)
      s.hasTurn f →
        (2 ≤ v → exec (.alarmEnable tag f.body) s = .next ((s.arrive f).answered f ⟨.range, []⟩)) ∧
        (v = 0 → exec (.alarmEnable tag f.body) s = .next
          ({ s.arrive f with setup := cfg }.answered f ⟨.ok, enableOctets cfg ++ be 1 0⟩)) ∧
        (v = 1 → exec (.alarmEnable tag f.body) s = .next
          ({ s.arrive f with
              setup := cfg
              alarms := ⟨left, s.alarms.overflow && decide (64 ≤ left.length)⟩ }.answered f
            ⟨.ok, enableOctets cfg ++ be 1 (s.alarms.records.length - left.length)⟩)))

/-- The passage edge of a gate commits the movement of its lane, or counts an unattributed passage and raises TAILGATE, or falls to
no one; the pass window abandons the movement. Each end of a movement leaves the zone with the new record of the lane and the
relock claim on its gate, and no other channel, arbiter or lane touched before that claim (R60, R61, R94 to R98). That a
PASSAGE_EDGE is always handed up and leaves the contact open (log entry 19), and that an event does nothing at a channel that is no
gate or a window that does not run (log entry 3), are the model's choice. -/
def Obligations.PassagesCommitAndWindowsAbandon : Prop :=
  (∀ (c : Chan) (s : Machine.State),
    let ch := s.zone.channels.get c
    let lane := s.zone.laneOf s.setup c
    let z0 := { s.zone with channels := vset s.zone.channels c { ch with contact := true, contactQual := none } }
    (s.setup.kind c ≠ .gate ∨ ch.state = .off → exec (.passageEdge c) s = .next s) ∧
    (s.setup.kind c = .gate → ch.state ≠ .off →
      (lane = none → exec (.passageEdge c) s = .next { s with zone := z0 }.closeZone) ∧
      (∀ l, lane = some l →
        let x := s.zone.lanes.get l
        (∀ r, x.state = .heldOpen r → exec (.passageEdge c) s = .next { s with zone := z0 }.closeZone) ∧
        (x.state = .ready ∨ x.state = .closed →
          exec (.passageEdge c) s = .next
            (({ s with zone := { z0 with
                lanes := vset s.zone.lanes l { x with unattributed := satInc x.unattributed } } }.raise
                  (.tailgate l)).closeZone)) ∧
        (∀ (m : Movement) (k : Known), x.state = .released m ∨ x.state = .closing m → s.known m.card = some k →
          let ended : Lane := { x with
            state := if x.state = .released m then .ready else .closed
            committedOut := if m.dir = .out then satInc x.committedOut else x.committedOut
            committedIn := if m.dir = .in then satInc x.committedIn else x.committedIn }
          let z1 : Zone := { z0 with lanes := vset s.zone.lanes l ended }
          ∃ t : Machine.State, exec (.passageEdge c) s = .next t.closeZone ∧
            t.zone = z1.relockClaim s.setup (s.setup.lanes.get l).gate ∧
            (t.zone.lanes.get l).state = (if x.state = .released m then .ready else .closed) ∧
            (t.zone.lanes.get l).committedOut = (if m.dir = .out then satInc x.committedOut else x.committedOut) ∧
            (t.zone.lanes.get l).committedIn = (if m.dir = .in then satInc x.committedIn else x.committedIn) ∧
            t.known m.card = some { k with
              presence := (if m.dir = .out then .ashore else .aboard)
              engaged := if k.engaged = some (.movement l) then none else k.engaged } ∧
            t.link = s.link.notify (.movement l m.card k.holder.category m.dir m.accepted s.clock.time
              (k.presence == if m.dir = .out then .aboard else .ashore) false (!s.clock.valid)) ∧
            t = { s with cards := t.cards, tally := t.tally, folios := t.folios, zone := t.zone, link := t.link })))) ∧
  (∀ (l : LaneNo) (s : Machine.State),
    let x := s.zone.lanes.get l
    ((∀ m, x.state = .released m ∨ x.state = .closing m → m.window = none) →
      exec (.passWindowExpiry l) s = .next s) ∧
    (∀ m : Movement, x.state = .released m ∨ x.state = .closing m → m.window ≠ none →
      let after := if x.state = .released m then LaneState.ready else .closed
      let z1 : Zone := { s.zone with lanes := vset s.zone.lanes l { x with state := after, abandoned := satInc x.abandoned } }
      ∃ t : Machine.State, exec (.passWindowExpiry l) s = .next t.closeZone ∧
        t.zone = z1.relockClaim s.setup (s.setup.lanes.get l).gate ∧
        (t.zone.lanes.get l).state = after ∧ (t.zone.lanes.get l).abandoned = satInc x.abandoned ∧
        (∀ k : Known, s.known m.card = some k →
          t.known m.card = some { k with engaged := if k.engaged = some (.movement l) then none else k.engaged }) ∧
        t.link = s.link.notify (.lane l m.card m.dir m.accepted .window after) ∧
        t = { s with cards := t.cards, tally := t.tally, folios := t.folios, zone := t.zone, link := t.link }))

/-! ## The two links -/

/-- The host link's events: octets, the gap timer, host-ready and the end of a frame (R173 to R175, R179). The transmitter, when it
is free and host-ready is high, begins the reply that was built earliest, or with none the head of the notice queue; the notices of
a start go before any reply (R179, R191). An event closes with the transmitter while the part runs, and during start-up no frame
begins (R179, R191). A frame takes the time of its octets at the rate in force, 10 bits each (R173), in whole milliseconds rounded
up (log entry 16). The gap of 21 whole milliseconds (log entry 16), the pin that host-ready writes (log entry 6) and a gap timeout
that finds the framer hunting and does nothing (log entry 3) are the model's choice. -/
def Obligations.TheHostLinkEventsAndItsTransmitter : Prop :=
  (∀ s : Machine.State,
     let k := s.link
     (∀ o : Octet, k.framer = .hunting →
       (o ≠ 0xC3 → exec (.hostOctetReceived o) s = .next { s with link := { k with strayOctets := satInc k.strayOctets } }) ∧
       (o = 0xC3 → exec (.hostOctetReceived o) s = .next { s with link := { k with framer := .inFrame [] 21 } })) ∧
     (∀ (o : Octet) (n : Nat), k.framer = .inFrame [] n →
       (o.toNat < 2 ∨ 242 < o.toNat →
         exec (.hostOctetReceived o) s =
           .next { s with link := { k with framer := .hunting, lengthErrors := satInc k.lengthErrors } }.close) ∧
       (2 ≤ o.toNat → o.toNat ≤ 242 →
         exec (.hostOctetReceived o) s = .next { s with link := { k with framer := .inFrame [o] 21 } }.close)) ∧
     (∀ (o len : Octet) (rest : List Octet) (n : Nat), k.framer = .inFrame (len :: rest) n → 2 ≤ len.toNat →
       len.toNat ≤ 242 → rest.length + 2 = len.toNat + 3 →
       let covered := len :: rest.dropLast
       be 2 (crc16 covered).toNat ≠ [rest.getLastD 0, o] →
       exec (.hostOctetReceived o) s =
         .next { s with link := { k with framer := .hunting, checkErrors := satInc k.checkErrors } }.close) ∧
     (k.framer = .hunting → exec .gapTimeout s = .next s) ∧
     (∀ got n, k.framer = .inFrame got n →
       exec .gapTimeout s = .next { s with link := { k with framer := .hunting, gapTimeouts := satInc k.gapTimeouts } }) ∧
     exec .hostReadyHigh s =
       .next { s with pins := { s.pins with hostReady := true }, link := { k with hostReady := true } }.close ∧
     exec .transmitFrameEnd s = .next { s with link := { k with tx := none } }.close ∧
     (s.phase = .running → s.close = { s with link := k.transmit }) ∧ (s.phase ≠ .running → s.close = s)) ∧
  (∀ (f : Frame) (rate : Rate),
    let bits := match rate with
      | .r57600 => 57600
      | .r115200 => 115200
      | .r230400 => 230400
      | .r460800 => 460800
    (f.body.length + 6) * 10 * 1000 ≤ f.ms rate * bits ∧ f.ms rate * bits < (f.body.length + 6) * 10 * 1000 + bits) ∧
  (∀ k : Link,
     (k.tx ≠ none ∨ k.hostReady = false → k.transmit = k) ∧
     (k.tx = none → k.hostReady = true →
       (∀ n ns, k.notices = n :: ns → 0 < k.lead ∨ takeAnswered k.queue = none ∧ k.busy = [] →
         k.transmit = { k with notices := ns, lead := k.lead - 1, tx := some ⟨n.frame, n.frame.ms k.rate⟩ }) ∧
       (∀ a q, k.lead = 0 ∨ k.notices = [] → takeAnswered k.queue = some (a, q) →
         (∀ b bs, k.busy = b :: bs → a.stamp < b.stamp) →
         k.transmit = { k with queue := q, tx := some ⟨a.frame, a.frame.ms k.rate⟩ }) ∧
       (∀ b bs, k.lead = 0 ∨ k.notices = [] → k.busy = b :: bs →
         (∀ a q, takeAnswered k.queue = some (a, q) → b.stamp ≤ a.stamp) →
         k.transmit = { k with busy := bs, tx := some ⟨b.frame, b.frame.ms k.rate⟩ }) ∧
       (takeAnswered k.queue = none → k.busy = [] → k.notices = [] → k.transmit = k)))

/-- The poll round: with the part running and no exchange in flight, the bus goes on with the next ACTIVE reader in ascending address
(an INDICATE that empties its slot, or a POLL), then the probe of the next ABSENT or LOST reader after the probe position, then, on a
round whose count is a multiple of 16, the probe of the next REJECTED one, and then the next round; an exchange that has no reader is
not made. While some reader is ACTIVE, ABSENT, LOST or REJECTED there is always a next exchange; while every reader is UNASSIGNED the
bus is silent (R166, R169). That the next exchange begins at once and that a round which stops goes on where it stood are the
model's choice (log entry 15). -/
def Obligations.ThePollRound : Prop :=
  ∀ s : Machine.State,
    let b := s.bus
    let enrol := fun r => (s.readers.get r).enrol
    let probed := fun r => enrol r = .absent ∨ enrol r = .lost
    let after := fun (pos r : ReaderNo) => (r.val + 47 - pos.val) % 48
    let at_ := fun (round : Nat) (stage : RoundStage) => { s with bus := { b with round := round, stage := stage } }
    (b.exchange ≠ none ∨ s.phase ≠ .running ∨ (∀ r, enrol r = .unassigned) → s.busOn = s) ∧
    (b.exchange = none → s.phase = .running →
      (∀ i r, b.stage = .polls i → i ≤ r.val → enrol r = .active → (∀ r', i ≤ r'.val → r' < r → enrol r' ≠ .active) →
        ((s.readers.get r).slot = none →
          s.busOn = { s with bus := { b with stage := .polls (r.val + 1), exchange := some ⟨r, .poll, 3⟩ } }) ∧
        (∀ p, (s.readers.get r).slot = some p →
          s.busOn = { s with
            readers := vset s.readers r { s.readers.get r with slot := none }
            bus := { b with stage := .polls (r.val + 1), exchange := some ⟨r, .indicate p, 3⟩ } })) ∧
      (∀ r, b.stage = .probe → probed r → (∀ r', probed r' → after b.probePos r ≤ after b.probePos r') →
        s.busOn = { s with bus := { b with stage := .rejected, probePos := r, exchange := some ⟨r, .probe, 3⟩ } }) ∧
      (∀ r, b.stage = .rejected → b.round % 16 = 0 → enrol r = .rejected →
        (∀ r', enrol r' = .rejected → after b.rejectedPos r ≤ after b.rejectedPos r') →
        s.busOn = { s with bus := { b with stage := .ended, rejectedPos := r, exchange := some ⟨r, .probe, 3⟩ } }) ∧
      ((∃ r, enrol r = .active ∨ probed r ∨ enrol r = .rejected) →
        (∀ i, b.stage = .polls i → (∀ r : ReaderNo, i ≤ r.val → enrol r ≠ .active) →
          s.busOn = (at_ b.round .probe).busOn) ∧
        (b.stage = .probe → (∀ r, ¬probed r) → s.busOn = (at_ b.round .rejected).busOn) ∧
        (b.stage = .rejected → b.round % 16 ≠ 0 ∨ (∀ r, enrol r ≠ .rejected) → s.busOn = (at_ b.round .ended).busOn) ∧
        (b.stage = .ended →
          s.busOn = (at_ (if b.round < 65535 then b.round + 1 else 1) (.polls 0)).busOn) ∧
        ∃ x, s.busOn.bus.exchange = some x))

/-- The ends of the exchanges of the reader bus: a valid reply, a miss, the third miss in a row, an OFFER, which is recorded
whatever it leads to, and a CONFIRM, with the counts that corrupt and missing replies raise (R161, R162, R164 to R168). That the
next exchange begins at the end of this one, that an unlisted TAMPER state has no further effect, that an unlisted reader type is
one that no role accepts, that a reader which became UNASSIGNED during its probe stays so, and that an exchange command with no
exchange in flight does nothing are the model's choice (log entry 15). -/
def Obligations.ReaderExchangesEnd : Prop :=
  ∀ (r : ReaderNo) (left : Nat) (s : Machine.State),
    let rd := s.readers.get r
    let went := fun (rd' : Reader) => { s with readers := vset s.readers r rd', bus := { s.bus with exchange := none } }
    (∀ sent, s.bus.exchange = some ⟨r, sent, left⟩ → sent = .poll ∨ (∃ p, sent = .indicate p) → rd.enrol = .active →
      (∀ reply, (⟨r, sent, left⟩ : Exchange).hear reply = .valid .idle →
        exec (.pollExchangeEnd reply) s = .next (went { rd with misses := 0 }).busOn.closeZone) ∧
      (∀ reply card, (⟨r, sent, left⟩ : Exchange).hear reply = .valid (.present card) →
        exec (.pollExchangeEnd reply) s = .next ((went { rd with misses := 0 }).present r card).busOn.closeZone) ∧
      (∀ reply, (⟨r, sent, left⟩ : Exchange).hear reply = .valid (.tamper 1) →
        (rd.tamper = true →
          exec (.pollExchangeEnd reply) s = .next (went { rd with misses := 0 }).busOn.closeZone) ∧
        (rd.tamper = false →
          exec (.pollExchangeEnd reply) s =
            .next ((went { rd with misses := 0, tamper := true }).raise (.tamper r)).busOn.closeZone)) ∧
      (∀ reply, (⟨r, sent, left⟩ : Exchange).hear reply = .valid (.tamper 0) →
        exec (.pollExchangeEnd reply) s = .next (went { rd with misses := 0, tamper := false }).busOn.closeZone) ∧
      (∀ reply state, (⟨r, sent, left⟩ : Exchange).hear reply = .valid (.tamper state) → state ≠ 0 → state ≠ 1 →
        exec (.pollExchangeEnd reply) s = .next (went { rd with misses := 0 }).busOn.closeZone) ∧
      (∀ reply, (⟨r, sent, left⟩ : Exchange).hear reply = .corrupt →
        let rd' := { rd with busErrors := satInc rd.busErrors, missCount := satInc rd.missCount }
        (rd.misses < 2 →
          exec (.pollExchangeEnd reply) s = .next (went { rd' with misses := rd.misses + 1 }).busOn.closeZone) ∧
        (2 ≤ rd.misses →
          exec (.pollExchangeEnd reply) s =
            .next ((went { rd' with misses := 0, enrol := .lost, lost := true, slot := none }).raise
              (.readerLost r)).busOn.closeZone)) ∧
      (let rd' := { rd with missCount := satInc rd.missCount }
       (rd.misses < 2 →
         exec (.pollExchangeEnd []) s = .next (went { rd' with misses := rd.misses + 1 }).busOn.closeZone) ∧
       (2 ≤ rd.misses →
         exec (.pollExchangeEnd []) s =
           .next ((went { rd' with misses := 0, enrol := .lost, lost := true, slot := none }).raise
             (.readerLost r)).busOn.closeZone) ∧
       (rd.misses < 2 →
         exec .readerReplyWindow s = .next (went { rd' with misses := rd.misses + 1 }).busOn.close) ∧
       (2 ≤ rd.misses →
         exec .readerReplyWindow s =
           .next ((went { rd' with misses := 0, enrol := .lost, lost := true, slot := none }).raise
             (.readerLost r)).busOn.close))) ∧
    (s.bus.exchange = some ⟨r, .probe, left⟩ →
      (∀ reply o, (⟨r, .probe, left⟩ : Exchange).hear reply = .valid (.offer o) →
        (rd.role.accepts o.type = true → rd.enrol = .absent ∨ rd.enrol = .lost ∨ rd.enrol = .rejected →
          exec (.probeExchangeEnd reply) s = .next
            { went { rd with offered := some o, enrol := .assigning } with
              bus := { s.bus with exchange := some ⟨r, .assign rd.role, 3⟩ } }.close) ∧
        (rd.role.accepts o.type = false → rd.enrol = .absent ∨ rd.enrol = .lost →
          exec (.probeExchangeEnd reply) s = .next
            ((went { rd with offered := some o, enrol := .rejected }).raise (.readerRejected r)).busOn.close) ∧
        (rd.role.accepts o.type = false → rd.enrol = .rejected →
          exec (.probeExchangeEnd reply) s = .next (went { rd with offered := some o }).busOn.close) ∧
        (rd.enrol = .unassigned →
          exec (.probeExchangeEnd reply) s = .next (went { rd with offered := some o }).busOn.close)) ∧
      (∀ reply, (⟨r, .probe, left⟩ : Exchange).hear reply = .corrupt →
        exec (.probeExchangeEnd reply) s = .next
          (went { rd with busErrors := satInc rd.busErrors, missCount := satInc rd.missCount }).busOn.close) ∧
      exec (.probeExchangeEnd []) s = .next (went { rd with missCount := satInc rd.missCount }).busOn.close ∧
      exec .readerReplyWindow s = .next (went { rd with missCount := satInc rd.missCount }).busOn.close) ∧
    (∀ role type, (role : Role).accepts type = true ↔
      (∃ c, role = .door c ∧ (type = 0x44 ∨ type = 0x4C)) ∨ (∃ t, role = .counter t ∧ type = 0x43) ∨
        (∃ l, (role = .laneOut l ∨ role = .laneIn l) ∧ type = 0x4C)) ∧
    (∀ role, s.bus.exchange = some ⟨r, .assign role, left⟩ → rd.enrol = .assigning →
      (∀ reply code index, (⟨r, .assign role, left⟩ : Exchange).hear reply = .valid (.confirm code index) →
        (code.toNat = role.code → index.toNat = role.index →
          exec (.assignExchangeEnd reply) s = .next
            (went { rd with enrol := .active, misses := 0, slot := none }).busOn.close) ∧
        (code.toNat ≠ role.code ∨ index.toNat ≠ role.index →
          exec (.assignExchangeEnd reply) s = .next (went { rd with enrol := .absent }).busOn.close)) ∧
      (∀ reply, (⟨r, .assign role, left⟩ : Exchange).hear reply = .corrupt →
        exec (.assignExchangeEnd reply) s = .next
          (went { rd with
            enrol := .absent, busErrors := satInc rd.busErrors, missCount := satInc rd.missCount }).busOn.close) ∧
      exec (.assignExchangeEnd []) s = .next
        (went { rd with enrol := .absent, missCount := satInc rd.missCount }).busOn.close ∧
      exec .readerReplyWindow s = .next
        (went { rd with enrol := .absent, missCount := satInc rd.missCount }).busOn.close) ∧
    (s.bus.exchange = none → ∀ reply,
      exec (.pollExchangeEnd reply) s = .next s ∧ exec (.probeExchangeEnd reply) s = .next s ∧
      exec (.assignExchangeEnd reply) s = .next s ∧ exec .readerReplyWindow s = .next s)

/-! ## Presentations -/

/-- The verdict on a known entry by the ordered checks: engaged, revoked, outside its window (which a LANE_OUT reader does not ask of
an entry ABOARD), then by the role of the reader: outside evacuation the checks of a door, a lane and a counter, while evacuation is
in effect the outcome of the role (R34 to R41). -/
def Obligations.TheChecksOfAKnownEntryComeInOrder : Prop :=
  ∀ (k : Known) (s : Machine.State),
    let now := s.clock.time
    let inside := (∀ v, k.validFrom = some v → v ≤ now) ∧ ∀ v, k.validUntil = some v → now ≤ v
    let valid := fun role : Role => s.clock.valid = false ∨ inside ∨ (∃ l, role = .laneOut l) ∧ k.presence = .aboard
    let passes := fun role => k.engaged = none ∧ k.status ≠ .revoked ∧ valid role
    (∀ role,
      (k.engaged ≠ none → s.verdict role k = .deniedBusy) ∧
      (k.engaged = none → k.status = .revoked → s.verdict role k = .deniedRevoked) ∧
      (k.engaged = none → k.status ≠ .revoked → ¬valid role → s.verdict role k = .deniedExpired)) ∧
    (s.evac.state ≠ .evacuation →
      (∀ c : Chan, passes (.door c) →
        let ch := s.zone.channels.get c
        let d := (s.setup.channels.get c).door
        let open_ := s.setup.kind c = .cabin ∧ ∃ g ∈ k.grants, g.covers d = true
        let unlocked := ch.lockout = false ∨ k.officer = true
        let unprivate := ch.privacy = false ∨ Grant.door d ∈ k.grants ∨ k.officer = true
        let here := s.setup.policy.presence = false ∨ k.presence = .aboard
        let barred := (∃ t, ch.state = .inhibited t) ∨ ch.state = .fault ∧ s.setup.policy.scope.get (groupOf c) = .group
        (¬open_ → s.verdict (.door c) k = .deniedNoGrant) ∧
        (open_ → ¬unlocked → s.verdict (.door c) k = .deniedLockout) ∧
        (open_ → unlocked → ¬unprivate → s.verdict (.door c) k = .deniedPrivacy) ∧
        (open_ → unlocked → unprivate → ¬here → s.verdict (.door c) k = .deniedPresence) ∧
        (open_ → unlocked → unprivate → here → barred → s.verdict (.door c) k = .deniedChannel) ∧
        (open_ → unlocked → unprivate → here → ¬barred → s.verdict (.door c) k = .granted)) ∧
      (∀ l : LaneNo,
        let st := (s.zone.lanes.get l).state
        let gate := (s.zone.channels.get (s.setup.lanes.get l).gate).state
        let barred := (∃ t, gate = .inhibited t) ∨ gate = .fault
        let out := s.verdict (.laneOut l) k
        let in_ := s.verdict (.laneIn l) k
        let passback := s.setup.policy.passback
        (passes (.laneOut l) →
          ((∀ m, st ≠ .released m) → st ≠ .ready → out = .deniedLaneClosed) ∧
          (∀ m, st = .released m → out = .deniedLaneBusy) ∧
          (st = .ready → k.status = .hold → out = .deniedHold) ∧
          (st = .ready → k.status = .active →
            ((∃ n, s.deadline = .expired n) → out = .deniedDeadline) ∧
            ((∀ n, s.deadline ≠ .expired n) →
              (passback = true → k.presence = .ashore → out = .deniedPassback) ∧
              (passback = false ∨ k.presence = .aboard →
                (barred → out = .deniedChannel) ∧ (¬barred → out = .accepted))))) ∧
        (passes (.laneIn l) →
          ((∀ m, st ≠ .released m) → st ≠ .ready → in_ = .deniedLaneClosed) ∧
          (∀ m, st = .released m → in_ = .deniedLaneBusy) ∧
          (st = .ready →
            (passback = true → k.presence = .aboard → in_ = .deniedPassback) ∧
            (passback = false ∨ k.presence = .ashore →
              (barred → in_ = .deniedChannel) ∧ (¬barred → in_ = .accepted))))) ∧
      (∀ t : TillNo, passes (.counter t) →
        ((∃ c left, (s.tills.get t).state = .armed c left) → s.verdict (.counter t) k = .chargeTaken) ∧
        ((∀ c left, (s.tills.get t).state ≠ .armed c left) → s.verdict (.counter t) k = .deniedNoCharge))) ∧
    (s.evac.state = .evacuation →
      (∀ c, passes (.door c) → s.verdict (.door c) k = .evacuation) ∧
      (∀ t, passes (.counter t) → s.verdict (.counter t) k = .deniedSuspended) ∧
      (∀ l : LaneNo,
        let held := ∃ ret, (s.zone.lanes.get l).state = .heldOpen ret
        (passes (.laneOut l) →
          (¬held → s.verdict (.laneOut l) k = .deniedLaneClosed) ∧
          (held → k.status = .hold → s.verdict (.laneOut l) k = .deniedHold) ∧
          (held → k.status = .active → s.verdict (.laneOut l) k = .accepted)) ∧
        (passes (.laneIn l) →
          (¬held → s.verdict (.laneIn l) k = .deniedLaneClosed) ∧
          (held → s.verdict (.laneIn l) k = .accepted))))

/-- A presentation refreshes last-seen and is then discarded and counted, or decided (R17, R27 to R33). A decided outcome sends its
TAP notice and closes the decision with its indication; GRANTED makes an open claim, ACCEPTED the lane's acceptance or, while
evacuation is in effect, its commit at the tap, and DENIED_REVOKED raises its alarm first (R35, R39, R42 to R44, R92, R104). That the
alarm stands before the TAP notice, and the TAP notice before what its claim sends, is log entry 11. What a CHARGE_TAKEN decision does
is stated with the tills. -/
def Obligations.APresentationIsDiscardedOrDecided : Prop :=
  (∀ (r : ReaderNo) (card : CardNo) (v : Verdict) (arrival : ShipTime) (queried : Bool) (s : Machine.State),
    let rd := s.readers.get r
    let window := s.setup.timing.repeatWindow
    let shown : Pattern := match v with
      | .granted => .green
      | .accepted => .green
      | .chargeTaken => .green
      | .evacuation => .amber
      | _ => .red
    s.finish r card arrival queried v = { s with
      link := s.link.notify (.tap r card v rd.role arrival (!s.clock.valid) queried)
      readers := vset s.readers r
        { rd with
          slot := if rd.enrol = .active then some shown else rd.slot
          marker := none
          memory := if window = 0 then none else some ⟨card, window * 1000⟩ } }) ∧
  (∀ (r : ReaderNo) (card : CardNo) (s : Machine.State),
    let rd := s.readers.get r
    let now := s.clock.time
    let u := s.seen card
    let discarded := rd.marker ≠ none ∨ ∃ m, rd.memory = some m ∧ m.card = card
    (∀ k, s.known card = some k → u.known card = some { k with holder := k.holder.presented, lastSeen := now }) ∧
    (s.known card = none → u = s) ∧
    (discarded → s.present r card =
      { u with readers := vset s.readers r { rd with filtered := satInc rd.filtered } }) ∧
    (¬discarded →
      (s.mode = .maintenance → s.present r card = u.finish r card now false .deniedMaintenance) ∧
      (s.mode = .normal →
        (lookup s.cards card = none → s.authority = .standalone ∨ cardValid card = false ∨ freeWay s.cards card = none →
          s.present r card = s.finish r card now false .deniedUnknown) ∧
        (∀ left i, lookup s.cards card = none → s.authority = .online left → cardValid card = true →
          freeWay s.cards card = some i →
          s.present r card =
            (({ s with cards := tput i ⟨card, .pending ⟨r, now, s.setup.timing.queryHold⟩⟩ s.cards }.waitDecision
              r card now .heldQuery).notify (.cardQuery card r))) ∧
        (∀ i d h, lookup s.cards card = some (i, ⟨d, .pending h⟩) →
          s.present r card = s.finish r card now false .deniedBusy) ∧
        (∀ k, u.known card = some k →
          let v := u.verdict rd.role k
          let done := u.finish r card now false v
          (v = .deniedRevoked →
            s.present r card = (u.raise (.revokedTap card r)).finish r card now false v) ∧
          (v ≠ .deniedRevoked → v ≠ .granted → v ≠ .accepted → v ≠ .chargeTaken → s.present r card = done) ∧
          (∀ c, rd.role = .door c → v = .granted →
            s.present r card = { done with zone := s.zone.openClaim s.setup c }) ∧
          (∀ l dir, rd.role = .laneOut l ∧ dir = .out ∨ rd.role = .laneIn l ∧ dir = .in → v = .accepted →
            let x := s.zone.lanes.get l
            let lanes := fun x' => { s.zone with lanes := vset s.zone.lanes l x' }
            ∃ t : Machine.State, s.present r card = t ∧
              t = { done with cards := t.cards, tally := t.tally, zone := t.zone, link := t.link } ∧
              (s.evac.state ≠ .evacuation →
                t.known card = some { k with engaged := some (.movement l) } ∧ t.tally = s.tally ∧ t.link = done.link ∧
                t.zone = (lanes { x with state := .released ⟨card, dir, now, none⟩ }).openClaim s.setup
                  (s.setup.lanes.get l).gate) ∧
              (s.evac.state = .evacuation →
                let side : Presence := if dir = .out then .ashore else .aboard
                t.known card = some { k with presence := side } ∧
                t.tally = s.tally.move (some (k.holder.category, k.presence)) (some (k.holder.category, side)) ∧
                t.zone = lanes (if dir = .out then { x with committedOut := satInc x.committedOut }
                  else { x with committedIn := satInc x.committedIn }) ∧
                t.link = done.link.notify (.movement l card k.holder.category dir now now (decide (k.presence ≠ side)) true
                  (!s.clock.valid))))))))

/-! ## Waits, the clock, the evacuation line -/

/-- A held query, a repeat window, an armed charge and a referral run out; where none runs the expiry does nothing (R13, R29,
R119, R128; log entry 3). -/
def Obligations.WaitsRunOut : Prop :=
  ∀ s : Machine.State,
    (∀ card : CardNo,
      (∀ i d h, lookup s.cards card = some (i, ⟨d, .pending h⟩) →
        exec (.queryHoldExpiry card) s = .next
          ({ s with cards := tdel i s.cards }.finish h.reader card h.arrival true .deniedUnknown).close) ∧
      ((∀ i d h, lookup s.cards card ≠ some (i, ⟨d, .pending h⟩)) → exec (.queryHoldExpiry card) s = .next s)) ∧
    (∀ r : ReaderNo, exec (.repeatTimerExpiry r) s =
      .next { s with readers := vset s.readers r { s.readers.get r with memory := none } }) ∧
    (∀ t : TillNo,
      (∀ c left, (s.tills.get t).state = .armed c left →
        exec (.armTimerExpiry t) s = .next (s.endCharge t c .expired none none none).close) ∧
      ((∀ c left, (s.tills.get t).state ≠ .armed c left) → exec (.armTimerExpiry t) s = .next s) ∧
      (∀ c p left, (s.tills.get t).state = .authorising c p left →
        let ends := fun o => s.endCharge t c o (some (p.card, p.reader)) (some p.slot) none
        (s.recheck p = false → exec (.answerTimerExpiry t) s = .next (ends .declinedStatus).close) ∧
        (∀ x, s.recheck p = true → tget s.folios p.slot = some x → x.allowance - x.spent < c.amount →
          exec (.answerTimerExpiry t) s = .next (ends .declinedLimit).close) ∧
        (∀ x, s.recheck p = true → tget s.folios p.slot = some x → c.amount ≤ x.allowance - x.spent →
          exec (.answerTimerExpiry t) s = .next (s.approve t c p.card p.reader p.slot .standIn).close)) ∧
      ((∀ c p left, (s.tills.get t).state ≠ .authorising c p left) → exec (.answerTimerExpiry t) s = .next s))

/-- The lease expires into STANDALONE with its AUTHORITY notice before the results: each pending entry, in ascending reader
address, is removed and its presentation denied DENIED_UNKNOWN, and then each AUTHORISING till, in ascending number, is stood in
for (R14, R128). Ship time advances and wraps to not valid, the minute tick ages callers, raises OVERSTAY for each overdue caller
aboard that is not yet reported, and counts the deadline down, and a deadline that enters FINAL_CALL or expires sends its notice
(R18, R19, R82, R108, R144, R146, R147, R150). That a lease expiry acts whatever time is left and does nothing in STANDALONE (log
entry 3), that DEADLINE_EXPIRED acts only with one minute remaining (log entry 18), and that a tick ages first, raises its alarms
in ascending entry index and then counts the deadline down (log entry 29), are the model's choice. -/
def Obligations.TheClockEvents : Prop :=
  ∀ s : Machine.State,
    (s.authority = .standalone → exec .leaseExpiry s = .next s) ∧
    (∀ left, s.authority = .online left →
      let u := { s with
        authority := .standalone
        link := s.link.notify (.authority (pendingByReader s.cards).length s.authorisingTills.length) }.resolveWaits
      exec .leaseExpiry s = .next u.close ∧
      (s.tablesLaw → pendingEntries u.cards = [] ∧ ∀ t, (u.tills.get t).state.isAuthorising = false)) ∧
    (let deny := fun (u : Machine.State) (x : Nat × CardNo × Held) =>
       { u with cards := tdel x.1 u.cards }.finish x.2.2.reader x.2.1 x.2.2.arrival true .deniedUnknown
     let stand := fun (u : Machine.State) (t : TillNo) => match (u.tills.get t).state with
       | .authorising c p _ =>
         let ends := fun o => u.endCharge t c o (some (p.card, p.reader)) (some p.slot) none
         if u.recheck p = true then match tget u.folios p.slot with
           | some x => if c.amount ≤ x.allowance - x.spent then u.approve t c p.card p.reader p.slot .standIn
             else ends .declinedLimit
           | none => ends .declinedStatus
         else ends .declinedStatus
       | _ => u
     (s.tablesLaw → s.resolveWaits = s.authorisingTills.foldl stand ((pendingByReader s.cards).foldl deny s)) ∧
     (∀ i card h, (i, card, h) ∈ pendingByReader s.cards ↔ (i, (⟨card, .pending h⟩ : Entry)) ∈ s.cards) ∧
     (pendingByReader s.cards).Pairwise (fun x y => x.2.2.reader ≤ y.2.2.reader) ∧
     (∀ t, t ∈ s.authorisingTills ↔ (s.tills.get t).state.isAuthorising = true) ∧
     s.authorisingTills.Pairwise (· < ·)) ∧
    exec .shipTimeAdvance s = .next
      { s with clock :=
        { s.clock with time := s.clock.time + 1, valid := s.clock.valid && s.clock.time != BitVec.allOnes 32,
                       secondMs := 0 } } ∧
    (∃ u : Machine.State, exec .minuteTick s = .next u.close ∧
      u = { s with cards := u.cards, tally := u.tally, folios := u.folios, alarms := u.alarms, link := u.link,
                   clock := { s.clock with minuteMs := 0 }, deadline := u.deadline } ∧
      (u.deadline = match s.deadline with
        | .none => .none
        | .expired l => .expired l
        | .running r l =>
          if r ≤ 1 then .expired l else if r - 1 ≤ l then .finalCall (r - 1) l else .running (r - 1) l
        | .finalCall r l => if r ≤ 1 then .expired l else .finalCall (r - 1) l) ∧
      (s.tablesLaw →
        let overstays := s.cards.filterMap fun x => match x.2.body with
          | .known k => if k.overstays s.clock then some x.2.card else none
          | .pending _ => none
        let raised := overstays.foldl (fun a card => a.raise (.overstay card)) s
        let entered := match s.deadline with
          | .running r l => r ≤ 1 ∨ r - 1 ≤ l
          | .finalCall r _ => r ≤ 1
          | _ => False
        u.alarms = raised.alarms ∧ (¬entered → u.link = raised.link) ∧
        (entered → u.link = raised.link.notify
          (.deadline u.deadline u.tally.guestAshore u.tally.crewAshore u.tally.callerAshore))) ∧
      (∀ k : Known, k.overstays s.clock = true ↔
        (∃ idle, k.holder = .caller idle false) ∧ k.presence = .aboard ∧ s.clock.valid = true ∧
          ∃ v, k.validUntil = some v ∧ v < s.clock.time) ∧
      (s.tablesLaw → ∀ i e, tget s.cards i = some e →
        ((∀ k idle rep, e.body = .known k → k.holder ≠ .caller idle rep) → tget u.cards i = some e) ∧
        (∀ k idle rep, e.body = .known k → k.holder = .caller idle rep →
          let overdue := s.clock.valid = true ∧ ∃ v, k.validUntil = some v ∧ v < s.clock.time
          let idle' := if idle < 1440 then idle + 1 else idle
          let gone := s.setup.timing.idleLimit ≤ idle' ∨ overdue
          (k.presence = .ashore → k.engaged = none → gone → tget u.cards i = none) ∧
          (k.presence = .ashore → k.engaged = none → ¬gone →
            tget u.cards i = some ⟨e.card, .known { k with holder := .caller idle' rep }⟩) ∧
          (k.presence = .ashore → k.engaged ≠ none → tget u.cards i = some e) ∧
          (k.presence = .aboard → overdue →
            tget u.cards i = some ⟨e.card, .known { k with holder := .caller idle true }⟩) ∧
          (k.presence = .aboard → ¬overdue → tget u.cards i = some e)))) ∧
    (s.deadline.remaining ≠ 1 → exec .deadlineExpired s = .next s) ∧
    (s.deadline.remaining = 1 →
      exec .deadlineExpired s = .next
        { s with
          deadline := .expired s.deadline.lead
          link := s.link.notify (.deadline (.expired s.deadline.lead) s.tally.guestAshore s.tally.crewAshore
            s.tally.callerAshore) }.close)

/-- The two sources of evacuation: EVACUATE SET and EVACUATE CLEAR write the host source, the line qualifies ASSERTED and CLEAR,
the state changes by the table of R154, and an entry and an exit do what R155 to R158 say to the channels, lanes and tills (R152 to
R158). An entry sends its EVACUATION notice, then a LANE notice for each movement it abandons and a CHARGE RESULT for each charge
it suspends, and the abandoned cards are disengaged (R103, R129). An entry out of MAINTENANCE takes the setup into service first,
with the lanes and tills whose bindings fail treated as UNUSED (R156; their counters, and a lane so treated that still names its
gate, log entry 30). At an exit each RELEASED channel takes an expired hold and relocks by its door, a door that stands open starts
its door-held timer, a channel on its way to withdrawn goes on with arrival hold EXPIRED, and the others stay (R57, R65, R157); the
relock test then finds the zone secured or leaves the state as it is (R158). That start-up takes no line event (log entry 22), the
octet of the host source (log entry 8), the moment of the relock test (log entry 13) and the order of the claims of an entry and of
an exit (log entry 29) are the model's choice. -/
def Obligations.TheSourcesOfEvacuation : Prop :=
  (∀ (tag : Octet) (s : Machine.State), tag ≠ 0 →
     (let f : Frame := ⟨0x24, tag, []⟩
      let u := { s.arrive f with evac := { s.evac with host := true } }
      s.hasTurn f →
       (s.evac.state = .evacuation →
         exec (.evacuateSet tag []) s = .next (u.answered f
           ⟨.ok, be 1 1 ++ be 1 (if s.evac.line then 0 else 1) ++ be 1 1⟩)) ∧
       (s.evac.state ≠ .evacuation →
         exec (.evacuateSet tag []) s = .next ((u.enterEvacuation .hostSet).answered f
           ⟨.ok, be 1 1 ++ be 1 (if s.evac.line then 0 else 1) ++ be 1 1⟩))) ∧
     (let f : Frame := ⟨0x25, tag, []⟩
      let u := { s.arrive f with evac := { s.evac with host := false } }
      let x := (u.exitEvacuation .hostCleared).relockTest
      s.hasTurn f →
       (s.evac.state = .evacuation → s.evac.line = true →
         exec (.evacuateClear tag []) s = .next (u.answered f ⟨.ok, be 1 0 ++ be 1 0 ++ be 1 1⟩)) ∧
       (s.evac.state ≠ .evacuation →
         exec (.evacuateClear tag []) s = .next (u.relockTest.answered f
           ⟨.ok, be 1 0 ++ be 1 (if s.evac.line then 0 else 1) ++ be 1 u.relockTest.evac.state.code⟩)) ∧
       (s.evac.state = .evacuation → s.evac.line = false →
         exec (.evacuateClear tag []) s = .next (x.answered f
           ⟨.ok, be 1 0 ++ be 1 1 ++ be 1 x.evac.state.code⟩)))) ∧
 (∀ s : Machine.State,
    let low := { s with pins := { s.pins with lineLow := true }, evac := { s.evac with line := true, lineCount := 0 } }
    let high := { s with pins := { s.pins with lineLow := false }, evac := { s.evac with line := false, lineCount := 0 } }
    (s.evac.line = true ∨ s.phase ≠ .running → exec .evacuationLineAsserted s = .next s) ∧
    (s.evac.line = false → s.phase = .running →
      (s.evac.state = .evacuation → exec .evacuationLineAsserted s = .next low.closeZone) ∧
      (s.evac.state ≠ .evacuation →
        exec .evacuationLineAsserted s = .next (low.enterEvacuation .lineAsserted).closeZone)) ∧
    (s.evac.line = false ∨ s.phase ≠ .running → exec .evacuationLineCleared s = .next s) ∧
    (s.evac.line = true → s.phase = .running →
      (s.evac.state = .evacuation → s.evac.host = false →
        exec .evacuationLineCleared s = .next (high.exitEvacuation .lineCleared).closeZone) ∧
      (s.evac.state ≠ .evacuation ∨ s.evac.host = true →
        exec .evacuationLineCleared s = .next high.closeZone))) ∧
  (∀ (cause : EvacCause) (s : Machine.State), s.slotLaw →
    (let u := s.enterEvacuation cause
     u.evac = { s.evac with state := .evacuation } ∧ u.mode = .normal ∧ u.setup = s.setup ∧
     (∀ c, (u.zone.channels.get c).state.releasing = true ∧
       (s.setup.inUse c = true → (u.zone.channels.get c).release = true)) ∧
     let v := s.leaveForEvacuation
     let used := fun l => v.zone.laneUsed s.setup l = true
     (s.mode = .normal → v = s) ∧
     (s.mode = .maintenance →
       v = { s with mode := .normal, readers := v.readers, zone := v.zone, tills := v.tills, bus := v.bus } ∧
       v.zone.channels = s.zone.channels ∧ v.zone.groups = s.zone.groups ∧
       (∀ r, (v.readers.get r).role = s.setup.readers.get r) ∧
       (∀ l, v.zone.lanes.get l =
         let x := s.zone.lanes.get l
         if x.unfit = true ∨ (s.setup.lanes.get l).used = true ∧ s.setup.laneFits l = false then
           { x with unfit := true, committedOut := 0, committedIn := 0, abandoned := 0, unattributed := 0 }
         else x) ∧
       (∀ t, v.tills.get t =
         let x := s.tills.get t
         { x with unfit := decide (x.unfit = true ∨ s.setup.tillFits t = false) })) ∧
     (∀ l,
       let x := v.zone.lanes.get l
       let x' := u.zone.lanes.get l
       (¬used l → x' = x) ∧
       (used l →
         (x.state = .ready → x' = { x with state := .heldOpen .ready }) ∧
         (x.state = .closed → x' = { x with state := .heldOpen .closed }) ∧
         (∀ r, x.state = .heldOpen r → x' = x) ∧
         (∀ m, x.state = .released m → x' = { x with state := .heldOpen .ready, abandoned := satInc x.abandoned }) ∧
         (∀ m, x.state = .closing m → x' = { x with state := .heldOpen .closed, abandoned := satInc x.abandoned }) ∧
         (∀ m k, x.state = .released m ∨ x.state = .closing m → s.known m.card = some k →
           k.engaged = some (.movement l) → u.known m.card = some { k with engaged := none }))) ∧
     (∀ t, (u.tills.get t).state = .idle ∧ (u.tills.get t).last = match (s.tills.get t).state with
       | .idle => (s.tills.get t).last
       | .armed c _ => some ⟨.suspended, none, c.ref, none⟩
       | .authorising c p _ => some ⟨.suspended, some p.card, c.ref, none⟩) ∧
     (let told := s.link.notify
        (.evacuation .evacuation s.evac.line s.evac.host cause s.openTills.length v.movingLanes.length)
      let abandons := fun (k : Link) (l : LaneNo) =>
        if used l then match (v.zone.lanes.get l).state with
          | .released m => k.notify (.lane l m.card m.dir m.accepted .evacuation (.heldOpen .ready))
          | .closing m => k.notify (.lane l m.card m.dir m.accepted .evacuation (.heldOpen .closed))
          | _ => k
        else k
      let suspends := fun (k : Link) (t : TillNo) => match (s.tills.get t).state with
        | .idle => k
        | .armed c _ => k.notify (.chargeResult t .suspended none none c.amount c.ref none (!s.clock.valid))
        | .authorising c p _ =>
          k.notify (.chargeResult t .suspended (some p.card) (some p.slot) c.amount c.ref none (!s.clock.valid))
      u.link = allTills.foldl suspends (allLanes.foldl abandons told))) ∧
    (let u := s.exitEvacuation cause
     u.evac = { s.evac with state := .recovery } ∧ u.setup = s.setup ∧
     u.link = s.link.notify (.evacuation .recovery s.evac.line s.evac.host cause 0 0) ∧
     (∀ c,
       let ch := s.zone.channels.get c
       let ch' := u.zone.channels.get c
       let g := s.zone.groups.get (groupOf c)
       (s.setup.inUse c = false → ch' = ch) ∧
       (s.setup.inUse c = true →
         ch'.release = false ∧
         (ch.state = .released →
           s.zone.relocking s.setup c g.inhibited ch'.state ∧
           (s.setup.kind c = .cabin → s.zone.doorOpen s.setup c = true →
             ch'.doorHeld = some (s.setup.timing.doorHeld * 1000))) ∧
         (∀ a, ch.state = .unlocking a → ch'.state = .unlocking .expired) ∧
         (∀ a, ch.state = .unlockWait a →
           (g.slot0 ≠ none → g.slot1 ≠ none → ch'.state = .unlockWait .expired) ∧
           (ch.withdrawn = false → ch'.state = .unlockWait .expired ∨ ch'.state = .unlocking .expired)) ∧
         (ch.state.waits = false → ch.state ≠ .released → (∀ a, ch.state ≠ .unlocking a) → ch'.state = ch.state))) ∧
     (∀ l, s.zone.laneUsed s.setup l = true →
       ((s.zone.lanes.get l).state = .heldOpen .ready → (u.zone.lanes.get l).state = .ready) ∧
       ((s.zone.lanes.get l).state = .heldOpen .closed → (u.zone.lanes.get l).state = .closed)) ∧
     u = { s with evac := u.evac, link := u.link, zone := u.zone })) ∧
  (∀ s : Machine.State,
    let loose := fun st : ChanState => (∃ h, st = .openHold h) ∨ (∃ a, st = .unlockWait a) ∨ (∃ a, st = .unlocking a) ∨
      st = .lockWait ∨ st = .locking
    let secured := ∀ c, s.setup.inUse c = true → ¬loose (s.zone.channels.get c).state
    (s.evac.state = .recovery → secured →
      s.relockTest = { s with
        evac := { s.evac with state := .normal }
        link := s.link.notify (.evacuation .normal s.evac.line s.evac.host .relocked 0 0) }) ∧
    (s.evac.state ≠ .recovery ∨ ¬secured → s.relockTest = s) ∧
    s.closeZone = s.relockTest.close)

/-! ## Setup, maintenance and starts -/

/-- The six SETUP records: a record out of range is refused, a structural record is refused outside MAINTENANCE and during a save,
and an accepted record is written, with what R47, R77 and R88 say it changes: a channel of another kind goes OFF or is placed by
its senses as the relock sweep places it (R67), and a SETUP POLICY that sets the rail mask moves every monitor to GOOD, where each
group that had no other cause of inhibition recovers and resumes (R1, R47, R77, R80, R88, R116, R162, R192). That the groups
recover in ascending number (log entry 29) is the model's choice. What a change of the contact setup does to the door-held timer
(log entry 31) is the model's choice; that lane and till records act at once, and that a change of kind keeps the fault record and
the lockout (log entry 23), is deduced. -/
def Obligations.SetupRecordsAreWritten : Prop :=
  ∀ (tag : Octet) (body : List Octet) (s : Machine.State), tag ≠ 0 →
    let f : Octet → Frame := fun kind => ⟨kind, tag, body⟩
    let inService := s.mode = .maintenance ∧ s.save = none
    let refusal : Result := if s.mode = .normal then .maintenance else .busy
    (s.hasTurn (f 0x29) → body.length = 3 →
      let u := s.arrive (f 0x29)
      (setupReaderOf body = none → exec (.setupReader tag body) s = .next (u.answered (f 0x29) ⟨.range, []⟩)) ∧
      (∀ r role, setupReaderOf body = some (r, role) →
        (¬inService → exec (.setupReader tag body) s = .next (u.answered (f 0x29) ⟨refusal, []⟩)) ∧
        (inService → exec (.setupReader tag body) s = .next
          ({ u with setup := { s.setup with readers := vset s.setup.readers r role } }.answered (f 0x29) ⟨.ok, []⟩)))) ∧
    (s.hasTurn (f 0x2B) → body.length = 4 →
      let u := s.arrive (f 0x2B)
      (setupLaneOf body = none → exec (.setupLane tag body) s = .next (u.answered (f 0x2B) ⟨.range, []⟩)) ∧
      (∀ l x, setupLaneOf body = some (l, x) →
        let lane := s.zone.lanes.get l
        let after := if (s.setup.lanes.get l).used = true ∧ x.used = false then
            { lane with committedOut := 0, committedIn := 0, abandoned := 0, unattributed := 0 } else lane
        (¬inService → exec (.setupLane tag body) s = .next (u.answered (f 0x2B) ⟨refusal, []⟩)) ∧
        (inService → exec (.setupLane tag body) s = .next
          ({ u with
              setup := { s.setup with lanes := vset s.setup.lanes l x }
              zone := { s.zone with lanes := vset s.zone.lanes l after } }.answered (f 0x2B) ⟨.ok, []⟩)))) ∧
    (s.hasTurn (f 0x2C) → body.length = 3 →
      let u := s.arrive (f 0x2C)
      (setupTillOf body = none → exec (.setupTill tag body) s = .next (u.answered (f 0x2C) ⟨.range, []⟩)) ∧
      (∀ t x, setupTillOf body = some (t, x) →
        (¬inService → exec (.setupTill tag body) s = .next (u.answered (f 0x2C) ⟨refusal, []⟩)) ∧
        (inService → exec (.setupTill tag body) s = .next
          ({ u with setup := { s.setup with tills := vset s.setup.tills t x } }.answered (f 0x2C) ⟨.ok, []⟩)))) ∧
    (s.hasTurn (f 0x2D) → body.length = 19 →
      let u := s.arrive (f 0x2D)
      (setupTimingOf body = none → exec (.setupTiming tag body) s = .next (u.answered (f 0x2D) ⟨.range, []⟩)) ∧
      (∀ t, setupTimingOf body = some t →
        t.inRange = true ∧
        exec (.setupTiming tag body) s = .next
          ({ u with setup := { s.setup with timing := t } }.answered (f 0x2D) ⟨.ok, []⟩))) ∧
    (s.hasTurn (f 0x2E) → body.length = 15 →
      let u := s.arrive (f 0x2E)
      (setupPolicyOf body = none →
        exec (.setupPolicy tag body) s = .next (u.relockTest.answered (f 0x2E) ⟨.range, []⟩)) ∧
      (∀ p, setupPolicyOf body = some p →
        (p.railMask = false → exec (.setupPolicy tag body) s = .next
          ({ u with setup := { s.setup with policy := p } }.relockTest.answered (f 0x2E) ⟨.ok, []⟩)) ∧
        (p.railMask = true →
          ∃ t : Machine.State, exec (.setupPolicy tag body) s = .next (t.relockTest.answered (f 0x2E) ⟨.ok, []⟩) ∧
            let cfg := { s.setup with policy := p }
            let recovers := fun g =>
              (s.zone.groups.get g).rail = .undervoltage ∧ (s.zone.groups.get g).latch = false
            t = { u with setup := cfg, zone := t.zone, link := t.link } ∧
            t.link = (List.finRange 4).foldl (fun k g =>
              if recovers g ∧ (s.zone.groups.get g).railSettled = true then k.notify (.fault g none .recovered) else k) u.link ∧
            (∀ g, (t.zone.groups.get g).rail = .good ∧ (t.zone.groups.get g).railCount = 0 ∧
              (t.zone.groups.get g).latch = (s.zone.groups.get g).latch) ∧
            (s.zone.orderly → ∀ d,
              (recovers (groupOf d) → s.zone.resumes cfg d t.zone) ∧
              (¬recovers (groupOf d) → t.zone.channels.get d = s.zone.channels.get d))))) ∧
    (s.hasTurn (f 0x2A) → body.length = 7 →
      let u := s.arrive (f 0x2A)
      (setupChannelOf body = none →
        exec (.setupChannel tag body) s = .next (u.relockTest.answered (f 0x2A) ⟨.range, []⟩)) ∧
      (∀ c x, setupChannelOf body = some (c, x) →
        let old := s.setup.channels.get c
        let ch := s.zone.channels.get c
        let cfg := { s.setup with channels := vset s.setup.channels c x }
        let contact := s.pins.contact.get c == x.contactHigh
        let watched := ch.state.isOpenHold = true ∧ x.kind = .cabin ∧ x.mode = .level ∧ contact = true
        (¬inService → exec (.setupChannel tag body) s = .next (u.relockTest.answered (f 0x2A) ⟨refusal, []⟩)) ∧
        (inService → x.kind = old.kind →
          (x.kind = .none ∨ x.mode = old.mode ∧ x.contactHigh = old.contactHigh ∧ x.privacyHigh = old.privacyHigh →
            exec (.setupChannel tag body) s = .next
              ({ u with setup := cfg }.relockTest.answered (f 0x2A) ⟨.ok, []⟩)) ∧
          (x.kind ≠ .none →
            ¬(x.mode = old.mode ∧ x.contactHigh = old.contactHigh ∧ x.privacyHigh = old.privacyHigh) →
            exec (.setupChannel tag body) s = .next
              ({ u with
                  setup := cfg
                  zone := { s.zone with
                    channels := vset s.zone.channels c { ch with
                      contact := contact
                      privacy := x.kind == ChanKind.cabin && s.pins.privacy.get c == x.privacyHigh
                      contactQual := none
                      privacyQual := none
                      doorHeld := if ¬watched then none
                        else if ch.doorHeld ≠ none ∨ ch.heldReported = true then ch.doorHeld
                        else some (s.setup.timing.doorHeld * 1000)
                      heldReported := decide watched && ch.heldReported } } }.relockTest.answered (f 0x2A)
                ⟨.ok, []⟩))) ∧
        (inService → x.kind ≠ old.kind → s.zone.orderly →
          ∃ z, exec (.setupChannel tag body) s = .next
              ({ u with setup := cfg, zone := z }.relockTest.answered (f 0x2A) ⟨.ok, []⟩) ∧
            s.zone.changesAround cfg c z ∧
            (z.channels.get c).record = ch.record ∧ (z.channels.get c).lockout = ch.lockout ∧
            (x.kind = .none → (z.channels.get c).state = .off ∧ c ∉ (z.groups.get (groupOf c)).queue) ∧
            (x.kind ≠ .none →
              (z.channels.get c).home = s.pins.home.get c ∧ (z.channels.get c).withdrawn = s.pins.withdrawn.get c ∧
              (z.channels.get c).contact = contact ∧
              (z.channels.get c).privacy = (x.kind == ChanKind.cabin && s.pins.privacy.get c == x.privacyHigh) ∧
              (s.pins.home.get c = true → (z.channels.get c).state = .locked) ∧
              (s.pins.home.get c = false →
                let found : Zone := { s.zone with channels := vset s.zone.channels c { ch with contact := contact, home := false } }
                found.relocking cfg c (s.zone.groups.get (groupOf c)).inhibited (z.channels.get c).state)))))

/-- SETUP SAVE and its end, MAINTENANCE ENTER and MAINTENANCE LEAVE (R193 to R195). A save that does not read back leaves a store
that fails its check (log entry 17), and a SETUP_SAVE_END acts whatever time is left and does nothing with no save in progress (log
entry 3): both are the model's choice. -/
def Obligations.SavesAndMaintenance : Prop :=
  ∀ (tag : Octet) (s : Machine.State), tag ≠ 0 →
    (let f : Frame := ⟨0x35, tag, []⟩
     let u := s.arrive f
     s.hasTurn f →
      (s.save ≠ none → exec (.setupSave tag []) s = .next (u.answered f ⟨.busy, []⟩)) ∧
      (s.save = none →
        exec (.setupSave tag []) s = .next ({ u with save := some ⟨s.setup, 250⟩ }.answered f ⟨.ok, []⟩))) ∧
    (∀ b : Bool,
      (s.save = none → exec (.setupSaveEnd b) s = .next s) ∧
      (∀ v, s.save = some v →
        exec (.setupSaveEnd b) s = .next
          { s with save := none, store := ⟨v.copy, if b then .agrees else .fails⟩,
                   link := s.link.notify (.setupSaved b) }.close)) ∧
    (let f : Frame := ⟨0x36, tag, []⟩
     let u := s.arrive f
     let still := (∀ c, s.setup.inUse c = true →
         (s.zone.channels.get c).state = .locked ∨ (s.zone.channels.get c).state = .fault ∨
           ∃ t, (s.zone.channels.get c).state = .inhibited t) ∧
       (∀ l, s.zone.laneUsed s.setup l = true → (s.zone.lanes.get l).state = .closed) ∧
       (∀ t, s.tillUsed t = true → (s.tills.get t).state = .idle) ∧ s.evac.state = .normal ∧ pendingEntries s.cards = []
     s.hasTurn f →
      (s.mode = .maintenance → exec (.maintenanceEnter tag []) s = .next (u.answered f ⟨.ok, []⟩)) ∧
      (s.mode = .normal → still →
        exec (.maintenanceEnter tag []) s = .next ({ u with mode := .maintenance }.answered f ⟨.ok, []⟩)) ∧
      (s.mode = .normal → ¬still → exec (.maintenanceEnter tag []) s = .next (u.answered f ⟨.state, []⟩))) ∧
    (let f : Frame := ⟨0x37, tag, []⟩
     let u := s.arrive f
     s.hasTurn f →
      (s.mode = .normal → exec (.maintenanceLeave tag []) s = .next (u.answered f ⟨.state, []⟩)) ∧
      (s.mode = .maintenance → s.setup.valid = false →
        exec (.maintenanceLeave tag []) s = .next (u.answered f ⟨.setupInvalid, []⟩)) ∧
      (s.mode = .maintenance → s.setup.valid = true →
        ∃ t : Machine.State, exec (.maintenanceLeave tag []) s = .next (t.answered f ⟨.ok, []⟩) ∧
          t = { u with mode := .normal, readers := t.readers, zone := t.zone, tills := t.tills, bus := t.bus } ∧
          t.zone.channels = s.zone.channels ∧ t.zone.groups = s.zone.groups ∧
          (∀ l, t.zone.lanes.get l = { s.zone.lanes.get l with unfit := false }) ∧
          (∀ i, t.tills.get i = { s.tills.get i with unfit := false }) ∧
          ∀ r, (t.readers.get r).role = s.setup.readers.get r ∧
            ((s.readers.get r).role = s.setup.readers.get r → (t.readers.get r).enrol = (s.readers.get r).enrol) ∧
            ((s.readers.get r).role ≠ s.setup.readers.get r →
              (t.readers.get r).enrol = (if s.setup.readers.get r = .none then .unassigned else .absent) ∧
              (t.readers.get r).offered = none ∧ (t.readers.get r).tamper = false)))

/-- A power-up, the reset input, a loss of the main supply and RESTART start the part: every block in its state after reset, with
the setup and the retained collections of the start; the loss of the retention supply takes the marker alone; after every start the
retention marker is present and its check agrees (R197); and the end of start-up settles the line, the mode, the channels and the
lanes, which the line ASSERTED holds open (R103, R111, R156), and queues the START notice (R26, R67, R87, R131, R141, R151, R152,
R160, R191, R195 to R199). The states of State.reset that the spec leaves open (log entries 5 to 7), the damage that a start
command names, which for RESTART is a free value (log entry 27), the notices at the head of the queue and the line's count after a
start-up (log entry 22), the mode that START carries (log entry 24), that START_UP_END acts at any sample count and does nothing
where no start-up runs (log entry 3), the order of the sweep (log entry 29) and that no lane and no till is treated as UNUSED after
a start (log entry 30) are the model's choice. -/
def Obligations.StartsAndTheEndOfStartUp : Prop :=
  ∀ s : Machine.State,
    let started := fun (cfg : Setup) (t : Machine.State) =>
      t.link = { Link.reset with rate := strapRate s.pins.strap1 s.pins.strap2, hostReady := s.pins.hostReady } ∧
      t.setup = cfg ∧ t.alarms = ⟨[], false⟩ ∧ t.deadline = .none ∧ t.authority = .standalone ∧
      t.evac = ⟨false, 0, false, .normal⟩ ∧ t.save = none ∧ t.bus = Bus.reset ∧ t.retention = ⟨true, true⟩ ∧
      (∀ i, t.tills.get i = ⟨.idle, none, false⟩) ∧ (∀ l, t.zone.lanes.get l = ⟨.closed, 0, 0, 0, 0, false⟩) ∧
      (∀ g, t.zone.groups.get g =
        ⟨none, none, [], if cfg.policy.railMask then .good else .undervoltage, 0, false, false⟩) ∧
      ∀ r, t.readers.get r =
        { Reader.reset with
          role := cfg.readers.get r, enrol := if cfg.readers.get r = .none then .unassigned else .absent }
    let lost := fun t : Machine.State =>
      t.cards = [] ∧ t.tally = ⟨0, 0, 0, 0, 0, 0⟩ ∧ t.folios = [] ∧ t.journal = ⟨[], 1, false⟩ ∧
      t.clock = ⟨0, false, 0, 0⟩ ∧ ∀ c, t.zone.channels.get c = Channel.reset
    let kept := fun t : Machine.State =>
      (∀ i, tget t.cards i = (tget s.cards i).bind fun e => match e.body with
        | .known k => some ⟨e.card, .known { k with engaged := none }⟩
        | .pending _ => none) ∧
      t.tally = recountTally t.cards ∧
      (∀ i, tget t.folios i = (tget s.folios i).map fun x => { x with refs := refsTo t.cards i }) ∧
      t.journal = s.journal ∧ t.clock = ⟨s.clock.time, s.clock.valid, 0, 0⟩ ∧
      ∀ c, t.zone.channels.get c = { Channel.reset with lockout := (s.zone.channels.get c).lockout }
    (∀ d : StoreDamage,
      let found : StoreCheck := if s.save ≠ none then .fails else match d, s.store.check with
        | .none, x => x
        | .oneBit, .agrees => .oneBit
        | _, _ => .fails
      let cfg := if found = .fails then Setup.default else s.store.image
      let result : SetupResult := match found with
        | .agrees => .loaded
        | .oneBit => .corrected
        | .fails => .defaulted
      (∃ t : Machine.State, exec (.powerUp d) s = .next t ∧ started cfg t ∧ lost t ∧
        t.phase = .starting ⟨.cold, false, result, 0, false⟩ 0 0 ∧ t.store = ⟨s.store.image, found⟩) ∧
      (∀ (b : Bool) (i : Instr), i = .resetInput d b ∨ i = .mainSupplyLoss d b → s.tablesLaw →
        let keeps := s.retention.marker = true ∧ s.retention.agrees = true ∧ b = false
        ∃ t : Machine.State, exec i s = .next t ∧ started cfg t ∧ (keeps → kept t) ∧ (¬keeps → lost t) ∧
          t.phase = .starting ⟨.warm, decide keeps, result, 0, false⟩ 0 0 ∧ t.store = ⟨s.store.image, found⟩)) ∧
    (∀ (tag : Octet) (body : List Octet), tag ≠ 0 →
      let f : Frame := ⟨0x38, tag, body⟩
      s.hasTurn f →
        (body ≠ [] → exec (.restart tag body) s = .next ((s.arrive f).answered f ⟨.malformed, []⟩)) ∧
        (body = [] → s.save ≠ none → exec (.restart tag body) s = .next ((s.arrive f).answered f ⟨.busy, []⟩)) ∧
        (body = [] → s.save = none → s.tablesLaw →
          let keeps := s.retention.agrees = true ∧ Config.retentionDamaged s.free = false
          ∃ t : Machine.State, exec (.restart tag body) s = .next t ∧ started s.setup t ∧
            (keeps → kept t) ∧ (¬keeps → lost t) ∧
            t.phase = .starting ⟨.restart, decide keeps, .kept, tag, decide (s.mode = .maintenance)⟩ 0 0 ∧
            t.store = s.store)) ∧
    exec .retentionSupplyLoss s = .next { s with retention := { s.retention with marker := false } } ∧
    (s.phase = .running → ∀ low, exec (.startUpEnd low) s = .next s) ∧
    (∀ info n lows low, s.phase = .starting info n lows → s.slotLaw →
      let mode : OpMode := if low = false ∧ (info.result = .defaulted ∨ s.setup.valid = false ∨ info.inMaintenance = true)
        then .maintenance else .normal
      ∃ u : Machine.State, exec (.startUpEnd low) s = .next u.close ∧ u.phase = .running ∧ u.mode = mode ∧
        u.evac = { s.evac with
          line := low, lineCount := if low then 0 else min s.evac.lineCount 49, state := if low then .evacuation else .normal } ∧
        u.link.notices.head? = some (.start info.kind info.kept info.result mode info.tag) ∧
        (∀ c, s.setup.inUse c = true →
          let st := (u.zone.channels.get c).state
          let home := s.pins.home.get c = true
          let withdrawn := s.pins.withdrawn.get c = true
          let x := s.setup.channels.get c
          let opened := x.mode = .level ∧ s.pins.contact.get c = x.contactHigh
          let inhibited := (s.zone.groups.get (groupOf c)).inhibited = true
          (low = false → home → st = .locked) ∧
          (low = false → ¬home → x.kind = .cabin → opened → st = .openHold .waitClose) ∧
          (low = false → ¬home → x.kind = .gate ∨ ¬opened → s.setup.timing.relockDelay ≠ 0 →
            st = .openHold (.relockDelay (s.setup.timing.relockDelay * 1000))) ∧
          (low = true → (u.zone.channels.get c).release = true) ∧
          (low = true → ¬home → withdrawn → st = .released) ∧
          (low = true → home ∨ ¬withdrawn → inhibited → st = .inhibited (.openEnd .expired)) ∧
          (low = true → ¬withdrawn → ¬inhibited → st = .unlockWait .expired ∨ st = .unlocking .expired)) ∧
        (∀ l, s.zone.lanes.get l = ⟨.closed, 0, 0, 0, 0, false⟩ →
          let used := (s.setup.lanes.get l).used = true
          let fails := (info.result = .defaulted ∨ s.setup.valid = false ∨ info.inMaintenance = true) ∧
            s.setup.laneFits l = false
          (low = true → used → ¬fails → u.zone.lanes.get l = ⟨.heldOpen .closed, 0, 0, 0, 0, false⟩) ∧
          (low = true → used → fails → u.zone.lanes.get l = ⟨.closed, 0, 0, 0, 0, true⟩) ∧
          (low = false ∨ ¬used → u.zone.lanes.get l = ⟨.closed, 0, 0, 0, 0, false⟩)) ∧
        (low = true → u.link.notices[1]? = some (.evacuation .evacuation true s.evac.host .start 0 0)))
end

