-- ==== Sys2Proof/Laws/State.lean ====
section
/-! SUPPORT. What each update of State leaves as it was: one lemma for each field an update does not write. -/

namespace Sys2Proof.Machine

@[simp] theorem State.notify_pending (n : Notice) (s : State) : (s.notify n).pending = s.pending := rfl
@[simp] theorem State.notify_samples (n : Notice) (s : State) : (s.notify n).samples = s.samples := rfl
@[simp] theorem State.notify_free (n : Notice) (s : State) : (s.notify n).free = s.free := rfl
@[simp] theorem State.notify_pins (n : Notice) (s : State) : (s.notify n).pins = s.pins := rfl
@[simp] theorem State.notify_phase (n : Notice) (s : State) : (s.notify n).phase = s.phase := rfl
@[simp] theorem State.notify_mode (n : Notice) (s : State) : (s.notify n).mode = s.mode := rfl
@[simp] theorem State.notify_setup (n : Notice) (s : State) : (s.notify n).setup = s.setup := rfl
@[simp] theorem State.notify_store (n : Notice) (s : State) : (s.notify n).store = s.store := rfl
@[simp] theorem State.notify_save (n : Notice) (s : State) : (s.notify n).save = s.save := rfl
@[simp] theorem State.notify_retention (n : Notice) (s : State) : (s.notify n).retention = s.retention := rfl
@[simp] theorem State.notify_readers (n : Notice) (s : State) : (s.notify n).readers = s.readers := rfl
@[simp] theorem State.notify_bus (n : Notice) (s : State) : (s.notify n).bus = s.bus := rfl
@[simp] theorem State.notify_cards (n : Notice) (s : State) : (s.notify n).cards = s.cards := rfl
@[simp] theorem State.notify_tally (n : Notice) (s : State) : (s.notify n).tally = s.tally := rfl
@[simp] theorem State.notify_zone (n : Notice) (s : State) : (s.notify n).zone = s.zone := rfl
@[simp] theorem State.notify_alarms (n : Notice) (s : State) : (s.notify n).alarms = s.alarms := rfl
@[simp] theorem State.notify_deadline (n : Notice) (s : State) : (s.notify n).deadline = s.deadline := rfl
@[simp] theorem State.notify_tills (n : Notice) (s : State) : (s.notify n).tills = s.tills := rfl
@[simp] theorem State.notify_folios (n : Notice) (s : State) : (s.notify n).folios = s.folios := rfl
@[simp] theorem State.notify_journal (n : Notice) (s : State) : (s.notify n).journal = s.journal := rfl
@[simp] theorem State.notify_authority (n : Notice) (s : State) : (s.notify n).authority = s.authority := rfl
@[simp] theorem State.notify_clock (n : Notice) (s : State) : (s.notify n).clock = s.clock := rfl
@[simp] theorem State.notify_evac (n : Notice) (s : State) : (s.notify n).evac = s.evac := rfl

@[simp] theorem State.setReader_pending (r : ReaderNo) (f : Reader → Reader) (s : State) : (s.setReader r f).pending = s.pending := rfl
@[simp] theorem State.setReader_samples (r : ReaderNo) (f : Reader → Reader) (s : State) : (s.setReader r f).samples = s.samples := rfl
@[simp] theorem State.setReader_free (r : ReaderNo) (f : Reader → Reader) (s : State) : (s.setReader r f).free = s.free := rfl
@[simp] theorem State.setReader_pins (r : ReaderNo) (f : Reader → Reader) (s : State) : (s.setReader r f).pins = s.pins := rfl
@[simp] theorem State.setReader_phase (r : ReaderNo) (f : Reader → Reader) (s : State) : (s.setReader r f).phase = s.phase := rfl
@[simp] theorem State.setReader_mode (r : ReaderNo) (f : Reader → Reader) (s : State) : (s.setReader r f).mode = s.mode := rfl
@[simp] theorem State.setReader_setup (r : ReaderNo) (f : Reader → Reader) (s : State) : (s.setReader r f).setup = s.setup := rfl
@[simp] theorem State.setReader_store (r : ReaderNo) (f : Reader → Reader) (s : State) : (s.setReader r f).store = s.store := rfl
@[simp] theorem State.setReader_save (r : ReaderNo) (f : Reader → Reader) (s : State) : (s.setReader r f).save = s.save := rfl
@[simp] theorem State.setReader_retention (r : ReaderNo) (f : Reader → Reader) (s : State) : (s.setReader r f).retention = s.retention := rfl
@[simp] theorem State.setReader_link (r : ReaderNo) (f : Reader → Reader) (s : State) : (s.setReader r f).link = s.link := rfl
@[simp] theorem State.setReader_bus (r : ReaderNo) (f : Reader → Reader) (s : State) : (s.setReader r f).bus = s.bus := rfl
@[simp] theorem State.setReader_cards (r : ReaderNo) (f : Reader → Reader) (s : State) : (s.setReader r f).cards = s.cards := rfl
@[simp] theorem State.setReader_tally (r : ReaderNo) (f : Reader → Reader) (s : State) : (s.setReader r f).tally = s.tally := rfl
@[simp] theorem State.setReader_zone (r : ReaderNo) (f : Reader → Reader) (s : State) : (s.setReader r f).zone = s.zone := rfl
@[simp] theorem State.setReader_alarms (r : ReaderNo) (f : Reader → Reader) (s : State) : (s.setReader r f).alarms = s.alarms := rfl
@[simp] theorem State.setReader_deadline (r : ReaderNo) (f : Reader → Reader) (s : State) : (s.setReader r f).deadline = s.deadline := rfl
@[simp] theorem State.setReader_tills (r : ReaderNo) (f : Reader → Reader) (s : State) : (s.setReader r f).tills = s.tills := rfl
@[simp] theorem State.setReader_folios (r : ReaderNo) (f : Reader → Reader) (s : State) : (s.setReader r f).folios = s.folios := rfl
@[simp] theorem State.setReader_journal (r : ReaderNo) (f : Reader → Reader) (s : State) : (s.setReader r f).journal = s.journal := rfl
@[simp] theorem State.setReader_authority (r : ReaderNo) (f : Reader → Reader) (s : State) : (s.setReader r f).authority = s.authority := rfl
@[simp] theorem State.setReader_clock (r : ReaderNo) (f : Reader → Reader) (s : State) : (s.setReader r f).clock = s.clock := rfl
@[simp] theorem State.setReader_evac (r : ReaderNo) (f : Reader → Reader) (s : State) : (s.setReader r f).evac = s.evac := rfl

@[simp] theorem State.setTill_pending (t : TillNo) (f : Till → Till) (s : State) : (s.setTill t f).pending = s.pending := rfl
@[simp] theorem State.setTill_samples (t : TillNo) (f : Till → Till) (s : State) : (s.setTill t f).samples = s.samples := rfl
@[simp] theorem State.setTill_free (t : TillNo) (f : Till → Till) (s : State) : (s.setTill t f).free = s.free := rfl
@[simp] theorem State.setTill_pins (t : TillNo) (f : Till → Till) (s : State) : (s.setTill t f).pins = s.pins := rfl
@[simp] theorem State.setTill_phase (t : TillNo) (f : Till → Till) (s : State) : (s.setTill t f).phase = s.phase := rfl
@[simp] theorem State.setTill_mode (t : TillNo) (f : Till → Till) (s : State) : (s.setTill t f).mode = s.mode := rfl
@[simp] theorem State.setTill_setup (t : TillNo) (f : Till → Till) (s : State) : (s.setTill t f).setup = s.setup := rfl
@[simp] theorem State.setTill_store (t : TillNo) (f : Till → Till) (s : State) : (s.setTill t f).store = s.store := rfl
@[simp] theorem State.setTill_save (t : TillNo) (f : Till → Till) (s : State) : (s.setTill t f).save = s.save := rfl
@[simp] theorem State.setTill_retention (t : TillNo) (f : Till → Till) (s : State) : (s.setTill t f).retention = s.retention := rfl
@[simp] theorem State.setTill_link (t : TillNo) (f : Till → Till) (s : State) : (s.setTill t f).link = s.link := rfl
@[simp] theorem State.setTill_readers (t : TillNo) (f : Till → Till) (s : State) : (s.setTill t f).readers = s.readers := rfl
@[simp] theorem State.setTill_bus (t : TillNo) (f : Till → Till) (s : State) : (s.setTill t f).bus = s.bus := rfl
@[simp] theorem State.setTill_cards (t : TillNo) (f : Till → Till) (s : State) : (s.setTill t f).cards = s.cards := rfl
@[simp] theorem State.setTill_tally (t : TillNo) (f : Till → Till) (s : State) : (s.setTill t f).tally = s.tally := rfl
@[simp] theorem State.setTill_zone (t : TillNo) (f : Till → Till) (s : State) : (s.setTill t f).zone = s.zone := rfl
@[simp] theorem State.setTill_alarms (t : TillNo) (f : Till → Till) (s : State) : (s.setTill t f).alarms = s.alarms := rfl
@[simp] theorem State.setTill_deadline (t : TillNo) (f : Till → Till) (s : State) : (s.setTill t f).deadline = s.deadline := rfl
@[simp] theorem State.setTill_folios (t : TillNo) (f : Till → Till) (s : State) : (s.setTill t f).folios = s.folios := rfl
@[simp] theorem State.setTill_journal (t : TillNo) (f : Till → Till) (s : State) : (s.setTill t f).journal = s.journal := rfl
@[simp] theorem State.setTill_authority (t : TillNo) (f : Till → Till) (s : State) : (s.setTill t f).authority = s.authority := rfl
@[simp] theorem State.setTill_clock (t : TillNo) (f : Till → Till) (s : State) : (s.setTill t f).clock = s.clock := rfl
@[simp] theorem State.setTill_evac (t : TillNo) (f : Till → Till) (s : State) : (s.setTill t f).evac = s.evac := rfl

@[simp] theorem State.onZone_pending (f : Zone → Zone) (s : State) : (s.onZone f).pending = s.pending := rfl
@[simp] theorem State.onZone_samples (f : Zone → Zone) (s : State) : (s.onZone f).samples = s.samples := rfl
@[simp] theorem State.onZone_free (f : Zone → Zone) (s : State) : (s.onZone f).free = s.free := rfl
@[simp] theorem State.onZone_pins (f : Zone → Zone) (s : State) : (s.onZone f).pins = s.pins := rfl
@[simp] theorem State.onZone_phase (f : Zone → Zone) (s : State) : (s.onZone f).phase = s.phase := rfl
@[simp] theorem State.onZone_mode (f : Zone → Zone) (s : State) : (s.onZone f).mode = s.mode := rfl
@[simp] theorem State.onZone_setup (f : Zone → Zone) (s : State) : (s.onZone f).setup = s.setup := rfl
@[simp] theorem State.onZone_store (f : Zone → Zone) (s : State) : (s.onZone f).store = s.store := rfl
@[simp] theorem State.onZone_save (f : Zone → Zone) (s : State) : (s.onZone f).save = s.save := rfl
@[simp] theorem State.onZone_retention (f : Zone → Zone) (s : State) : (s.onZone f).retention = s.retention := rfl
@[simp] theorem State.onZone_link (f : Zone → Zone) (s : State) : (s.onZone f).link = s.link := rfl
@[simp] theorem State.onZone_readers (f : Zone → Zone) (s : State) : (s.onZone f).readers = s.readers := rfl
@[simp] theorem State.onZone_bus (f : Zone → Zone) (s : State) : (s.onZone f).bus = s.bus := rfl
@[simp] theorem State.onZone_cards (f : Zone → Zone) (s : State) : (s.onZone f).cards = s.cards := rfl
@[simp] theorem State.onZone_tally (f : Zone → Zone) (s : State) : (s.onZone f).tally = s.tally := rfl
@[simp] theorem State.onZone_alarms (f : Zone → Zone) (s : State) : (s.onZone f).alarms = s.alarms := rfl
@[simp] theorem State.onZone_deadline (f : Zone → Zone) (s : State) : (s.onZone f).deadline = s.deadline := rfl
@[simp] theorem State.onZone_tills (f : Zone → Zone) (s : State) : (s.onZone f).tills = s.tills := rfl
@[simp] theorem State.onZone_folios (f : Zone → Zone) (s : State) : (s.onZone f).folios = s.folios := rfl
@[simp] theorem State.onZone_journal (f : Zone → Zone) (s : State) : (s.onZone f).journal = s.journal := rfl
@[simp] theorem State.onZone_authority (f : Zone → Zone) (s : State) : (s.onZone f).authority = s.authority := rfl
@[simp] theorem State.onZone_clock (f : Zone → Zone) (s : State) : (s.onZone f).clock = s.clock := rfl
@[simp] theorem State.onZone_evac (f : Zone → Zone) (s : State) : (s.onZone f).evac = s.evac := rfl

@[simp] theorem State.setEntry_pending (i : Nat) (e : Option Entry) (s : State) : (s.setEntry i e).pending = s.pending := rfl
@[simp] theorem State.setEntry_samples (i : Nat) (e : Option Entry) (s : State) : (s.setEntry i e).samples = s.samples := rfl
@[simp] theorem State.setEntry_free (i : Nat) (e : Option Entry) (s : State) : (s.setEntry i e).free = s.free := rfl
@[simp] theorem State.setEntry_pins (i : Nat) (e : Option Entry) (s : State) : (s.setEntry i e).pins = s.pins := rfl
@[simp] theorem State.setEntry_phase (i : Nat) (e : Option Entry) (s : State) : (s.setEntry i e).phase = s.phase := rfl
@[simp] theorem State.setEntry_mode (i : Nat) (e : Option Entry) (s : State) : (s.setEntry i e).mode = s.mode := rfl
@[simp] theorem State.setEntry_setup (i : Nat) (e : Option Entry) (s : State) : (s.setEntry i e).setup = s.setup := rfl
@[simp] theorem State.setEntry_store (i : Nat) (e : Option Entry) (s : State) : (s.setEntry i e).store = s.store := rfl
@[simp] theorem State.setEntry_save (i : Nat) (e : Option Entry) (s : State) : (s.setEntry i e).save = s.save := rfl
@[simp] theorem State.setEntry_retention (i : Nat) (e : Option Entry) (s : State) : (s.setEntry i e).retention = s.retention := rfl
@[simp] theorem State.setEntry_link (i : Nat) (e : Option Entry) (s : State) : (s.setEntry i e).link = s.link := rfl
@[simp] theorem State.setEntry_readers (i : Nat) (e : Option Entry) (s : State) : (s.setEntry i e).readers = s.readers := rfl
@[simp] theorem State.setEntry_bus (i : Nat) (e : Option Entry) (s : State) : (s.setEntry i e).bus = s.bus := rfl
@[simp] theorem State.setEntry_zone (i : Nat) (e : Option Entry) (s : State) : (s.setEntry i e).zone = s.zone := rfl
@[simp] theorem State.setEntry_alarms (i : Nat) (e : Option Entry) (s : State) : (s.setEntry i e).alarms = s.alarms := rfl
@[simp] theorem State.setEntry_deadline (i : Nat) (e : Option Entry) (s : State) : (s.setEntry i e).deadline = s.deadline := rfl
@[simp] theorem State.setEntry_tills (i : Nat) (e : Option Entry) (s : State) : (s.setEntry i e).tills = s.tills := rfl
@[simp] theorem State.setEntry_journal (i : Nat) (e : Option Entry) (s : State) : (s.setEntry i e).journal = s.journal := rfl
@[simp] theorem State.setEntry_authority (i : Nat) (e : Option Entry) (s : State) : (s.setEntry i e).authority = s.authority := rfl
@[simp] theorem State.setEntry_clock (i : Nat) (e : Option Entry) (s : State) : (s.setEntry i e).clock = s.clock := rfl
@[simp] theorem State.setEntry_evac (i : Nat) (e : Option Entry) (s : State) : (s.setEntry i e).evac = s.evac := rfl

@[simp] theorem State.onSetup_pending (f : Setup → Setup) (s : State) : (s.onSetup f).pending = s.pending := rfl
@[simp] theorem State.onSetup_samples (f : Setup → Setup) (s : State) : (s.onSetup f).samples = s.samples := rfl
@[simp] theorem State.onSetup_free (f : Setup → Setup) (s : State) : (s.onSetup f).free = s.free := rfl
@[simp] theorem State.onSetup_pins (f : Setup → Setup) (s : State) : (s.onSetup f).pins = s.pins := rfl
@[simp] theorem State.onSetup_phase (f : Setup → Setup) (s : State) : (s.onSetup f).phase = s.phase := rfl
@[simp] theorem State.onSetup_mode (f : Setup → Setup) (s : State) : (s.onSetup f).mode = s.mode := rfl
@[simp] theorem State.onSetup_store (f : Setup → Setup) (s : State) : (s.onSetup f).store = s.store := rfl
@[simp] theorem State.onSetup_save (f : Setup → Setup) (s : State) : (s.onSetup f).save = s.save := rfl
@[simp] theorem State.onSetup_retention (f : Setup → Setup) (s : State) : (s.onSetup f).retention = s.retention := rfl
@[simp] theorem State.onSetup_link (f : Setup → Setup) (s : State) : (s.onSetup f).link = s.link := rfl
@[simp] theorem State.onSetup_readers (f : Setup → Setup) (s : State) : (s.onSetup f).readers = s.readers := rfl
@[simp] theorem State.onSetup_bus (f : Setup → Setup) (s : State) : (s.onSetup f).bus = s.bus := rfl
@[simp] theorem State.onSetup_cards (f : Setup → Setup) (s : State) : (s.onSetup f).cards = s.cards := rfl
@[simp] theorem State.onSetup_tally (f : Setup → Setup) (s : State) : (s.onSetup f).tally = s.tally := rfl
@[simp] theorem State.onSetup_zone (f : Setup → Setup) (s : State) : (s.onSetup f).zone = s.zone := rfl
@[simp] theorem State.onSetup_alarms (f : Setup → Setup) (s : State) : (s.onSetup f).alarms = s.alarms := rfl
@[simp] theorem State.onSetup_deadline (f : Setup → Setup) (s : State) : (s.onSetup f).deadline = s.deadline := rfl
@[simp] theorem State.onSetup_tills (f : Setup → Setup) (s : State) : (s.onSetup f).tills = s.tills := rfl
@[simp] theorem State.onSetup_folios (f : Setup → Setup) (s : State) : (s.onSetup f).folios = s.folios := rfl
@[simp] theorem State.onSetup_journal (f : Setup → Setup) (s : State) : (s.onSetup f).journal = s.journal := rfl
@[simp] theorem State.onSetup_authority (f : Setup → Setup) (s : State) : (s.onSetup f).authority = s.authority := rfl
@[simp] theorem State.onSetup_clock (f : Setup → Setup) (s : State) : (s.onSetup f).clock = s.clock := rfl
@[simp] theorem State.onSetup_evac (f : Setup → Setup) (s : State) : (s.onSetup f).evac = s.evac := rfl

@[simp] theorem State.dropFrame_pending (f : Link → Link) (s : State) : (s.dropFrame f).pending = s.pending := rfl
@[simp] theorem State.dropFrame_samples (f : Link → Link) (s : State) : (s.dropFrame f).samples = s.samples := rfl
@[simp] theorem State.dropFrame_free (f : Link → Link) (s : State) : (s.dropFrame f).free = s.free := rfl
@[simp] theorem State.dropFrame_pins (f : Link → Link) (s : State) : (s.dropFrame f).pins = s.pins := rfl
@[simp] theorem State.dropFrame_phase (f : Link → Link) (s : State) : (s.dropFrame f).phase = s.phase := rfl
@[simp] theorem State.dropFrame_mode (f : Link → Link) (s : State) : (s.dropFrame f).mode = s.mode := rfl
@[simp] theorem State.dropFrame_setup (f : Link → Link) (s : State) : (s.dropFrame f).setup = s.setup := rfl
@[simp] theorem State.dropFrame_store (f : Link → Link) (s : State) : (s.dropFrame f).store = s.store := rfl
@[simp] theorem State.dropFrame_save (f : Link → Link) (s : State) : (s.dropFrame f).save = s.save := rfl
@[simp] theorem State.dropFrame_retention (f : Link → Link) (s : State) : (s.dropFrame f).retention = s.retention := rfl
@[simp] theorem State.dropFrame_readers (f : Link → Link) (s : State) : (s.dropFrame f).readers = s.readers := rfl
@[simp] theorem State.dropFrame_bus (f : Link → Link) (s : State) : (s.dropFrame f).bus = s.bus := rfl
@[simp] theorem State.dropFrame_cards (f : Link → Link) (s : State) : (s.dropFrame f).cards = s.cards := rfl
@[simp] theorem State.dropFrame_tally (f : Link → Link) (s : State) : (s.dropFrame f).tally = s.tally := rfl
@[simp] theorem State.dropFrame_zone (f : Link → Link) (s : State) : (s.dropFrame f).zone = s.zone := rfl
@[simp] theorem State.dropFrame_alarms (f : Link → Link) (s : State) : (s.dropFrame f).alarms = s.alarms := rfl
@[simp] theorem State.dropFrame_deadline (f : Link → Link) (s : State) : (s.dropFrame f).deadline = s.deadline := rfl
@[simp] theorem State.dropFrame_tills (f : Link → Link) (s : State) : (s.dropFrame f).tills = s.tills := rfl
@[simp] theorem State.dropFrame_folios (f : Link → Link) (s : State) : (s.dropFrame f).folios = s.folios := rfl
@[simp] theorem State.dropFrame_journal (f : Link → Link) (s : State) : (s.dropFrame f).journal = s.journal := rfl
@[simp] theorem State.dropFrame_authority (f : Link → Link) (s : State) : (s.dropFrame f).authority = s.authority := rfl
@[simp] theorem State.dropFrame_clock (f : Link → Link) (s : State) : (s.dropFrame f).clock = s.clock := rfl
@[simp] theorem State.dropFrame_evac (f : Link → Link) (s : State) : (s.dropFrame f).evac = s.evac := rfl

@[simp] theorem State.fresh_pending (s : State) : s.fresh.pending = s.pending := rfl
@[simp] theorem State.fresh_samples (s : State) : s.fresh.samples = s.samples := rfl
@[simp] theorem State.fresh_pins (s : State) : s.fresh.pins = s.pins := rfl
@[simp] theorem State.fresh_phase (s : State) : s.fresh.phase = s.phase := rfl
@[simp] theorem State.fresh_mode (s : State) : s.fresh.mode = s.mode := rfl
@[simp] theorem State.fresh_setup (s : State) : s.fresh.setup = s.setup := rfl
@[simp] theorem State.fresh_store (s : State) : s.fresh.store = s.store := rfl
@[simp] theorem State.fresh_save (s : State) : s.fresh.save = s.save := rfl
@[simp] theorem State.fresh_retention (s : State) : s.fresh.retention = s.retention := rfl
@[simp] theorem State.fresh_link (s : State) : s.fresh.link = s.link := rfl
@[simp] theorem State.fresh_readers (s : State) : s.fresh.readers = s.readers := rfl
@[simp] theorem State.fresh_bus (s : State) : s.fresh.bus = s.bus := rfl
@[simp] theorem State.fresh_cards (s : State) : s.fresh.cards = s.cards := rfl
@[simp] theorem State.fresh_tally (s : State) : s.fresh.tally = s.tally := rfl
@[simp] theorem State.fresh_zone (s : State) : s.fresh.zone = s.zone := rfl
@[simp] theorem State.fresh_alarms (s : State) : s.fresh.alarms = s.alarms := rfl
@[simp] theorem State.fresh_deadline (s : State) : s.fresh.deadline = s.deadline := rfl
@[simp] theorem State.fresh_tills (s : State) : s.fresh.tills = s.tills := rfl
@[simp] theorem State.fresh_folios (s : State) : s.fresh.folios = s.folios := rfl
@[simp] theorem State.fresh_journal (s : State) : s.fresh.journal = s.journal := rfl
@[simp] theorem State.fresh_authority (s : State) : s.fresh.authority = s.authority := rfl
@[simp] theorem State.fresh_clock (s : State) : s.fresh.clock = s.clock := rfl
@[simp] theorem State.fresh_evac (s : State) : s.fresh.evac = s.evac := rfl

@[simp] theorem State.close_pending (s : State) : s.close.pending = s.pending := by
  unfold State.close; split <;> rfl
@[simp] theorem State.close_samples (s : State) : s.close.samples = s.samples := by
  unfold State.close; split <;> rfl
@[simp] theorem State.close_free (s : State) : s.close.free = s.free := by
  unfold State.close; split <;> rfl
@[simp] theorem State.close_pins (s : State) : s.close.pins = s.pins := by
  unfold State.close; split <;> rfl
@[simp] theorem State.close_phase (s : State) : s.close.phase = s.phase := by
  unfold State.close; split <;> rfl
@[simp] theorem State.close_mode (s : State) : s.close.mode = s.mode := by
  unfold State.close; split <;> rfl
@[simp] theorem State.close_setup (s : State) : s.close.setup = s.setup := by
  unfold State.close; split <;> rfl
@[simp] theorem State.close_store (s : State) : s.close.store = s.store := by
  unfold State.close; split <;> rfl
@[simp] theorem State.close_save (s : State) : s.close.save = s.save := by
  unfold State.close; split <;> rfl
@[simp] theorem State.close_retention (s : State) : s.close.retention = s.retention := by
  unfold State.close; split <;> rfl
@[simp] theorem State.close_readers (s : State) : s.close.readers = s.readers := by
  unfold State.close; split <;> rfl
@[simp] theorem State.close_bus (s : State) : s.close.bus = s.bus := by
  unfold State.close; split <;> rfl
@[simp] theorem State.close_cards (s : State) : s.close.cards = s.cards := by
  unfold State.close; split <;> rfl
@[simp] theorem State.close_tally (s : State) : s.close.tally = s.tally := by
  unfold State.close; split <;> rfl
@[simp] theorem State.close_zone (s : State) : s.close.zone = s.zone := by
  unfold State.close; split <;> rfl
@[simp] theorem State.close_alarms (s : State) : s.close.alarms = s.alarms := by
  unfold State.close; split <;> rfl
@[simp] theorem State.close_deadline (s : State) : s.close.deadline = s.deadline := by
  unfold State.close; split <;> rfl
@[simp] theorem State.close_tills (s : State) : s.close.tills = s.tills := by
  unfold State.close; split <;> rfl
@[simp] theorem State.close_folios (s : State) : s.close.folios = s.folios := by
  unfold State.close; split <;> rfl
@[simp] theorem State.close_journal (s : State) : s.close.journal = s.journal := by
  unfold State.close; split <;> rfl
@[simp] theorem State.close_authority (s : State) : s.close.authority = s.authority := by
  unfold State.close; split <;> rfl
@[simp] theorem State.close_clock (s : State) : s.close.clock = s.clock := by
  unfold State.close; split <;> rfl
@[simp] theorem State.close_evac (s : State) : s.close.evac = s.evac := by
  unfold State.close; split <;> rfl

@[simp] theorem State.arrive_pending (f : Frame) (s : State) : (s.arrive f).pending = s.pending := by
  unfold State.arrive; split <;> rfl
@[simp] theorem State.arrive_samples (f : Frame) (s : State) : (s.arrive f).samples = s.samples := by
  unfold State.arrive; split <;> rfl
@[simp] theorem State.arrive_free (f : Frame) (s : State) : (s.arrive f).free = s.free := by
  unfold State.arrive; split <;> rfl
@[simp] theorem State.arrive_pins (f : Frame) (s : State) : (s.arrive f).pins = s.pins := by
  unfold State.arrive; split <;> rfl
@[simp] theorem State.arrive_phase (f : Frame) (s : State) : (s.arrive f).phase = s.phase := by
  unfold State.arrive; split <;> rfl
@[simp] theorem State.arrive_mode (f : Frame) (s : State) : (s.arrive f).mode = s.mode := by
  unfold State.arrive; split <;> rfl
@[simp] theorem State.arrive_setup (f : Frame) (s : State) : (s.arrive f).setup = s.setup := by
  unfold State.arrive; split <;> rfl
@[simp] theorem State.arrive_store (f : Frame) (s : State) : (s.arrive f).store = s.store := by
  unfold State.arrive; split <;> rfl
@[simp] theorem State.arrive_save (f : Frame) (s : State) : (s.arrive f).save = s.save := by
  unfold State.arrive; split <;> rfl
@[simp] theorem State.arrive_retention (f : Frame) (s : State) : (s.arrive f).retention = s.retention := by
  unfold State.arrive; split <;> rfl
@[simp] theorem State.arrive_readers (f : Frame) (s : State) : (s.arrive f).readers = s.readers := by
  unfold State.arrive; split <;> rfl
@[simp] theorem State.arrive_bus (f : Frame) (s : State) : (s.arrive f).bus = s.bus := by
  unfold State.arrive; split <;> rfl
@[simp] theorem State.arrive_cards (f : Frame) (s : State) : (s.arrive f).cards = s.cards := by
  unfold State.arrive; split <;> rfl
@[simp] theorem State.arrive_tally (f : Frame) (s : State) : (s.arrive f).tally = s.tally := by
  unfold State.arrive; split <;> rfl
@[simp] theorem State.arrive_zone (f : Frame) (s : State) : (s.arrive f).zone = s.zone := by
  unfold State.arrive; split <;> rfl
@[simp] theorem State.arrive_alarms (f : Frame) (s : State) : (s.arrive f).alarms = s.alarms := by
  unfold State.arrive; split <;> rfl
@[simp] theorem State.arrive_deadline (f : Frame) (s : State) : (s.arrive f).deadline = s.deadline := by
  unfold State.arrive; split <;> rfl
@[simp] theorem State.arrive_tills (f : Frame) (s : State) : (s.arrive f).tills = s.tills := by
  unfold State.arrive; split <;> rfl
@[simp] theorem State.arrive_folios (f : Frame) (s : State) : (s.arrive f).folios = s.folios := by
  unfold State.arrive; split <;> rfl
@[simp] theorem State.arrive_journal (f : Frame) (s : State) : (s.arrive f).journal = s.journal := by
  unfold State.arrive; split <;> rfl
@[simp] theorem State.arrive_authority (f : Frame) (s : State) : (s.arrive f).authority = s.authority := by
  unfold State.arrive; split <;> rfl
@[simp] theorem State.arrive_clock (f : Frame) (s : State) : (s.arrive f).clock = s.clock := by
  unfold State.arrive; split <;> rfl
@[simp] theorem State.arrive_evac (f : Frame) (s : State) : (s.arrive f).evac = s.evac := by
  unfold State.arrive; split <;> rfl

@[simp] theorem State.raise_pending (a : Alarm) (s : State) : (s.raise a).pending = s.pending := by
  unfold State.raise; split <;> rfl
@[simp] theorem State.raise_samples (a : Alarm) (s : State) : (s.raise a).samples = s.samples := by
  unfold State.raise; split <;> rfl
@[simp] theorem State.raise_free (a : Alarm) (s : State) : (s.raise a).free = s.free := by
  unfold State.raise; split <;> rfl
@[simp] theorem State.raise_pins (a : Alarm) (s : State) : (s.raise a).pins = s.pins := by
  unfold State.raise; split <;> rfl
@[simp] theorem State.raise_phase (a : Alarm) (s : State) : (s.raise a).phase = s.phase := by
  unfold State.raise; split <;> rfl
@[simp] theorem State.raise_mode (a : Alarm) (s : State) : (s.raise a).mode = s.mode := by
  unfold State.raise; split <;> rfl
@[simp] theorem State.raise_setup (a : Alarm) (s : State) : (s.raise a).setup = s.setup := by
  unfold State.raise; split <;> rfl
@[simp] theorem State.raise_store (a : Alarm) (s : State) : (s.raise a).store = s.store := by
  unfold State.raise; split <;> rfl
@[simp] theorem State.raise_save (a : Alarm) (s : State) : (s.raise a).save = s.save := by
  unfold State.raise; split <;> rfl
@[simp] theorem State.raise_retention (a : Alarm) (s : State) : (s.raise a).retention = s.retention := by
  unfold State.raise; split <;> rfl
@[simp] theorem State.raise_readers (a : Alarm) (s : State) : (s.raise a).readers = s.readers := by
  unfold State.raise; split <;> rfl
@[simp] theorem State.raise_bus (a : Alarm) (s : State) : (s.raise a).bus = s.bus := by
  unfold State.raise; split <;> rfl
@[simp] theorem State.raise_cards (a : Alarm) (s : State) : (s.raise a).cards = s.cards := by
  unfold State.raise; split <;> rfl
@[simp] theorem State.raise_tally (a : Alarm) (s : State) : (s.raise a).tally = s.tally := by
  unfold State.raise; split <;> rfl
@[simp] theorem State.raise_zone (a : Alarm) (s : State) : (s.raise a).zone = s.zone := by
  unfold State.raise; split <;> rfl
@[simp] theorem State.raise_deadline (a : Alarm) (s : State) : (s.raise a).deadline = s.deadline := by
  unfold State.raise; split <;> rfl
@[simp] theorem State.raise_tills (a : Alarm) (s : State) : (s.raise a).tills = s.tills := by
  unfold State.raise; split <;> rfl
@[simp] theorem State.raise_folios (a : Alarm) (s : State) : (s.raise a).folios = s.folios := by
  unfold State.raise; split <;> rfl
@[simp] theorem State.raise_journal (a : Alarm) (s : State) : (s.raise a).journal = s.journal := by
  unfold State.raise; split <;> rfl
@[simp] theorem State.raise_authority (a : Alarm) (s : State) : (s.raise a).authority = s.authority := by
  unfold State.raise; split <;> rfl
@[simp] theorem State.raise_clock (a : Alarm) (s : State) : (s.raise a).clock = s.clock := by
  unfold State.raise; split <;> rfl
@[simp] theorem State.raise_evac (a : Alarm) (s : State) : (s.raise a).evac = s.evac := by
  unfold State.raise; split <;> rfl

@[simp] theorem State.relockTest_pending (s : State) : s.relockTest.pending = s.pending := by
  unfold State.relockTest; split <;> rfl
@[simp] theorem State.relockTest_samples (s : State) : s.relockTest.samples = s.samples := by
  unfold State.relockTest; split <;> rfl
@[simp] theorem State.relockTest_free (s : State) : s.relockTest.free = s.free := by
  unfold State.relockTest; split <;> rfl
@[simp] theorem State.relockTest_pins (s : State) : s.relockTest.pins = s.pins := by
  unfold State.relockTest; split <;> rfl
@[simp] theorem State.relockTest_phase (s : State) : s.relockTest.phase = s.phase := by
  unfold State.relockTest; split <;> rfl
@[simp] theorem State.relockTest_mode (s : State) : s.relockTest.mode = s.mode := by
  unfold State.relockTest; split <;> rfl
@[simp] theorem State.relockTest_setup (s : State) : s.relockTest.setup = s.setup := by
  unfold State.relockTest; split <;> rfl
@[simp] theorem State.relockTest_store (s : State) : s.relockTest.store = s.store := by
  unfold State.relockTest; split <;> rfl
@[simp] theorem State.relockTest_save (s : State) : s.relockTest.save = s.save := by
  unfold State.relockTest; split <;> rfl
@[simp] theorem State.relockTest_retention (s : State) : s.relockTest.retention = s.retention := by
  unfold State.relockTest; split <;> rfl
@[simp] theorem State.relockTest_readers (s : State) : s.relockTest.readers = s.readers := by
  unfold State.relockTest; split <;> rfl
@[simp] theorem State.relockTest_bus (s : State) : s.relockTest.bus = s.bus := by
  unfold State.relockTest; split <;> rfl
@[simp] theorem State.relockTest_cards (s : State) : s.relockTest.cards = s.cards := by
  unfold State.relockTest; split <;> rfl
@[simp] theorem State.relockTest_tally (s : State) : s.relockTest.tally = s.tally := by
  unfold State.relockTest; split <;> rfl
@[simp] theorem State.relockTest_zone (s : State) : s.relockTest.zone = s.zone := by
  unfold State.relockTest; split <;> rfl
@[simp] theorem State.relockTest_alarms (s : State) : s.relockTest.alarms = s.alarms := by
  unfold State.relockTest; split <;> rfl
@[simp] theorem State.relockTest_deadline (s : State) : s.relockTest.deadline = s.deadline := by
  unfold State.relockTest; split <;> rfl
@[simp] theorem State.relockTest_tills (s : State) : s.relockTest.tills = s.tills := by
  unfold State.relockTest; split <;> rfl
@[simp] theorem State.relockTest_folios (s : State) : s.relockTest.folios = s.folios := by
  unfold State.relockTest; split <;> rfl
@[simp] theorem State.relockTest_journal (s : State) : s.relockTest.journal = s.journal := by
  unfold State.relockTest; split <;> rfl
@[simp] theorem State.relockTest_authority (s : State) : s.relockTest.authority = s.authority := by
  unfold State.relockTest; split <;> rfl
@[simp] theorem State.relockTest_clock (s : State) : s.relockTest.clock = s.clock := by
  unfold State.relockTest; split <;> rfl

@[simp] theorem State.notify_link (n : Notice) (s : State) : (s.notify n).link = s.link.notify n := rfl
@[simp] theorem State.setReader_readers (r : ReaderNo) (f : Reader → Reader) (s : State) :
    (s.setReader r f).readers = vmod s.readers r f := rfl
@[simp] theorem State.setTill_tills (t : TillNo) (f : Till → Till) (s : State) : (s.setTill t f).tills = vmod s.tills t f := rfl
@[simp] theorem State.onZone_zone (f : Zone → Zone) (s : State) : (s.onZone f).zone = f s.zone := rfl
@[simp] theorem State.onSetup_setup (f : Setup → Setup) (s : State) : (s.onSetup f).setup = f s.setup := rfl
@[simp] theorem State.setEntry_cards (i : Nat) (e : Option Entry) (s : State) : (s.setEntry i e).cards = twrite i e s.cards := rfl
@[simp] theorem State.setEntry_tally (i : Nat) (e : Option Entry) (s : State) :
    (s.setEntry i e).tally = s.tally.move ((tget s.cards i).bind Entry.tallied) (e.bind Entry.tallied) := rfl
@[simp] theorem State.setEntry_folios (i : Nat) (e : Option Entry) (s : State) :
    (s.setEntry i e).folios = moveRef ((tget s.cards i).bind Entry.folio) (e.bind Entry.folio) s.folios := rfl

end Sys2Proof.Machine
end

