-- ==== Sys2Proof/Laws/Links.lean ====
section
/-! SUPPORT. The operations of the two links, the alarm list and the lane marks: what they leave, and the bounds of the queues. -/

namespace Sys2Proof.Machine

/-- A notice changes the notice queue or the dropped-notice counter, and nothing else. -/
theorem Link.notify_cases (n : Notice) (k : Link) :
    (k.notices.length < Config.noticePlaces ∧ k.notify n = { k with notices := k.notices ++ [n] }) ∨
      (Config.noticePlaces ≤ k.notices.length ∧ k.notify n = { k with droppedNotices := satInc k.droppedNotices }) := by
  unfold Link.notify
  split
  · exact Or.inl ⟨by assumption, rfl⟩
  · exact Or.inr ⟨by omega, rfl⟩

@[simp] theorem Link.notify_queue (n : Notice) (k : Link) : (k.notify n).queue = k.queue := by
  unfold Link.notify; split <;> rfl

@[simp] theorem Link.notify_busy (n : Notice) (k : Link) : (k.notify n).busy = k.busy := by
  unfold Link.notify; split <;> rfl

theorem Link.notify_bound (n : Notice) (k : Link) (h : k.notices.length ≤ Config.noticePlaces) :
    (k.notify n).notices.length ≤ Config.noticePlaces := by
  rcases k.notify_cases n with ⟨h1, h2⟩ | ⟨_, h2⟩ <;> rw [h2]
  · simp only [List.length_append, List.length_singleton]; omega
  · exact h

/-- The queue of requests never grows past its places by a frame handed up. -/
theorem Link.handUp_bound (f : Frame) (k : Link) (hq : k.queue.length ≤ Config.requestPlaces)
    (hb : k.busy.length ≤ Config.busyPlaces) :
    (k.handUp f).queue.length ≤ Config.requestPlaces ∧ (k.handUp f).busy.length ≤ Config.busyPlaces := by
  unfold Link.handUp
  split
  · simp only [List.length_append, List.length_singleton]; omega
  · split
    · simp only [List.length_append, List.length_singleton]; omega
    · exact ⟨hq, hb⟩

@[simp] theorem answerOldest_length (b : Built) (q : List QueueEntry) : (answerOldest b q).length = q.length := by
  induction q with
  | nil => rfl
  | cons e q ih => cases e <;> simp [answerOldest, ih]

@[simp] theorem Link.answer_notices (f : Frame) (r : Reply) (k : Link) : (k.answer f r).notices = k.notices := rfl

@[simp] theorem Link.answer_busy (f : Frame) (r : Reply) (k : Link) : (k.answer f r).busy = k.busy := rfl

@[simp] theorem Link.answer_queue_length (f : Frame) (r : Reply) (k : Link) :
    (k.answer f r).queue.length = k.queue.length := by simp [Link.answer]

theorem oldestWaiting_append (f : Frame) (q : List QueueEntry) (h : oldestWaiting q = none) :
    oldestWaiting (q ++ [.waiting f]) = some f := by
  induction q with
  | nil => rfl
  | cons e q ih =>
    cases e with
    | waiting g => simp [oldestWaiting] at h
    | answered b => exact ih h

/-- A frame that is the oldest WAITING request of a running part has been handed up already. -/
theorem State.arrive_again (f : Frame) (s : State) (hp : s.phase = .running) (h : oldestWaiting s.link.queue = some f) :
    s.arrive f = s := if_pos ⟨hp, h⟩

/-- Every other frame is handed up to the request queue, start-up included. -/
theorem State.arrive_new (f : Frame) (s : State) (h : s.phase ≠ .running ∨ oldestWaiting s.link.queue ≠ some f) :
    s.arrive f = { s with link := s.link.handUp f } := if_neg (fun x => h.elim (· x.1) (· x.2))

/-- A frame whose turn has not come is handed up. -/
theorem State.arrive_waits (f : Frame) (s : State) (h : ¬s.hasTurn f) : s.arrive f = { s with link := s.link.handUp f } :=
  s.arrive_new f (by
    by_cases hp : s.phase = .running
    · exact Or.inr fun e => h ⟨hp, Or.inl e⟩
    · exact Or.inl hp)

/-- A request at its turn is carried out in its event. -/
theorem State.request_turn (f : Frame) (serve : Serve) (s : State) (h : s.hasTurn f) :
    s.request f serve = (serve (s.arrive f)).1.answered f (serve (s.arrive f)).2 := by
  obtain ⟨hp, ht⟩ := h
  have : oldestWaiting (s.arrive f).link.queue = some f := by
    rcases ht with ht | ⟨h1, h2⟩
    · rw [s.arrive_again f hp ht]; exact ht
    · rw [s.arrive_new f (Or.inr (by simp [h1]))]
      simp only [Link.handUp, if_pos h2]
      exact oldestWaiting_append f _ h1
  unfold State.request
  simp only
  rw [if_pos ⟨by simpa using hp, this⟩]
  rfl

/-- A frame that passes the first checks is taken by its block. -/
theorem framed_ok (tag : Octet) (b : Bool) (serve : Serve) (s : State) (ht : tag ≠ 0) (hb : b = true) :
    framed tag b serve s = serve s := by
  have : ¬(tag = 0) := ht
  unfold framed
  rw [if_neg]
  simpa [hb] using this

/-- A frame that fails them is refused MALFORMED. -/
theorem framed_malformed (tag : Octet) (b : Bool) (serve : Serve) (s : State) (h : tag = 0 ∨ b = false) :
    framed tag b serve s = (s, refuse .malformed) := by
  rcases h with h | h <;> simp [framed, h]

/-! ## The reader bus -/

theorem State.nextExchange_frame (n : Nat) (s : State) : ∃ rs b, State.nextExchange n s = { s with readers := rs, bus := b } := by
  induction n generalizing s with
  | zero => exact ⟨_, _, rfl⟩
  | succ n ih =>
    unfold State.nextExchange
    split
    · split
      · unfold State.beginPoll; split <;> exact ⟨_, _, rfl⟩
      · obtain ⟨rs, b, h⟩ := ih { s with bus := { s.bus with stage := .probe } }; exact ⟨rs, b, h⟩
    · split
      · exact ⟨_, _, rfl⟩
      · obtain ⟨rs, b, h⟩ := ih { s with bus := { s.bus with stage := .rejected } }; exact ⟨rs, b, h⟩
    · split
      · exact ⟨_, _, rfl⟩
      · obtain ⟨rs, b, h⟩ := ih { s with bus := { s.bus with stage := .ended } }; exact ⟨rs, b, h⟩
    · obtain ⟨rs, b, h⟩ := ih { s with bus := { s.bus with
        round := if s.bus.round < Config.roundTop then s.bus.round + 1 else 1, stage := .polls 0 } }
      exact ⟨rs, b, h⟩

/-- The bus going on changes the readers' slots and the bus alone. -/
theorem State.busOn_frame (s : State) : ∃ rs b, s.busOn = { s with readers := rs, bus := b } := by
  unfold State.busOn
  split
  · exact s.nextExchange_frame 140
  · exact ⟨s.readers, s.bus, rfl⟩

/-! ## Alarms and lanes -/

/-- An alarm of an enabled kind repeats a record, adds one, or overflows the list (R82, R84). -/
theorem AlarmList.take_cases (a : Alarm) (now : ShipTime) (al : AlarmList) :
    (∃ r ∈ al.records, r.alarm = a ∧
      al.take a now = ({ al with records := repeatAlarm a now al.records }, satInc r.count, .repeated)) ∨
    ((∀ r ∈ al.records, r.alarm ≠ a) ∧ al.records.length < Config.alarmPlaces ∧
      al.take a now = ({ al with records := al.records ++ [⟨a, now, now, 1⟩] }, 1, .new)) ∨
    ((∀ r ∈ al.records, r.alarm ≠ a) ∧ Config.alarmPlaces ≤ al.records.length ∧
      al.take a now = ({ al with overflow := true }, 0, .notLatched)) := by
  unfold AlarmList.take
  split
  · rename_i r h
    exact Or.inl ⟨r, List.mem_of_find?_eq_some h, by simpa using List.find?_some h, rfl⟩
  · rename_i h
    have none : ∀ r ∈ al.records, r.alarm ≠ a := fun r hr e => by
      have := List.find?_eq_none.mp h r hr; simp [e] at this
    split
    · rename_i room; exact Or.inr (Or.inl ⟨none, room, rfl⟩)
    · rename_i room; exact Or.inr (Or.inr ⟨none, Nat.le_of_not_lt room, rfl⟩)

/-- A lane treated as UNUSED keeps the mark and loses its counters; any other lane stays (R89, R156). -/
theorem Lane.markUnfit_cases (unfit : Bool) (x : Lane) :
    ((unfit = true ∨ x.unfit = true) ∧ x.markUnfit unfit = { x.clearCounts with unfit := true }) ∨
    (unfit = false ∧ x.unfit = false ∧ x.markUnfit unfit = x) := by
  unfold Lane.markUnfit
  cases unfit <;> cases h : x.unfit <;> simp

end Sys2Proof.Machine
end

