-- ==== Sys2Proof/Laws/Octets.lean ====
section
/-! SUPPORT. Numbers as octets: lengths, and what the octets of a number spell. -/

namespace Sys2Proof.Machine

@[simp] theorem be_length (w n : Nat) : (be w n).length = w := by
  induction w with
  | zero => rfl
  | succ w ih => simp [be, ih]

theorem num_fold (os : List Octet) (a : Nat) :
    os.foldl (fun a o => a * 256 + o.toNat) a = a * 256 ^ os.length + num os := by
  induction os generalizing a with
  | nil => simp [num]
  | cons o os ih =>
    simp only [num, List.foldl_cons, List.length_cons]
    rw [ih, ih (0 * 256 + o.toNat)]
    ring

theorem num_cons (o : Octet) (os : List Octet) : num (o :: os) = o.toNat * 256 ^ os.length + num os := by
  unfold num
  rw [List.foldl_cons, num_fold]
  simp [num]

/-- The octets of a number spell its remainder by the width (R183). -/
theorem num_be (w n : Nat) : num (be w n) = n % 256 ^ w := by
  induction w with
  | zero => simp [be, num, Nat.mod_one]
  | succ w ih =>
    have e : (BitVec.ofNat 8 (n / 256 ^ w)).toNat = n / 256 ^ w % 256 := by simp
    rw [be, num_cons, ih, be_length, e, pow_succ, Nat.mod_mul]
    ring

/-- A number that fits its width is read back (R183). -/
theorem num_be_of_lt (w n : Nat) (h : n < 256 ^ w) : num (be w n) = n := by rw [num_be, Nat.mod_eq_of_lt h]

/-- A field that stands first in a body is read, and the rest follows it. -/
theorem fields_be (w n : Nat) (ws : List Nat) (rest : List Octet) (h : n < 256 ^ w) :
    fields (w :: ws) (be w n ++ rest) = n :: fields ws rest := by
  have e : (be w n).length = w := be_length w n
  simp only [fields, List.cons.injEq]
  exact ⟨by rw [List.take_left' e, num_be_of_lt w n h], by rw [List.drop_left' e]⟩

end Sys2Proof.Machine
end

