-- ==== Sys2Proof/Laws/Tables.lean ====
section
/-! SUPPORT. The tables by position and the record files: what a read finds after a write, and the canonical form. -/

namespace Sys2Proof.Machine

/-! ## Record files -/

theorem vget_vset_self {α : Type} {n : Nat} (v : Vector α n) (i : Fin n) (x : α) : (vset v i x).get i = x := by
  simp [vset, Vector.get_eq_getElem]

theorem vget_vset_other {α : Type} {n : Nat} (v : Vector α n) (i j : Fin n) (x : α) (h : j ≠ i) :
    (vset v i x).get j = v.get j := by
  have : i.val ≠ j.val := fun e => h (Fin.ext e.symm)
  simp [vset, Vector.get_eq_getElem, Vector.getElem_set_ne, this]

theorem vget_vset {α : Type} {n : Nat} (v : Vector α n) (i j : Fin n) (x : α) :
    (vset v i x).get j = if j = i then x else v.get j := by
  split
  · next h => subst h; exact vget_vset_self v j x
  · next h => exact vget_vset_other v i j x h

@[simp] theorem vget_vmod_self {α : Type} {n : Nat} (v : Vector α n) (i : Fin n) (f : α → α) :
    (vmod v i f).get i = f (v.get i) := vget_vset_self v i _

theorem vget_vmod_other {α : Type} {n : Nat} (v : Vector α n) (i j : Fin n) (f : α → α) (h : j ≠ i) :
    (vmod v i f).get j = v.get j := vget_vset_other v i j _ h

theorem vget_foldl_vmod_of {α : Type} {n : Nat} (f : Fin n → α → α) (i : Fin n) (is : List (Fin n)) (v : Vector α n)
    (h : is.Nodup) :
    (is.foldl (fun v j => vmod v j (f j)) v).get i = if i ∈ is then f i (v.get i) else v.get i := by
  induction is generalizing v with
  | nil => simp
  | cons j is ih =>
    rw [List.foldl_cons, ih _ (List.nodup_cons.mp h).2]
    by_cases hij : i = j
    · subst hij; simp [(List.nodup_cons.mp h).1]
    · rw [vget_vmod_other _ _ _ _ hij]; simp [hij]

/-- A file whose every record is changed once holds at each place the changed record. -/
theorem vget_foldl_vmod {α : Type} {n : Nat} (f : Fin n → α → α) (i : Fin n) (v : Vector α n) :
    ((List.finRange n).foldl (fun v j => vmod v j (f j)) v).get i = f i (v.get i) := by
  rw [vget_foldl_vmod_of f i _ v (List.nodup_finRange n), if_pos (List.mem_finRange i)]

/-! ## Tables by position -/

@[simp] theorem tget_nil {α : Type} (i : Nat) : tget ([] : List (Nat × α)) i = none := rfl

theorem tget_cons {α : Type} (x : Nat × α) (t : List (Nat × α)) (i : Nat) :
    tget (x :: t) i = if x.1 = i then some x.2 else tget t i := rfl

@[simp] theorem tget_tput_self {α : Type} (i : Nat) (x : α) (t : List (Nat × α)) : tget (tput i x t) i = some x := by
  induction t with
  | nil => simp [tput, tget]
  | cons y t ih =>
    unfold tput
    split
    · simp [tget]
    · split
      · simp [tget]
      · simp only [tget]
        rw [if_neg (by assumption)]
        exact ih

theorem tget_tput_other {α : Type} (i k : Nat) (x : α) (t : List (Nat × α)) (h : k ≠ i) :
    tget (tput i x t) k = tget t k := by
  induction t with
  | nil => simp [tput, tget, Ne.symm h]
  | cons y t ih =>
    unfold tput
    split
    · next e => simp [tget, e, Ne.symm h]
    · split
      · simp [tget, Ne.symm h]
      · simp only [tget, ih]

theorem tget_tdel_other {α : Type} (i k : Nat) (t : List (Nat × α)) (h : k ≠ i) : tget (tdel i t) k = tget t k := by
  induction t with
  | nil => rfl
  | cons y t ih =>
    unfold tdel
    split
    · next e => simp [tget, e, Ne.symm h]
    · simp only [tget, ih]

/-- In a canonical table nothing after the first record stands at or before its position. -/
theorem tget_none_of_lt {α : Type} (i : Nat) (t : List (Nat × α)) (h : ∀ x ∈ t, i < x.1) : tget t i = none := by
  induction t with
  | nil => rfl
  | cons y t ih =>
    have hy := h y (by simp)
    simp only [tget]
    rw [if_neg (by omega)]
    exact ih (fun x hx => h x (by simp [hx]))

theorem tget_tdel_self {α : Type} (i : Nat) (t : List (Nat × α)) (h : Rising t) : tget (tdel i t) i = none := by
  induction t with
  | nil => rfl
  | cons y t ih =>
    obtain ⟨h1, h2⟩ := List.pairwise_cons.1 h
    unfold tdel
    split
    · next e => subst e; exact tget_none_of_lt _ _ h1
    · next e => simp only [tget]; rw [if_neg e]; exact ih h2

theorem mem_tput {α : Type} (i : Nat) (x : α) (t : List (Nat × α)) (y : Nat × α) (h : y ∈ tput i x t) :
    y = (i, x) ∨ y ∈ t := by
  induction t with
  | nil => simp only [tput, List.mem_singleton] at h; exact Or.inl h
  | cons z t ih =>
    unfold tput at h
    split at h
    · rcases List.mem_cons.1 h with h | h
      · exact Or.inl h
      · exact Or.inr (by simp [h])
    · split at h
      · rcases List.mem_cons.1 h with h | h
        · exact Or.inl h
        · exact Or.inr h
      · rcases List.mem_cons.1 h with h | h
        · exact Or.inr (by simp [h])
        · rcases ih h with h | h
          · exact Or.inl h
          · exact Or.inr (by simp [h])

theorem mem_tdel {α : Type} (i : Nat) (t : List (Nat × α)) (y : Nat × α) (h : y ∈ tdel i t) : y ∈ t := by
  induction t with
  | nil => exact h
  | cons z t ih =>
    unfold tdel at h
    split at h
    · simp [h]
    · rcases List.mem_cons.1 h with h | h
      · simp [h]
      · simp [ih h]

/-- Writing a position keeps the canonical form. -/
theorem Rising.tput {α : Type} {t : List (Nat × α)} (h : Rising t) (i : Nat) (x : α) : Rising (tput i x t) := by
  induction t with
  | nil => simp [Machine.tput, Rising]
  | cons y t ih =>
    obtain ⟨h1, h2⟩ := List.pairwise_cons.1 h
    unfold Machine.tput
    split
    · next e => subst e; exact List.pairwise_cons.2 ⟨h1, h2⟩
    · split
      · next hlt =>
        refine List.pairwise_cons.2 ⟨?_, h⟩
        intro z hz
        rcases List.mem_cons.1 hz with hz | hz
        · subst hz; exact hlt
        · exact Nat.lt_trans hlt (h1 z hz)
      · next hne hge =>
        refine List.pairwise_cons.2 ⟨?_, ih h2⟩
        intro z hz
        rcases mem_tput i x t z hz with hz | hz
        · subst hz; show y.1 < i; omega
        · exact h1 z hz

/-- Emptying a position keeps the canonical form. -/
theorem Rising.tdel {α : Type} {t : List (Nat × α)} (h : Rising t) (i : Nat) : Rising (tdel i t) := by
  induction t with
  | nil => exact h
  | cons y t ih =>
    obtain ⟨h1, h2⟩ := List.pairwise_cons.1 h
    unfold Machine.tdel
    split
    · exact h2
    · exact List.pairwise_cons.2 ⟨fun z hz => h1 z (mem_tdel i t z hz), ih h2⟩

theorem Rising.twrite {α : Type} {t : List (Nat × α)} (h : Rising t) (i : Nat) (x : Option α) : Rising (twrite i x t) := by
  cases x with
  | none => exact h.tdel i
  | some a => exact h.tput i a

theorem tget_twrite_self {α : Type} (i : Nat) (x : Option α) (t : List (Nat × α)) (h : Rising t) :
    tget (twrite i x t) i = x := by
  cases x with
  | none => exact tget_tdel_self i t h
  | some a => exact tget_tput_self i a t

theorem tget_twrite_other {α : Type} (i k : Nat) (x : Option α) (t : List (Nat × α)) (h : k ≠ i) :
    tget (twrite i x t) k = tget t k := by
  cases x with
  | none => exact tget_tdel_other i k t h
  | some a => exact tget_tput_other i k a t h

/-- A change of a folio record keeps the canonical form. -/
theorem Rising.changeFolio {fs : List (Nat × Folio)} (h : Rising fs) (f : Folio → Folio) (slot : Nat) :
    Rising (changeFolio f slot fs) := by
  unfold Machine.changeFolio
  split
  · exact h.tput _ _
  · exact h

/-- A move of a reference keeps the canonical form. -/
theorem Rising.moveRef {fs : List (Nat × Folio)} (h : Rising fs) (old new : Option Nat) : Rising (moveRef old new fs) := by
  unfold Machine.moveRef
  split
  · exact h
  · cases old <;> cases new <;> simp only <;>
      first
        | exact h
        | exact h.changeFolio _ _
        | exact (h.changeFolio _ _).changeFolio _ _

/-- The one write of the card table keeps both tables canonical. -/
theorem State.setEntry_rising (i : Nat) (e : Option Entry) (s : State) (hc : Rising s.cards) (hf : Rising s.folios) :
    Rising (s.setEntry i e).cards ∧ Rising (s.setEntry i e).folios :=
  ⟨hc.twrite i e, hf.moveRef _ _⟩

/-- What the card table reads after its one write. -/
theorem State.setEntry_tget (i k : Nat) (e : Option Entry) (s : State) (hc : Rising s.cards) :
    tget (s.setEntry i e).cards k = if k = i then e else tget s.cards k := by
  split
  · next h => subst h; exact tget_twrite_self k e s.cards hc
  · next h => exact tget_twrite_other i k e s.cards h

/-- A change of a known entry writes the card table, the tally and the folios alone, and reads nothing else. -/
theorem State.changeKnown_frame (card : CardNo) (f : Known → Known) (s : State) :
    ∃ cs ta fs, s.changeKnown card f = { s with cards := cs, tally := ta, folios := fs } ∧
      ∀ s' : State, s'.cards = s.cards → s'.tally = s.tally → s'.folios = s.folios →
        s'.changeKnown card f = { s' with cards := cs, tally := ta, folios := fs } := by
  unfold State.changeKnown
  rcases h : lookup s.cards card with _ | ⟨i, d, b⟩
  · exact ⟨s.cards, s.tally, s.folios, rfl, fun s' h1 h2 h3 => by rw [h1, h, ← h1, ← h2, ← h3]⟩
  · cases b with
    | pending _ => exact ⟨s.cards, s.tally, s.folios, rfl, fun s' h1 h2 h3 => by rw [h1, h, ← h1, ← h2, ← h3]⟩
    | known k => exact ⟨_, _, _, rfl, fun s' h1 h2 h3 => by rw [h1, h]; simp only [State.setEntry, h1, h2, h3]⟩

end Sys2Proof.Machine
end

