-- ==== Sys2Proof/Laws/Zone.lean ====
section
/-! SUPPORT. The operations of the zone on one channel: what each leaves, and the state the channel enters. -/

namespace Sys2Proof.Machine

/-! ## One record of the zone -/

@[simp] theorem Zone.setChan_groups (c : Chan) (f : Channel → Channel) (z : Zone) : (z.setChan c f).groups = z.groups := rfl
@[simp] theorem Zone.setChan_lanes (c : Chan) (f : Channel → Channel) (z : Zone) : (z.setChan c f).lanes = z.lanes := rfl
@[simp] theorem Zone.setGroup_channels (g : Grp) (f : Group → Group) (z : Zone) :
    (z.setGroup g f).channels = z.channels := rfl
@[simp] theorem Zone.setGroup_lanes (g : Grp) (f : Group → Group) (z : Zone) : (z.setGroup g f).lanes = z.lanes := rfl
@[simp] theorem Zone.setLane_channels (l : LaneNo) (f : Lane → Lane) (z : Zone) :
    (z.setLane l f).channels = z.channels := rfl
@[simp] theorem Zone.setLane_groups (l : LaneNo) (f : Lane → Lane) (z : Zone) : (z.setLane l f).groups = z.groups := rfl

@[simp] theorem Zone.setChan_get_self (c : Chan) (f : Channel → Channel) (z : Zone) :
    (z.setChan c f).channels.get c = f (z.channels.get c) := vget_vmod_self _ _ _

theorem Zone.setChan_get_other (c d : Chan) (f : Channel → Channel) (z : Zone) (h : d ≠ c) :
    (z.setChan c f).channels.get d = z.channels.get d := vget_vmod_other _ _ _ _ h

@[simp] theorem Zone.setGroup_get_self (g : Grp) (f : Group → Group) (z : Zone) :
    (z.setGroup g f).groups.get g = f (z.groups.get g) := vget_vmod_self _ _ _

theorem Zone.setGroup_get_other (g k : Grp) (f : Group → Group) (z : Zone) (h : k ≠ g) :
    (z.setGroup g f).groups.get k = z.groups.get k := vget_vmod_other _ _ _ _ h

@[simp] theorem Zone.setLane_get_self (l : LaneNo) (f : Lane → Lane) (z : Zone) :
    (z.setLane l f).lanes.get l = f (z.lanes.get l) := vget_vmod_self _ _ _

theorem Zone.setLane_get_other (l k : LaneNo) (f : Lane → Lane) (z : Zone) (h : k ≠ l) :
    (z.setLane l f).lanes.get k = z.lanes.get k := vget_vmod_other _ _ _ _ h

/-! ## Entering a state: the fields that no state clears are kept -/

@[simp] theorem Channel.enter_state (cfg : Setup) (c : Chan) (st : ChanState) (ch : Channel) : (ch.enter cfg c st).state = st := rfl
@[simp] theorem Channel.enter_release (cfg : Setup) (c : Chan) (st : ChanState) (ch : Channel) :
    (ch.enter cfg c st).release = ch.release := rfl
@[simp] theorem Channel.enter_home (cfg : Setup) (c : Chan) (st : ChanState) (ch : Channel) :
    (ch.enter cfg c st).home = ch.home := rfl
@[simp] theorem Channel.enter_withdrawn (cfg : Setup) (c : Chan) (st : ChanState) (ch : Channel) :
    (ch.enter cfg c st).withdrawn = ch.withdrawn := rfl
@[simp] theorem Channel.enter_contact (cfg : Setup) (c : Chan) (st : ChanState) (ch : Channel) :
    (ch.enter cfg c st).contact = ch.contact := rfl
@[simp] theorem Channel.enter_privacy (cfg : Setup) (c : Chan) (st : ChanState) (ch : Channel) :
    (ch.enter cfg c st).privacy = ch.privacy := rfl
@[simp] theorem Channel.enter_lockout (cfg : Setup) (c : Chan) (st : ChanState) (ch : Channel) :
    (ch.enter cfg c st).lockout = ch.lockout := rfl
@[simp] theorem Channel.enter_record (cfg : Setup) (c : Chan) (st : ChanState) (ch : Channel) :
    (ch.enter cfg c st).record = ch.record := rfl

@[simp] theorem Zone.enter_groups (cfg : Setup) (c : Chan) (st : ChanState) (z : Zone) : (z.enter cfg c st).groups = z.groups := rfl
@[simp] theorem Zone.enter_lanes (cfg : Setup) (c : Chan) (st : ChanState) (z : Zone) : (z.enter cfg c st).lanes = z.lanes := rfl

@[simp] theorem Zone.enter_get_self (cfg : Setup) (c : Chan) (st : ChanState) (z : Zone) :
    (z.enter cfg c st).channels.get c = (z.channels.get c).enter cfg c st := Zone.setChan_get_self _ _ _

theorem Zone.enter_get_other (cfg : Setup) (c d : Chan) (st : ChanState) (z : Zone) (h : d ≠ c) :
    (z.enter cfg c st).channels.get d = z.channels.get d := Zone.setChan_get_other _ _ _ _ h

/-! ## The arbiter -/

@[simp] theorem Zone.leave_channels (c : Chan) (z : Zone) : (z.leave c).channels = z.channels := rfl
@[simp] theorem Zone.leave_lanes (c : Chan) (z : Zone) : (z.leave c).lanes = z.lanes := rfl

theorem Zone.leave_groups_other (c : Chan) (g : Grp) (z : Zone) (h : g ≠ groupOf c) :
    (z.leave c).groups.get g = z.groups.get g := Zone.setGroup_get_other _ _ _ _ h

/-- A channel that has left holds neither slot and no place of the queue (R63). -/
theorem Group.leave_gone (c : Chan) (g : Group) :
    (g.leave c).slot0 ≠ some c ∧ (g.leave c).slot1 ≠ some c ∧ c ∉ (g.leave c).queue := by
  refine ⟨?_, ?_, ?_⟩
  · simp only [Group.leave]; split <;> simp_all
  · simp only [Group.leave]; split <;> simp_all
  · simp [Group.leave]

/-- Everything a request for an opening drive can do (R62, R79): the channel waits at the tail of its group's queue, or is
INHIBITED; no other channel, group or lane changes. -/
theorem Zone.waitOpen_cases (cfg : Setup) (c : Chan) (a : Hold) (z : Zone) :
    ((z.groups.get (groupOf c)).inhibited = true ∧ z.waitOpen cfg c a = z.enter cfg c (.inhibited (.openEnd a))) ∨
      ((z.groups.get (groupOf c)).inhibited = false ∧
        z.waitOpen cfg c a =
          (z.enter cfg c (.unlockWait a)).setGroup (groupOf c) (fun g => { g with queue := g.queue ++ [c] })) := by
  unfold Zone.waitOpen
  cases (z.groups.get (groupOf c)).inhibited <;> simp

/-- Everything a request for a closing drive can do (R62, R79). -/
theorem Zone.waitClose_cases (cfg : Setup) (c : Chan) (z : Zone) :
    ((z.groups.get (groupOf c)).inhibited = true ∧ z.waitClose cfg c = z.enter cfg c (.inhibited .closedEnd)) ∨
      ((z.groups.get (groupOf c)).inhibited = false ∧
        z.waitClose cfg c =
          (z.enter cfg c .lockWait).setGroup (groupOf c) (fun g => { g with queue := g.queue ++ [c] })) := by
  unfold Zone.waitClose
  cases (z.groups.get (groupOf c)).inhibited <;> simp

@[simp] theorem Zone.waitOpen_lanes (cfg : Setup) (c : Chan) (a : Hold) (z : Zone) : (z.waitOpen cfg c a).lanes = z.lanes := by
  unfold Zone.waitOpen; split <;> rfl

@[simp] theorem Zone.waitClose_lanes (cfg : Setup) (c : Chan) (z : Zone) : (z.waitClose cfg c).lanes = z.lanes := by
  unfold Zone.waitClose; split <;> rfl

theorem Zone.waitOpen_get_other (cfg : Setup) (c d : Chan) (a : Hold) (z : Zone) (h : d ≠ c) :
    (z.waitOpen cfg c a).channels.get d = z.channels.get d := by
  unfold Zone.waitOpen; split
  · exact Zone.enter_get_other _ _ _ _ _ h
  · rw [Zone.setGroup_channels]; exact Zone.enter_get_other _ _ _ _ _ h

theorem Zone.waitClose_get_other (cfg : Setup) (c d : Chan) (z : Zone) (h : d ≠ c) :
    (z.waitClose cfg c).channels.get d = z.channels.get d := by
  unfold Zone.waitClose; split
  · exact Zone.enter_get_other _ _ _ _ _ h
  · rw [Zone.setGroup_channels]; exact Zone.enter_get_other _ _ _ _ _ h

/-! ## Relock and hold -/

@[simp] theorem Zone.relock_lanes (cfg : Setup) (c : Chan) (z : Zone) : (z.relock cfg c).lanes = z.lanes := by
  unfold Zone.relock; split <;> simp

theorem Zone.relock_get_other (cfg : Setup) (c d : Chan) (z : Zone) (h : d ≠ c) :
    (z.relock cfg c).channels.get d = z.channels.get d := by
  unfold Zone.relock; split
  · exact Zone.waitClose_get_other _ _ _ _ h
  · exact Zone.enter_get_other _ _ _ _ _ h

/-- A report of a withdrawn gate changes no other channel (R93). -/
theorem Zone.gateWithdrawn_get_other (cfg : Setup) (c d : Chan) (l : LaneNo) (z : Zone) (h : d ≠ c) :
    (z.gateWithdrawn cfg c l).channels.get d = z.channels.get d := by
  unfold Zone.gateWithdrawn
  split
  · rfl
  · rfl
  · rfl
  · split
    · rfl
    · exact Zone.relock_get_other _ _ _ _ h
  · split
    · rfl
    · exact Zone.relock_get_other _ _ _ _ h

/-- A hold changes no other channel (R53). -/
theorem Zone.hold_get_other (cfg : Setup) (c d : Chan) (a : Hold) (z : Zone) (h : d ≠ c) :
    (z.hold cfg c a).channels.get d = z.channels.get d := by
  unfold Zone.hold
  split
  · dsimp only
    split
    · rw [Zone.gateWithdrawn_get_other _ _ _ _ _ h]; exact Zone.enter_get_other _ _ _ _ _ h
    · exact Zone.enter_get_other _ _ _ _ _ h
  · exact Zone.relock_get_other _ _ _ _ h
  · exact Zone.enter_get_other _ _ _ _ _ h
  · split
    · exact Zone.enter_get_other _ _ _ _ _ h
    · exact Zone.relock_get_other _ _ _ _ h

/-- The end of a drive changes no other channel (R52, R55). -/
theorem Zone.endDrive_get_other (cfg : Setup) (c d : Chan) (z : Zone) (h : d ≠ c) :
    (z.endDrive cfg c).channels.get d = z.channels.get d := by
  unfold Zone.endDrive
  split
  · dsimp only
    split
    · exact Zone.enter_get_other _ _ _ _ _ h
    · exact Zone.hold_get_other _ _ _ _ _ h
  · exact Zone.enter_get_other _ _ _ _ _ h
  · rfl

/-- A drive that begins changes no other channel (R52, R55). -/
theorem Zone.drive_get_other (cfg : Setup) (c d : Chan) (st : ChanState) (z : Zone) (h : d ≠ c) :
    (z.drive cfg c st).channels.get d = z.channels.get d := by
  unfold Zone.drive
  dsimp only
  split
  · split
    · rw [Zone.endDrive_get_other _ _ _ _ h]; exact Zone.setChan_get_other _ _ _ _ h
    · exact Zone.setChan_get_other _ _ _ _ h
  · split
    · rw [Zone.endDrive_get_other _ _ _ _ h]; exact Zone.setChan_get_other _ _ _ _ h
    · exact Zone.setChan_get_other _ _ _ _ h

/-! ## Protection -/

/-- A fault that joins a record counts once more, and stamps the first time of an empty record alone (R75). -/
theorem FaultRecord.take_cases (k : FaultKind) (now : ShipTime) (r : FaultRecord) :
    (r.take k now).kinds = r.kinds.add k ∧
      ((r.kinds.isEmpty = true ∧ (r.take k now).first = now ∧ (r.take k now).count = 1) ∨
        (r.kinds.isEmpty = false ∧ (r.take k now).first = r.first ∧ (r.take k now).count = satInc r.count)) := by
  unfold FaultRecord.take
  cases r.kinds.isEmpty <;> simp

/-- A group with no latch and its rail GOOD is not inhibited (R79). -/
theorem Group.inhibited_eq (g : Group) : g.inhibited = true ↔ g.latch = true ∨ g.rail = .undervoltage := by
  simp [Group.inhibited]

end Sys2Proof.Machine
end

