-- ==== Sys2Proof/Tests/Slice0.lean ====
section
/-! SUPPORT. Tests: ill-formed commands, check codes, and for every statement of the certificate with hypotheses a concrete state and
operands that meet them, with the step's result where it is short to say. -/

namespace Sys2Proof.Tests

set_option Elab.async false

open Sys2Proof.Machine

/-! ## Small states -/

/-- The part running with nothing set up. -/
def run : State := { State.reset with phase := .running }

/-- The part in MAINTENANCE. -/
def maint : State := { run with mode := .maintenance }

/-- The part with evacuation in effect by the host. -/
def evacuated : State := { run with evac := ⟨false, 0, true, .evacuation⟩ }

/-- A setup with channel 0 as given, lane 0 on it as its gate, till 0 and a counter reader. -/
def cfg (kind : ChanKind) (mode : ContactMode) : Setup :=
  { Setup.default with
    channels := vset Setup.default.channels 0 ⟨kind, 7, mode, true, true⟩
    lanes := vset Setup.default.lanes 0 ⟨kind == .gate, .both, 0⟩
    tills := vset Setup.default.tills 0 ⟨true, .general⟩ }

def goodGroup : Group := { Group.reset with rail := .good, railSettled := true }

/-- Channel 0 in a zone whose rails are good. -/
def zoneOf (ch : Channel) (lane : LaneState) : Zone :=
  { channels := vset run.zone.channels 0 ch
    groups := Vector.replicate 4 goodGroup
    lanes := vset run.zone.lanes 0 { Lane.reset with state := lane } }

/-- A cabin door in a state. -/
def cabin (st : ChanState) : State := { run with setup := cfg .cabin .level, zone := zoneOf { Channel.reset with state := st } .closed }

/-- A gate in a state with its lane in a state. -/
def gate (st : ChanState) (lane : LaneState) : State :=
  { run with setup := cfg .gate .level, zone := zoneOf { Channel.reset with state := st } lane }

/-- The cabin door with its channel record changed. -/
def cabinWith (f : Channel → Channel) (s : State) : State := s.onZone (·.setChan 0 f)

/-- Group 0 changed. -/
def groupWith (f : Group → Group) (s : State) : State := s.onZone (·.setGroup 0 f)

def policyWith (f : Policy → Policy) (s : State) : State := { s with setup := { s.setup with policy := f s.setup.policy } }

/-- A guest aboard with one DOOR grant for door 7 and folio slot 5. -/
def guest : Known := ⟨.guest, .active, some 5, true, true, false, [.door 7], none, none, .aboard, none, 0⟩

def caller (idle : Nat) : Known :=
  ⟨.caller idle false, .active, none, false, false, false, [], none, some 100, .ashore, none, 0⟩

def folio : Folio := ⟨.open, 1000, 200, 500, 1⟩

/-- Card 1, whose bucket is 495, as an entry of the table. -/
def withCard (k : Known) (s : State) : State :=
  { s with
    cards := [(1980, ⟨1, .known k⟩)]
    tally := recountTally [(1980, ⟨1, .known k⟩)]
    folios := if k.folio = some 5 then [(5, folio)] else [] }

/-- Card 1 with a held query at the reader of address 1. -/
def withQuery (s : State) : State :=
  { s with cards := [(1980, ⟨1, .pending ⟨0, 9, 1500⟩⟩)], authority := .online 5000 }

def charge : Charge := ⟨300, 77, 0⟩

/-- Till 0 in a state. -/
def till (st : TillState) : State :=
  { run with setup := cfg .none .level, tills := vset run.tills 0 { Till.reset with state := st } }

def referred : TillState := .authorising charge ⟨1, 0, 5, 500⟩ 4000

/-- A till that refers a charge of card 1, and its card and folio. -/
def referral : State := { withCard { guest with engaged := some (.charge 0) } (till referred) with authority := .online 5000 }

def entry (n : Nat) (tier : Tier) (voided : Bool) : JournalEntry := ⟨n, 50, false, 5, 1, 0, 100, tier, 77, voided⟩

def journaled (s : State) : State :=
  { withCard guest s with
    journal := ⟨[entry 3 .localTier false, entry 4 .offline false, entry 5 .standIn true], 6, false⟩ }

def out (card : CardNo) (window : Option Nat) : Movement := ⟨card, .out, 40, window⟩

/-- The record of the reader of address 1 in an enrolment state with a role, and an exchange with it in flight. -/
def bus (enrol : Enrol) (role : Role) (sent : Sent) (misses : Nat) : State :=
  { run with
    readers := vset run.readers 0 { Reader.reset with role := role, enrol := enrol, misses := misses }
    bus := { run.bus with exchange := some ⟨0, sent, 2⟩ } }

def starting (low : Nat) : State := { State.reset with phase := .starting ⟨.cold, false, .loaded, 0, false⟩ 50 low }

/-- The state a step of a command leaves. -/
def after (i : Instr) (s : State) : State :=
  match exec i s with
  | .next t => t
  | _ => s

/-- The first octet of the newest frame on the line: the result of the reply that the request got. -/
def resultOf (i : Instr) (s : State) : Option Octet :=
  (after i s).link.queue.findSome? (fun
    | .answered b => b.frame.body.head?
    | .waiting _ => none)

theorem turnOfEmpty {s : State} {f : Frame} (h : s.phase = .running) (q : s.link.queue = []) : s.hasTurn f :=
  ⟨h, Or.inr (by rw [q]; exact ⟨rfl, by decide⟩)⟩

/-! ## Ill-formed commands, codes -/

theorem test_illformed_body : (Instr.status 1 (List.replicate 241 0)).WellFormed = false := by decide +kernel
theorem test_illformed_kind : (Instr.unknownKind 0x38 1 []).WellFormed = false := by decide +kernel
theorem test_illformed_kind_body : (Instr.unknownKind 0x39 1 (List.replicate 241 0)).WellFormed = false := by decide +kernel
theorem test_illformed_reply : (Instr.pollExchangeEnd (List.replicate 260 0)).WellFormed = false := by decide +kernel
theorem test_wellformed : (Instr.restart 1 []).WellFormed = true ∧ (Instr.unknownKind 0x39 1 []).WellFormed = true := by decide

/-- The check values of the two codes over the nine digits. -/
theorem test_check_codes :
    crc16 [0x31, 0x32, 0x33, 0x34, 0x35, 0x36, 0x37, 0x38, 0x39] = 0x29B1 ∧
    crc8 [0x31, 0x32, 0x33, 0x34, 0x35, 0x36, 0x37, 0x38, 0x39] = 0xF4 := by decide +kernel

/-- A span of base 192 and size 16 is coded 0x0190. -/
theorem test_span : spanSize 0x0190 = 16 ∧ spanBase 0x0190 = 192 ∧ (Grant.span 0x0190).covers 207 = true ∧
    (Grant.span 0x0190).covers 208 = false ∧ spanValid 8191 = true ∧ spanValid 8192 = false := by decide

theorem test_bucket : bucket 1 = 495 := by decide +kernel

/-! ## The step -/

theorem test_witness_empty_queue : run.pending = [] ∧ run.choices = [] ∧
    { run with link := { Link.reset with queue := [.waiting ⟨0x27, 1, []⟩] } }.choices = [.status 1 []] := by decide +kernel

theorem test_witness_out_of_turn (f : Frame) : ¬State.reset.hasTurn f := fun h => by cases h.1

theorem test_witness_queue_lengths :
    run.link.queue.length < 4 ∧ 4 ≤ [1, 2, 3, 4].length ∧ run.link.busy.length < 8 := by decide

/-- A frame that comes twice during start-up joins the queue twice, and the fifth one is refused BUSY (R191). -/
theorem test_start_up_requests : (after (.status 1 []) (after (.status 1 []) State.reset)).link.queue =
      [.waiting ⟨0x27, 1, []⟩, .waiting ⟨0x27, 1, []⟩] ∧
    ((List.replicate 5 (Instr.status 1 [])).foldl (fun s i => after i s) State.reset).link.busy =
      [⟨⟨0x67, 1, [0x03]⟩, 0⟩] := by decide +kernel

/-- A request that waits in a running part has its turn, and its command hands up no second frame. -/
theorem test_witness_turn_of_waiting :
    let waiting := { run with link := { Link.reset with queue := [.waiting ⟨0x27, 1, []⟩] } }
    waiting.hasTurn ⟨0x27, 1, []⟩ ∧ waiting.arrive ⟨0x27, 1, []⟩ = waiting := by
  refine ⟨⟨rfl, Or.inl ?_⟩, ?_⟩ <;> decide +kernel

theorem test_witness_frame_checks : run.hasTurn ⟨0x39, 1, []⟩ ∧ run.hasTurn ⟨0x27, 0, []⟩ ∧ requestKindInUse 0x39 = false ∧
    requestKindInUse 0x27 = true := ⟨turnOfEmpty rfl rfl, turnOfEmpty rfl rfl, by decide, by decide⟩

theorem test_frame_checks : resultOf (.unknownKind 0x39 1 []) run = some 1 ∧ resultOf (.status 0 []) run = some 2 ∧
    resultOf (.status 1 [0]) run = some 2 := by decide +kernel

/-- The cabin door in LOCKED, with the bolt home, and its contact high for the next two samples. -/
def sampled (n : Nat) : State :=
  let pins := { Pins.reset with contact := vset Pins.reset.contact 0 true, railGood := Vector.replicate 4 true }
  { cabinWith (fun c => { c with contactQual := some n }) (cabin .locked) with samples := [pins, pins] }

theorem test_millisecond : ((sampled 5).tick.zone.channels.get 0).contactQual = some 4 ∧
    (((cabin .locked).tick).zone.channels.get 0).contactQual = none ∧ (sampled 5).tick.samples.length = 1 ∧
    ((till referred).tick.tills.get 0).state = .authorising charge ⟨1, 0, 5, 500⟩ 3999 ∧
    { run with pins := { Pins.reset with lineLow := true } }.tick.evac.lineCount = 1 ∧
    { starting 0 with pins := { Pins.reset with lineLow := true } }.tick.phase =
      .starting ⟨.cold, false, .loaded, 0, false⟩ 51 1 ∧
    (((cabinWith (fun c => { c with oc := some ⟨.debounce, 10, 1, false⟩ }) { cabin .locking with
      pins := { Pins.reset with overcurrent := vset Pins.reset.overcurrent 0 true } }).tick).zone.channels.get 0).oc =
        some ⟨.debounce, 10, 0, true⟩ := by decide +kernel

theorem test_due : (sampled 0).tick.due = [.contactQualified 0 true] ∧
    { sampled 0 with setup := cfg .gate .edge }.tick.due = [.passageEdge 0] ∧
    (cabinWith (fun c => { c with home := true }) (cabin .locked)).due = [.positionLost 0] ∧
    (groupWith (fun g => { g with railCount := 5 }) (cabin .locked)).due = [.railUndervoltage 0] ∧
    { run with evac := ⟨false, 50, false, .normal⟩ }.due = [.evacuationLineAsserted] ∧
    (starting 50).due = [.startUpEnd true] ∧ { withQuery run with cards := [(1980, ⟨1, .pending ⟨0, 9, 0⟩⟩)] }.due =
      [.queryHoldExpiry 1] := by decide +kernel

theorem test_body_sizes : resultOf (.cardPut 1 (List.replicate 24 0)) run = some 2 ∧
    resultOf (.alarmClear 1 (List.replicate 9 0)) run = some 2 ∧ resultOf (.setupTiming 1 (List.replicate 18 0)) run = some 2 ∧
    resultOf (.chargeOpen 1 []) run = some 2 ∧ resultOf (.ashoreList 1 [0]) run = some 2 := by decide +kernel

/-! ## Laws -/

theorem test_witness_tables : (withCard guest run).tablesLaw := by unfold State.tablesLaw; decide +kernel
theorem test_witness_tally : (withCard guest run).tallyLaw := by unfold State.tallyLaw; decide +kernel
theorem test_witness_folio : (withCard guest run).folioLaw := by unfold State.folioLaw; decide +kernel
theorem test_witness_capacities : (journaled run).journal.law ∧ run.alarms.law ∧ run.link.law := by
  unfold Journal.law AlarmList.law Link.law; decide +kernel
theorem test_witness_standalone : run.standaloneLaw := by unfold State.standaloneLaw; decide +kernel
theorem test_witness_slots : (cabin (.unlockWait .fresh)).standaloneLaw ∧ (cabin .locked).slotLaw := by
  unfold State.standaloneLaw State.slotLaw Zone.orderly; decide +kernel
theorem test_witness_evacuation : evacuated.slotLaw ∧ evacuated.evacLaw := by
  unfold State.slotLaw Zone.orderly State.evacLaw; decide +kernel
theorem test_witness_law_step : ∃ t, step { withCard guest run with pending := [.minuteTick] } = .next t := ⟨_, rfl⟩

theorem test_witness_engagements : referral.tablesLaw ∧ referral.engagementLaw := by
  refine ⟨by unfold State.tablesLaw; decide +kernel, ?_, ?_, ?_⟩
  · intro l m h
    have none : ∀ l, (referral.zone.lanes.get l).state.movement = Option.none := by decide +kernel
    rw [none] at h; cases h
  · intro t c p left h
    have only : ∀ t, (referral.tills.get t).state = if t = 0 then referred else .idle := by decide +kernel
    rw [only] at h
    by_cases h0 : t = 0
    · subst h0; cases h; exact ⟨{ guest with engaged := some (.charge 0) }, by decide +kernel, rfl⟩
    · rw [if_neg h0] at h; cases h
  · intro card k h
    have hit : ∀ i e, tget referral.cards i = some e → e = ⟨1, .known { guest with engaged := some (.charge 0) }⟩ := by
      intro i e h; simp only [referral, withCard, tget] at h; split at h <;> cases h; rfl
    have here : card = 1 ∧ k = { guest with engaged := some (.charge 0) } := by
      unfold State.known lookup at h
      split at h
      · rename_i i d k' heq
        obtain ⟨j, _, hj⟩ := List.exists_of_findSome?_eq_some heq
        split at hj
        · rename_i e he
          have := hit _ _ he; subst this
          by_cases hc : (1 : CardNo) = card
          · rw [if_pos hc] at hj; cases hj; cases h; exact ⟨hc.symm, rfl⟩
          · rw [if_neg hc] at hj; cases hj
        · cases hj
      · cases h
    obtain ⟨rfl, rfl⟩ := here
    refine ⟨fun l h => ?_, fun t h => ?_⟩
    · cases h
    · cases h
      exact ⟨charge, ⟨1, 0, 5, 500⟩, 4000, by decide +kernel, rfl⟩

/-! ## Encodings -/

theorem test_witness_frame_octets : ([] : List Octet).length ≤ 240 ∧ run.link.framer = .hunting ∧ run.pending = [] ∧
    run.close = run := by decide +kernel

theorem test_frame_octets :
    (⟨0x27, 1, []⟩ : Frame).octets.foldl (fun s o => after (.hostOctetReceived o) s) run =
      { run with link := { Link.reset with queue := [.waiting ⟨0x27, 1, []⟩] } } := by decide +kernel

theorem test_witness_reader_frame : readerFrameOf 0x11 [] = some .idle ∧ Sent.poll.answeredBy .idle = true ∧
    (⟨47, .poll, 3⟩ : Exchange).hear (busOctets 48 0x11 []) = .valid .idle := by decide +kernel

theorem test_bus_frames : (⟨47, .poll, 3⟩ : Exchange).octets.take 3 = [48, 0x01, 0] ∧
    (⟨0, .indicate .amber, 3⟩ : Exchange).octets.take 4 = [1, 0x02, 1, 3] ∧
    (⟨0, .probe, 3⟩ : Exchange).octets.take 3 = [1, 0x03, 0] ∧
    (⟨0, .assign (.laneIn 3), 3⟩ : Exchange).octets.take 5 = [1, 0x04, 2, 4, 3] ∧
    (⟨0, .poll, 3⟩ : Exchange).octets.length = 4 ∧
    (⟨0, .poll, 3⟩ : Exchange).hear [] = .nothing ∧
    (⟨0, .probe, 3⟩ : Exchange).hear (busOctets 1 0x11 []) = .corrupt := by decide +kernel

theorem test_witness_setup_records : Timing.default.inRange = true ∧ (Setup.default.channels.get 31).door ≤ 4095 := by decide

theorem test_witness_grants : 12 ≤ 12 ∧ (0 + 1) * 2 ^ 12 ≤ 4096 ∧ spanValid (2 * (0 * 2 ^ 12) + 2 ^ 12) = true ∧
    (4095 + 1) * 2 ^ 0 ≤ 4096 := by decide

/-! ## Requests that read -/

theorem test_witness_reads : (1 : Octet) ≠ 0 ∧ ∀ f, run.hasTurn f := ⟨by decide, fun _ => turnOfEmpty rfl rfl⟩

theorem test_witness_gets : cardValid 0 = false ∧ cardValid 1 = true ∧ lookup run.cards 1 = none ∧
    (lookup (withCard guest run).cards 1).isSome = true ∧ tget run.folios 4095 = none ∧
    (tget (withCard guest run).folios 5).isSome = true := by decide +kernel

theorem test_gets : resultOf (.cardGet 1 (be 7 1)) (withCard guest run) = some 0 ∧
    resultOf (.cardGet 1 (be 7 2)) (withCard guest run) = some 5 ∧ resultOf (.cardGet 1 (be 7 0)) run = some 4 ∧
    resultOf (.folioGet 1 (be 2 4095)) run = some 0 ∧ resultOf (.folioGet 1 (be 2 4096)) run = some 4 := by decide +kernel

theorem test_statuses : resultOf (.channelStatus 1 [31]) run = some 0 ∧ resultOf (.channelStatus 1 [32]) run = some 4 ∧
    resultOf (.tillStatus 1 [7]) run = some 0 ∧ resultOf (.laneStatus 1 [3, 1]) run = some 0 ∧
    resultOf (.readerStatus 1 [48]) run = some 0 ∧ resultOf (.readerStatus 1 [0]) run = some 4 := by decide +kernel

theorem test_walks : resultOf (.ashoreList 1 (be 2 8191 ++ [0, 0])) run = some 0 ∧
    resultOf (.journalFetch 1 (be 4 0 ++ [8])) (journaled run) = some 0 ∧
    resultOf (.journalFetch 1 (be 4 0 ++ [9])) run = some 4 ∧ resultOf (.alarmList 1 [63]) run = some 0 ∧
    resultOf (.alarmList 1 [64]) run = some 4 := by decide +kernel

theorem test_ranges : resultOf (.ashoreList 1 (be 2 8192 ++ [0, 0])) run = some 4 ∧
    resultOf (.ashoreList 1 (be 2 0 ++ [1, 3])) run = some 4 ∧ resultOf (.ashoreList 1 (be 2 0 ++ [2, 0])) run = some 4 ∧
    resultOf (.journalFetch 1 (be 4 0 ++ [0])) run = some 4 ∧ resultOf (.readerStatus 1 [49]) run = some 4 ∧
    resultOf (.laneStatus 1 [4, 0]) run = some 4 ∧ resultOf (.laneStatus 1 [0, 2]) run = some 4 ∧
    resultOf (.tillStatus 1 [8]) run = some 4 ∧ resultOf (.setupReaderGet 1 [0]) run = some 4 ∧
    resultOf (.setupReaderGet 1 [49]) run = some 4 ∧ resultOf (.setupChannelGet 1 [32]) run = some 4 ∧
    resultOf (.setupLaneGet 1 [4]) run = some 4 ∧ resultOf (.setupTillGet 1 [8]) run = some 4 := by decide +kernel

theorem test_whole_part : resultOf (.tallyGet 1 []) run = some 0 ∧ resultOf (.status 1 []) run = some 0 ∧
    resultOf (.timeGet 1 []) run = some 0 ∧ resultOf (.deadlineGet 1 []) run = some 0 ∧
    resultOf (.linkStatus 1 []) run = some 0 := by decide +kernel

theorem test_setup_gets : resultOf (.setupReaderGet 1 [48]) run = some 0 ∧ resultOf (.setupChannelGet 1 [0]) run = some 0 ∧
    resultOf (.setupLaneGet 1 [3]) run = some 0 ∧ resultOf (.setupTillGet 1 [7]) run = some 0 ∧
    resultOf (.setupTimingGet 1 []) run = some 0 ∧ resultOf (.setupPolicyGet 1 []) run = some 0 := by decide +kernel

/-! ## Cards -/

theorem test_witness_card_edits : lookup (withQuery run).cards 1 = some (1980, ⟨1, .pending ⟨0, 9, 1500⟩⟩) ∧
    lookup (withCard guest run).cards 1 = some (1980, ⟨1, .known guest⟩) ∧ guest.engaged = none ∧
    lookup (withCard { guest with engaged := some (.charge 0) } run).cards 1 =
      some (1980, ⟨1, .known { guest with engaged := some (.charge 0) }⟩) ∧ cardValid 1 = true := by decide +kernel

theorem test_card_delete : (after (.cardDelete 1 (be 7 1)) (withCard guest run)).cards = [] ∧
    (after (.cardDelete 1 (be 7 1)) (withCard guest run)).tally.guestAboard = 0 ∧
    tget (after (.cardDelete 1 (be 7 1)) (withCard guest run)).folios 5 = some { folio with refs := 0 } ∧
    resultOf (.cardDelete 1 (be 7 1)) (withQuery run) = some 3 := by decide +kernel

theorem test_card_refuse : (after (.cardRefuse 1 (be 7 1)) (withQuery run)).cards = [] ∧
    (after (.cardRefuse 1 (be 7 1)) (withQuery run)).link.notices = [.tap 0 1 .deniedUnknown .none 9 true true] ∧
    resultOf (.cardRefuse 1 (be 7 1)) (withCard guest run) = some 5 := by decide +kernel

theorem test_card_status : (after (.cardStatus 1 (be 7 1 ++ [2])) (withCard guest run)).known 1 =
      some { guest with status := .revoked } ∧ resultOf (.cardStatus 1 (be 7 1 ++ [3])) run = some 4 ∧
    resultOf (.cardStatus 1 (be 7 1 ++ [0])) (withQuery run) = some 6 := by decide +kernel

theorem test_presence_set : (after (.presenceSet 1 (be 7 1 ++ [1])) (withCard guest run)).tally.guestAshore = 1 ∧
    (after (.presenceSet 1 (be 7 1 ++ [1])) (withCard guest run)).tally.guestAboard = 0 := by decide +kernel

/-- A body of CARD PUT: card 1, GUEST, ACTIVE, folio 5, may charge, no ends, ABOARD, one DOOR grant for door 7. -/
def putBody : List Octet :=
  be 7 1 ++ [0, 0] ++ be 2 5 ++ [3, 0] ++ be 4 0 ++ be 4 0 ++ [0, 1] ++ ([0] ++ be 2 7)

theorem test_witness_card_put : putBody.length = 26 ∧ cardPutOf putBody = some ⟨1, guest⟩ ∧
    cardPutOf (List.replicate 23 0) = none ∧ freeWay run.cards 1 = some 1980 ∧ tget run.folios 5 = none ∧
    displacedWay (withCard (caller 3) run).cards 1 = some 1980 := by decide +kernel

theorem test_card_put : resultOf (.cardPut 1 putBody) run = some 8 ∧
    (after (.cardPut 1 putBody) { run with folios := [(5, { folio with refs := 0 })] }).cards =
      [(1980, ⟨1, .known guest⟩)] ∧
    (after (.cardPut 1 putBody) { withQuery run with folios := [(5, { folio with refs := 0 })] }).known 1 =
      some { guest with lastSeen := 9 } := by decide +kernel

/-- A CALLER's body: card 1, HOLD, no folio, officer, valid-until 100, ASHORE, a SPAN grant of code 0x0190. -/
def callerBody (until_ span : Nat) : List Octet :=
  be 7 1 ++ [2, 1] ++ be 2 0xFFFF ++ [4, 2] ++ be 4 0 ++ be 4 until_ ++ [1, 1] ++ ([1] ++ be 2 span)

theorem test_card_body : cardPutOf (callerBody 100 0x0190) =
      some ⟨1, ⟨.caller 0 false, .hold, none, false, false, true, [.span 0x0190], none, some 100, .ashore, none, 0⟩⟩ ∧
    cardPutOf (callerBody 100 8192) = none ∧ cardPutOf ((callerBody 100 1).set 12 0) = none ∧
    cardPutOf ((callerBody 100 1).set 12 4) = none ∧ cardPutOf ((callerBody 100 1).set 22 2) = none ∧
    cardPutOf ((callerBody 100 1).set 7 3) = none ∧ cardPutOf ((callerBody 100 1).set 6 0) = none := by decide +kernel

theorem test_ways : freeWay [(1980, ⟨1, .known guest⟩), (1982, ⟨1, .known guest⟩)] 1 = some 1981 ∧
    freeWay [(1980, ⟨1, .known guest⟩), (1981, ⟨1, .known guest⟩), (1982, ⟨1, .known guest⟩), (1983, ⟨1, .known guest⟩)] 1 =
      none ∧
    displacedWay (withCard guest run).cards 1 = none ∧
    displacedWay [(1981, ⟨1, .known { caller 0 with lastSeen := 7 }⟩), (1982, ⟨1, .known (caller 0)⟩),
      (1983, ⟨1, .known (caller 0)⟩)] 1 = some 1982 := by decide +kernel

/-! ## Folios, tills, the journal -/

theorem test_witness_folio_put : 65535 < 65536 ∧ (1000000 : Nat) ≤ 1000000 ∧ (999999 : Nat) ≤ 999999 := by decide

theorem test_folio_put :
    tget (after (.folioPut 1 (be 2 5 ++ [1] ++ be 4 1000000 ++ be 4 999999 ++ [1] ++ be 4 0)) (withCard guest run)).folios 5 =
      some ⟨.open, 1000000, 200, 999999, 1⟩ ∧
    resultOf (.folioPut 1 (be 2 5 ++ [1] ++ be 4 100 ++ be 4 0 ++ [1] ++ be 4 0)) (withCard guest run) = some 4 ∧
    resultOf (.folioDelete 1 (be 2 5)) (withCard guest run) = some 9 ∧ resultOf (.folioDelete 1 (be 2 6)) run = some 5 := by
  decide +kernel

theorem test_folio_octets : resultOf (.folioPut 1 (be 2 5 ++ [0] ++ be 4 9 ++ be 4 9 ++ [1] ++ be 4 0)) run = some 4 ∧
    resultOf (.folioPut 1 (be 2 5 ++ [4] ++ be 4 9 ++ be 4 9 ++ [1] ++ be 4 0)) run = some 4 ∧
    resultOf (.folioPut 1 (be 2 5 ++ [3] ++ be 4 9 ++ be 4 9 ++ [2] ++ be 4 0)) run = some 4 ∧
    resultOf (.folioPut 1 (be 2 5 ++ [3] ++ be 4 9 ++ be 4 9 ++ [1] ++ be 4 0)) run = some 0 := by decide +kernel

theorem test_witness_charge_open : maint.mode = .maintenance ∧ evacuated.evac.state = .evacuation ∧ run.tillUsed 0 = false ∧
    (till .idle).tillUsed 0 = true ∧ ((till .idle).tills.get 0).state = .idle ∧ ((till referred).tills.get 0).state ≠ .idle := by
  decide +kernel

theorem test_charge_open :
    ((after (.chargeOpen 1 ([0] ++ be 4 300 ++ be 4 77)) (till .idle)).tills.get 0).state = .armed charge 90000 ∧
    resultOf (.chargeOpen 1 ([0] ++ be 4 1000000 ++ be 4 77)) (till .idle) = some 4 ∧
    resultOf (.chargeOpen 1 ([0] ++ be 4 300 ++ be 4 77)) (till referred) = some 3 := by decide +kernel

theorem test_charge_cancel :
    ((after (.chargeCancel 1 [0]) (till (.armed charge 5))).tills.get 0).last = some ⟨.cancelled, none, 77, none⟩ ∧
    ((after (.chargeCancel 1 [0]) referral).known 1).map Known.engaged = some none ∧
    resultOf (.chargeCancel 1 [0]) (till .idle) = some 6 := by decide +kernel

theorem test_witness_auth_answer : referral.recheck ⟨1, 0, 5, 500⟩ = true ∧ (till referred).recheck ⟨1, 0, 5, 500⟩ = false ∧
    referral.journal.entries.length < 4096 ∧ referral.journal.exhausted = false ∧ charge.ref = 77 := by decide +kernel

theorem test_auth_answer :
    (after (.authAnswer 1 ([0] ++ be 4 77 ++ [0])) referral).journal.entries.map JournalEntry.tier = [.referred] ∧
    ((after (.authAnswer 1 ([0] ++ be 4 77 ++ [1])) referral).tills.get 0).last = some ⟨.declinedReferral, some 1, 77, none⟩ ∧
    resultOf (.authAnswer 1 ([0] ++ be 4 78 ++ [0])) referral = some 10 := by decide +kernel

/-- Card 1 as `k` at a reader of till 0, which is ARMED with a charge of `amount`. -/
def taking (amount : Nat) (k : Known) (auth : Authority) : State :=
  { withCard k (till (.armed { charge with amount := amount } 90000)) with
    authority := auth, readers := (bus .active (.counter 0) .poll 0).readers }

/-- What till 0 is left with when it takes card 1. -/
def takenAt (amount : Nat) (k : Known) (auth : Authority) : Till :=
  ((taking amount k auth).takeCard 0 { charge with amount := amount } 1 0 0 k).tills.get 0

theorem test_taking : (takenAt 500 guest (.online 9)).last.map LastOutcome.outcome = some .approved ∧
    (takenAt 501 guest (.online 9)).state = .authorising { charge with amount := 501 } ⟨1, 0, 5, 500⟩ 4000 ∧
    (takenAt 800 guest .standalone).last.map LastOutcome.outcome = some .approved ∧
    (takenAt 801 guest .standalone).last.map LastOutcome.outcome = some .declinedLimit ∧
    (takenAt 1 { guest with status := .hold } .standalone).last.map LastOutcome.outcome = some .declinedStatus ∧
    (takenAt 1 { guest with mayCharge := false } .standalone).last.map LastOutcome.outcome = some .declinedNoFolio ∧
    (takenAt 1 { guest with presence := .ashore } .standalone).last.map LastOutcome.outcome = some .declinedPresence := by
  decide +kernel

theorem test_witness_taking : (taking 501 guest (.online 9)).verdict (.counter 0) guest = .chargeTaken ∧
    ((taking 501 guest (.online 9)).present 0 1).link.notices =
      [.tap 0 1 .chargeTaken (.counter 0) 0 true false, .authQuery 0 1 5 501 77] ∧
    (((taking 501 guest (.online 9)).present 0 1).readers.get 0).marker = some ⟨1, 0, .awaitingCharge⟩ ∧
    (((taking 501 guest (.online 9)).present 0 1).known 1).map Known.engaged = some (some (.charge 0)) ∧
    (till .idle).verdict (.counter 0) guest = .deniedNoCharge := by decide +kernel

theorem test_end_of_charge : ({ referral with readers := (bus .active (.counter 0) .poll 0).readers }.endCharge 0 charge
      .approved (some (1, 0)) (some 5) none).cards = (withCard guest run).cards ∧
    (({ referral with readers := (bus .active (.counter 0) .poll 0).readers }.endCharge 0 charge
      .approved (some (1, 0)) (some 5) none).readers.get 0).slot = some .green := by decide +kernel

theorem test_witness_approval : { run.journal with next := 4294967295 }.next = 4294967295 ∧ run.journal.next < 4294967295 ∧
    tget referral.folios 5 = some folio := by decide +kernel

theorem test_high_water : (({ withCard guest (till .idle) with setup :=
      { cfg .none .level with timing := { Timing.default with highWater := 1 } } }.approve 0 charge 1 0 5 .localTier).link.notices) =
    [.chargeResult 0 .approved (some 1) (some 5) 300 77 (some ⟨1, .localTier⟩) true, .journal 1 1 (some 1) 2 false] := by
  decide +kernel

theorem test_witness_journal : (journaled run).journal.next ≤ 6 ∧ 5 < (journaled run).journal.next ∧
    (journaled run).journal.entries.find? (fun e => e.seq = 4) = some (entry 4 .offline false) ∧
    (∀ e ∈ (journaled run).journal.entries, e.seq ≠ 9) := by decide +kernel

/-- The release of an empty journal: taken below the next sequence, refused RANGE at it (log entry 33), and taken when exhausted. -/
theorem test_release_of_empty : resultOf (.journalRelease 1 (be 4 0)) run = some 0 ∧
    resultOf (.journalRelease 1 (be 4 1)) run = some 4 ∧
    resultOf (.journalRelease 1 (be 4 1)) { run with journal := { run.journal with exhausted := true } } = some 0 := by
  decide +kernel

theorem test_journal : (after (.journalRelease 1 (be 4 4)) (journaled run)).journal.entries = [entry 5 .standIn true] ∧
    resultOf (.journalRelease 1 (be 4 6)) (journaled run) = some 4 ∧
    (tget (after (.chargeVoid 1 (be 4 4)) (journaled run)).folios 5).map Folio.spent = some 100 ∧
    resultOf (.chargeVoid 1 (be 4 5)) (journaled run) = some 6 ∧ resultOf (.chargeVoid 1 (be 4 9)) (journaled run) = some 5 := by
  decide +kernel

/-! ## Authority, clock, evacuation, deadline, lanes -/

theorem test_lease : (after (.leaseGrant 1 (be 2 300)) run).authority = .online 300000 ∧
    resultOf (.leaseGrant 1 (be 2 4)) run = some 4 ∧ (after (.leaseEnd 1 []) (withQuery run)).cards = [] ∧
    (after (.timeSet 1 (be 4 99)) run).clock = ⟨99, true, 0, 0⟩ := by decide +kernel

theorem test_deadline : (after (.deadlineSet 1 (be 2 1440 ++ [120])) run).deadline = .running 1440 120 ∧
    resultOf (.deadlineSet 1 (be 2 5 ++ [5])) run = some 4 ∧
    (after (.deadlineClear 1 []) { run with deadline := .expired 3 }).deadline = .none := by decide +kernel

theorem test_lane_requests : ((after (.laneOpen 1 [0]) (gate .locked .closed)).zone.lanes.get 0).state = .ready ∧
    ((after (.laneClose 1 [0]) (gate .locked .ready)).zone.lanes.get 0).state = .closed ∧
    resultOf (.laneOpen 1 [3]) run = some 6 ∧ resultOf (.laneOpen 1 [3]) maint = some 13 := by decide +kernel

/-! ## Channels -/

theorem test_witness_orderly : (cabin .locked).zone.orderly ∧ (cabin .off).zone.orderly ∧ (cabin .fault).zone.orderly ∧
    (cabin .released).zone.orderly ∧ (cabin (.openHold .waitClose)).zone.orderly ∧
    (cabin (.inhibited .noEnd)).zone.orderly ∧ (gate (.openHold .laneHeld) .ready).zone.orderly := by
  refine ⟨?_, ?_, ?_, ?_, ?_, ?_, ?_⟩ <;> (unfold Zone.orderly; decide +kernel)

theorem test_witness_orderly_waiting :
    (groupWith (fun g => { g with queue := [0], slot0 := some 1, slot1 := some 2 }) (cabin .lockWait)).zone.orderly ∧
    (groupWith (fun g => { g with queue := [0], slot0 := some 1, slot1 := some 2 }) (cabin (.unlockWait .expired))).zone.orderly ∧
    (groupWith (fun g => { g with slot0 := some 0 }) (cabin (.unlocking .expired))).zone.orderly ∧
    (groupWith (fun g => { g with slot1 := some 0 }) (cabin .locking)).zone.orderly ∧
    (groupWith (fun g => { g with slot0 := some 1, slot1 := some 2 }) (cabin .locked)).zone.orderly := by
  refine ⟨?_, ?_, ?_, ?_, ?_⟩ <;> (unfold Zone.orderly; decide +kernel)

theorem test_witness_claims : ((cabin .locked).zone.groups.get 0).inhibited = false ∧
    ((groupWith (fun g => { g with latch := true }) (cabin .locked)).zone.groups.get 0).inhibited = true ∧
    ((cabin .locked).zone.channels.get 0).withdrawn = false ∧ (cfg .cabin .level).kind 0 = .cabin ∧
    (cfg .cabin .level).inUse 0 = true ∧ (cfg .cabin .level).inUse 1 = false ∧ (cfg .cabin .level).timing.relockDelay ≠ 0 ∧
    (cfg .cabin .level).policy.scope.get (groupOf 0) = .isolate := by decide +kernel

theorem test_claims : ((gate .lockWait (.closing (out 1 none))).zone.openClaim (cfg .gate .level) 0).lanes.get 0 =
      { Lane.reset with state := .closing (out 1 (some 10000)) } ∧
    (((gate (.openHold .laneHeld) .ready).zone.relockClaim (cfg .gate .level) 0).channels.get 0).state =
      .openHold (.relockDelay 1000) ∧
    (((cabinWith (fun c => { c with withdrawn := true }) (cabin .locked)).zone.openClaim (cfg .cabin .level) 0).channels.get
      0).state = .openHold (.holding 6000) := by decide +kernel

theorem test_channel_open :
    ((after (.channelOpen 1 [0, 0]) (cabin .locked)).zone.channels.get 0).state = .unlocking .fresh ∧
    ((after (.channelOpen 1 [0, 0]) (cabin .locked)).zone.groups.get 0).slot0 = some 0 ∧
    resultOf (.channelOpen 1 [0, 0]) (cabinWith (fun c => { c with privacy := true }) (cabin .locked)) = some 12 ∧
    resultOf (.channelOpen 1 [0, 0]) (cabin .released) = some 6 ∧ resultOf (.channelOpen 1 [0, 0]) maint = some 13 := by
  decide +kernel

theorem test_channel_lockout : ((after (.channelLockout 1 [0, 1]) run).zone.channels.get 0).lockout = true ∧
    resultOf (.channelLockout 1 [0, 2]) run = some 4 := by decide +kernel

theorem test_bolt_senses :
    ((after (.boltWithdrawnSense 0 true) (cabin (.unlocking .fresh))).zone.channels.get 0).state = .openHold (.holding 6000) ∧
    ((after (.boltHomeSense 0 true) (cabin .locking)).zone.channels.get 0).state = .locked ∧
    ((after (.boltWithdrawnSense 0 true) (gate (.unlocking .fresh) (.released (out 1 none)))).zone.lanes.get 0).state =
      .released (out 1 (some 10000)) ∧
    (gate .locked .ready).zone.laneOf (cfg .gate .level) 0 = some 0 := by decide +kernel

theorem test_timers :
    ((after (.holdTimerExpiry 0) (cabin (.openHold (.holding 0)))).zone.channels.get 0).state = .openHold (.relockDelay 1000) ∧
    ((after (.relockDelayExpiry 0) (cabin (.openHold (.relockDelay 0)))).zone.channels.get 0).state = .locking ∧
    ((after (.doorHeldExpiry 0) (cabinWith (fun c => { c with doorHeld := some 0 }) (cabin (.openHold .waitClose)))).alarms.records.map
      AlarmRecord.alarm) = [.held 0] := by decide +kernel

theorem test_edge_and_gate :
    (after (.contactQualified 0 true) { cabin .locked with setup := cfg .cabin .edge }).alarms.records.map AlarmRecord.alarm =
      [.forced 0] ∧
    (after (.contactQualified 0 true) (cabinWith (fun c => { c with contact := true })
      { cabin .locked with setup := cfg .cabin .edge })).alarms.records = [] ∧
    (after (.contactQualified 0 true) (gate .locked .ready)).alarms.records.map AlarmRecord.alarm = [.tailgate 0] ∧
    (after (.contactQualified 0 true) (cabinWith (fun c => { c with contact := true }) (gate .locked .ready))).alarms.records =
      [] := by decide +kernel

theorem test_door :
    (after (.contactQualified 0 true) (cabin .locked)).alarms.records.map AlarmRecord.alarm = [.forced 0] ∧
    ((after (.contactQualified 0 true) (cabin (.openHold (.relockDelay 9)))).zone.channels.get 0).state = .openHold .waitClose ∧
    ((after (.contactQualified 0 true) (cabin .lockWait)).zone.channels.get 0).doorHeld = some 60000 ∧
    ((after (.contactQualified 0 false) (cabinWith (fun c => { c with contact := true })
      (cabin (.openHold .waitClose)))).zone.channels.get 0).state = .openHold (.relockDelay 1000) ∧
    ((after (.privacyQualified 0 true) (cabin .locked)).zone.channels.get 0).privacy = true := by decide +kernel

theorem test_faults :
    ((after (.driveTimeout 0) (cabinWith (fun c => { c with driveLeft := some 0 }) (cabin .locking))).zone.channels.get 0).state =
      .fault ∧
    ((after (.overcurrentQualified 0) (policyWith (fun p => { p with scope := vset p.scope 0 .group })
      (cabin .locking))).zone.channels.get 0).state = .inhibited .closedEnd ∧
    ((after (.positionLost 0) (cabinWith (fun c => { c with home := true }) (cabin .locked))).zone.channels.get 0).record.count = 1 ∧
    (after (.driveTimeout 0) (gate (.unlocking .fresh) (.released (out 1 none)))).zone.lanes.get 0 =
      (gate (.unlocking .fresh) (.released (out 1 none))).zone.lanes.get 0 := by decide +kernel

theorem test_witness_gate_fault : (gate (.unlocking .fresh) (.released (out 1 none))).zone.laneOf (cfg .gate .level) 0 = some 0 ∧
    ((gate (.unlocking .fresh) (.released (out 1 none))).takeFault 0 .jamOpening).link.notices =
      [.fault 0 (some 0) (.taken .jamOpening .isolate), .lane 0 1 .out 40 .gateFault .ready] := by decide +kernel

/-- A gate that jams under GROUP scope while its lane is CLOSING. -/
def jammed (release : Bool) (lane : LaneState) : State :=
  (policyWith (fun p => { p with scope := vset p.scope 0 .group })
    (cabinWith (fun c => { c with release := release }) (gate (.unlocking .fresh) lane))).takeFault 0 .jamOpening

theorem test_witness_closing_gate : (gate (.unlocking .fresh) (.closing (out 1 none))).zone.laneOf (cfg .gate .level) 0 = some 0 ∧
    (groupWith (fun g => { g with slot0 := some 0 }) (gate (.unlocking .fresh) (.closing (out 1 none)))).zone.orderly := by
  refine ⟨by decide +kernel, ?_⟩
  unfold Zone.orderly; decide +kernel

theorem test_gate_fault_of_a_group :
    ((jammed false (.closing (out 1 none))).zone.channels.get 0).state = .inhibited .closedEnd ∧
    ((jammed true (.closing (out 1 none))).zone.channels.get 0).state = .inhibited (.openEnd .fresh) ∧
    ((jammed false .ready).zone.channels.get 0).state = .inhibited (.openEnd .fresh) ∧
    (jammed false (.closing (out 1 none))).zone.lanes.get 0 = { Lane.reset with state := .closed, abandoned := 1 } ∧
    (jammed false (.closing (out 1 none))).link.notices =
      [.fault 0 (some 0) (.taken .jamOpening .group), .lane 0 1 .out 40 .gateFault .closed] := by decide +kernel

theorem test_rails :
    ((after (.railUndervoltage 0) (cabin (.unlockWait .fresh))).zone.channels.get 0).state = .inhibited (.openEnd .fresh) ∧
    ((after (.railGood 0) (groupWith (fun g => { g with rail := .undervoltage })
      (cabin (.inhibited (.openEnd .expired))))).zone.channels.get 0).state = .unlocking .expired ∧
    ((after (.railGood 0) (groupWith (fun g => { g with rail := .undervoltage })
      (cabinWith (fun c => { c with home := true }) (cabin (.inhibited .closedEnd))))).zone.channels.get 0).state = .locked := by
  decide +kernel

theorem test_fault_read :
    ((after (.faultRead 1 [0, 1]) (groupWith (fun g => { g with latch := true })
      (cabin (.inhibited .noEnd)))).zone.channels.get 0).state = .fault ∧
    ((after (.faultRead 1 [0, 1]) (policyWith (fun p => { p with scope := vset p.scope 0 .group })
      (cabinWith (fun c => { c with home := true }) (cabin .fault)))).zone.channels.get 0).state = .locked ∧
    resultOf (.faultRead 1 [32, 0]) run = some 4 := by decide +kernel

/-- Channel 0 after a FAULT READ with clear that releases the latch of its group. -/
def recovered (s : State) : ChanState :=
  ((after (.faultRead 1 [0, 1]) (groupWith (fun g => { g with latch := true }) s)).zone.channels.get 0).state

/-- The cabin door in FAULT after a FAULT READ with clear that places it. -/
def placed (f : Channel → Channel) : ChanState :=
  ((after (.faultRead 1 [0, 1]) (policyWith (fun p => { p with scope := vset p.scope 0 .group })
    (cabinWith f (cabin .fault)))).zone.channels.get 0).state

theorem test_recovery :
    recovered (cabin (.inhibited .closedEnd)) = .locking ∧
    recovered (cabinWith (fun c => { c with home := true }) (cabin (.inhibited .closedEnd))) = .locked ∧
    recovered (cabin (.inhibited (.openEnd .fresh))) = .unlocking .fresh ∧
    recovered (cabinWith (fun c => { c with withdrawn := true }) (cabin (.inhibited (.openEnd .fresh)))) =
      .openHold (.holding 6000) ∧
    recovered (cabinWith (fun c => { c with withdrawn := true }) (cabin (.inhibited (.openEnd .expired)))) =
      .openHold (.relockDelay 1000) ∧
    recovered (cabinWith (fun c => { c with withdrawn := true, release := true }) (cabin (.inhibited (.openEnd .expired)))) =
      .released := by decide +kernel

theorem test_placing :
    placed id = .openHold (.relockDelay 1000) ∧ placed (fun c => { c with contact := true }) = .openHold .waitClose ∧
    placed (fun c => { c with release := true, withdrawn := true }) = .released ∧
    placed (fun c => { c with release := true }) = .unlocking .expired := by decide +kernel

theorem test_alarms :
    (after (.alarmClear 1 ([0] ++ (Alarm.forced 31).octets)) { run with alarms := ⟨[⟨.forced 31, 1, 2, 3⟩], false⟩ }).alarms.records = [] ∧
    resultOf (.alarmClear 1 ([0] ++ (Alarm.forced 30).octets)) { run with alarms := ⟨[⟨.forced 31, 1, 2, 3⟩], false⟩ } = some 5 ∧
    (after (.alarmEnable 1 [7, 1]) { run with alarms := ⟨[⟨.overstay 1, 1, 2, 3⟩], false⟩ }).alarms.records = [] ∧
    resultOf (.alarmEnable 1 [8, 1]) run = some 4 := by decide +kernel

/-- The part with 64 records of REVOKED_TAP alarms. -/
def alarmed : State :=
  { run with alarms := ⟨(List.range 64).map (fun n => ⟨.revokedTap (BitVec.ofNat 56 (n + 1)) 0, 0, 0, 1⟩), false⟩ }

theorem test_raise : ((run.raise (.held 0)).raise (.held 0)).alarms.records.map AlarmRecord.count = [2] ∧
    (alarmed.raise (.held 0)).alarms.overflow = true ∧ (alarmed.raise (.held 0)).alarms.records.length = 64 ∧
    (alarmed.raise (.held 0)).link.notices = [.alarm (.held 0) 0 0 .notLatched true] ∧
    { run with setup := { Setup.default with alarmOn := vset Setup.default.alarmOn 1 false } }.raise (.held 0) =
      { run with setup := { Setup.default with alarmOn := vset Setup.default.alarmOn 1 false } } ∧
    (alarmed.raise (.revokedTap 64 0)).link.notices = [.alarm (.revokedTap 64 0) 0 2 .repeated true] := by decide +kernel

theorem test_witness_alarm_law : run.alarms.law ∧ (run.raise (.held 0)).alarms.law := by unfold AlarmList.law; decide +kernel

theorem test_alarm_ranges : resultOf (.alarmClear 1 ([0, 0] ++ be 7 0 ++ [32])) run = some 4 ∧
    resultOf (.alarmClear 1 ([0, 2] ++ be 7 0 ++ [0])) run = some 4 ∧
    resultOf (.alarmClear 1 ([0, 5] ++ be 7 0 ++ [48])) run = some 4 ∧
    resultOf (.alarmClear 1 ([0, 5] ++ be 7 1 ++ [49])) run = some 4 ∧
    resultOf (.alarmClear 1 ([0, 6] ++ be 7 0 ++ [4])) run = some 4 ∧
    resultOf (.alarmClear 1 ([0, 7] ++ be 7 0 ++ [0])) run = some 4 ∧
    resultOf (.alarmClear 1 ([0, 8] ++ be 7 1 ++ [1])) run = some 4 ∧
    resultOf (.alarmClear 1 ([2, 0] ++ be 7 1 ++ [1])) run = some 4 ∧
    resultOf (.alarmEnable 1 [0, 2]) run = some 4 ∧ resultOf (.alarmClear 1 ([0, 5] ++ be 7 1 ++ [48])) run = some 5 := by
  decide +kernel

/-! ## Passages -/

/-- A gate in LANE_HELD whose lane holds a movement of card 1. -/
def passing (window : Option Nat) : State :=
  withCard { guest with engaged := some (.movement 0) } (gate (.openHold .laneHeld) (.released (out 1 window)))

theorem test_passage : ((after (.passageEdge 0) (passing (some 9))).known 1).map Known.presence = some .ashore ∧
    ((after (.passageEdge 0) (passing (some 9))).zone.lanes.get 0).committedOut = 1 ∧
    ((after (.passageEdge 0) (passing (some 9))).zone.channels.get 0).state = .openHold (.relockDelay 1000) ∧
    (after (.passageEdge 0) (gate .locked .ready)).alarms.records.map AlarmRecord.alarm = [.tailgate 0] ∧
    ((after (.passageEdge 0) (gate .released (.heldOpen .ready))).zone.lanes.get 0).unattributed = 0 := by decide +kernel

theorem test_passage_closing :
    let s := withCard { guest with engaged := some (.movement 0) } (gate (.unlocking .fresh) (.closing (out 1 none)))
    (after (.passageEdge 0) s).zone.lanes.get 0 = { Lane.reset with state := .closed, committedOut := 1 } ∧
      ((after (.passageEdge 0) s).zone.channels.get 0).state = .locking := by decide +kernel

theorem test_pass_window : ((after (.passWindowExpiry 0) (passing (some 0))).known 1).map Known.engaged = some none ∧
    ((after (.passWindowExpiry 0) (passing (some 0))).zone.lanes.get 0).state = .ready ∧
    ((after (.passWindowExpiry 0) (passing none)).zone.lanes.get 0).abandoned = 0 ∧
    ((after (.passWindowExpiry 0) (passing (some 0))).zone.channels.get 0).state = .openHold (.relockDelay 1000) := by
  decide +kernel

/-! ## The links -/

theorem test_host_link : (after (.hostOctetReceived 0) run).link.strayOctets = 1 ∧
    (after (.hostOctetReceived 1) { run with link := { Link.reset with framer := .inFrame [] 21 } }).link.lengthErrors = 1 ∧
    (after (.hostOctetReceived 243) { run with link := { Link.reset with framer := .inFrame [] 21 } }).link.lengthErrors = 1 ∧
    (after (.hostOctetReceived 0) { run with link := { Link.reset with framer := .inFrame [2, 0x27, 1, 0] 21 } }).link.checkErrors = 1 ∧
    (after .gapTimeout { run with link := { Link.reset with framer := .inFrame [] 0 } }).link.gapTimeouts = 1 ∧
    (after .hostReadyHigh (after (.status 1 []) run)).link.tx.isSome = true ∧
    (after .transmitFrameEnd { run with link := { Link.reset with tx := some ⟨⟨0, 0, []⟩, 0⟩ } }).link.tx = none := by
  decide +kernel

/-- A free transmitter with a reply built at 1, a busy reply built at 0 and a notice. -/
def sender : Link :=
  { Link.reset with
    hostReady := true
    queue := [.answered ⟨⟨0x67, 1, [0]⟩, 1⟩]
    busy := [⟨⟨0x67, 2, [3]⟩, 0⟩]
    notices := [.setupSaved true] }

theorem test_transmitter : (sender.transmit.tx.map fun x : Sending => x.frame.tag) = some 2 ∧
    ({ sender with busy := [] }.transmit.tx.map fun x : Sending => x.frame.tag) = some 1 ∧
    ({ sender with busy := [], queue := [] }.transmit.tx.map fun x : Sending => x.frame.kind) = some 0x8D ∧
    ({ sender with lead := 1 }.transmit.tx.map fun x : Sending => x.frame.kind) = some 0x8D := by decide +kernel

theorem test_polls :
    ((after (.pollExchangeEnd (busOctets 1 0x11 [])) (bus .active .none .poll 2)).readers.get 0).misses = 0 ∧
    ((after (.pollExchangeEnd [1, 2]) (bus .active .none .poll 2)).readers.get 0).enrol = .lost ∧
    ((after .readerReplyWindow (bus .active .none (.indicate .red) 1)).readers.get 0).misses = 2 ∧
    (after (.pollExchangeEnd (busOctets 1 0x13 [1])) (bus .active .none .poll 0)).alarms.records.map AlarmRecord.alarm =
      [.tamper 0] ∧
    (after (.pollExchangeEnd (busOctets 1 0x12 (be 7 1))) (bus .active (.door 0) .poll 0)).link.notices =
      [.tap 0 1 .deniedUnknown (.door 0) 0 true false] := by decide +kernel

/-- The bus with no exchange in flight, at a stage of round `round`, and the reader of address 3 in an enrolment state. -/
def round (round : Nat) (stage : RoundStage) (enrol : Enrol) (slot : Option Pattern) : State :=
  { run with
    readers := vset run.readers 2 { Reader.reset with enrol := enrol, slot := slot }
    bus := ⟨round, stage, 0, 0, none⟩ }

theorem test_round : (round 1 (.polls 0) .active none).busOn.bus = ⟨1, .polls 3, 0, 0, some ⟨2, .poll, 3⟩⟩ ∧
    (round 1 (.polls 0) .active (some .red)).busOn.bus.exchange = some ⟨2, .indicate .red, 3⟩ ∧
    (round 1 (.polls 3) .active none).busOn.bus = ⟨2, .polls 3, 0, 0, some ⟨2, .poll, 3⟩⟩ ∧
    (round 1 (.polls 0) .lost none).busOn.bus = ⟨1, .rejected, 2, 0, some ⟨2, .probe, 3⟩⟩ ∧
    (round 1 (.polls 0) .rejected none).busOn.bus = ⟨16, .ended, 0, 2, some ⟨2, .probe, 3⟩⟩ ∧
    (round 1 (.polls 0) .unassigned none).busOn = round 1 (.polls 0) .unassigned none := by decide +kernel

/-- The longest way to an exchange: a REJECTED reader alone, after its probe of round 65,520. -/
theorem test_round_wraps : (round 65520 .ended .rejected none).busOn.bus = ⟨16, .ended, 0, 2, some ⟨2, .probe, 3⟩⟩ := by
  decide +kernel

theorem test_unlisted_reader_octets :
    (⟨0, .poll, 2⟩ : Exchange).hear (busOctets 1 0x13 [9]) = .valid (.tamper 9) ∧
    ((after (.pollExchangeEnd (busOctets 1 0x13 [9])) (bus .active .none .poll 2)).readers.get 0).misses = 0 ∧
    ((after (.probeExchangeEnd (busOctets 1 0x14 [0x5A, 7])) (bus .absent (.door 0) .probe 0)).readers.get 0).enrol =
      .rejected := by decide +kernel

theorem test_enrolment :
    ((after (.probeExchangeEnd (busOctets 1 0x14 [0x44, 7])) (bus .absent (.door 0) .probe 0)).readers.get 0).enrol = .assigning ∧
    ((after (.probeExchangeEnd (busOctets 1 0x14 [0x43, 7])) (bus .absent (.door 0) .probe 0)).readers.get 0).enrol = .rejected ∧
    ((after (.assignExchangeEnd (busOctets 1 0x15 [1, 0])) (bus .assigning (.door 0) (.assign (.door 0)) 0)).readers.get 0).enrol =
      .active ∧
    ((after (.assignExchangeEnd []) (bus .assigning (.door 0) (.assign (.door 0)) 0)).readers.get 0).enrol = .absent := by
  decide +kernel

/-- A valid OFFER is recorded even when its reader has become UNASSIGNED (R164, R171); a corrupt reply to a PROBE counts twice. -/
theorem test_offer_to_unassigned :
    (after (.probeExchangeEnd (busOctets 1 0x14 [0x44, 7])) (bus .unassigned .none .probe 0)).readers.get 0 =
      { Reader.reset with offered := some ⟨0x44, 7⟩ } ∧
    (after (.probeExchangeEnd [1, 2]) (bus .unassigned .none .probe 0)).readers.get 0 =
      { Reader.reset with busErrors := 1, missCount := 1 } ∧
    (after (.pollExchangeEnd []) (bus .active (.door 0) .poll 2)).readers.get 0 =
      { Reader.reset with role := .door 0, enrol := .lost, lost := true, missCount := 1 } := by decide +kernel

theorem test_witness_hear : (⟨0, .poll, 2⟩ : Exchange).hear [1, 2] = .corrupt ∧
    (⟨0, .probe, 2⟩ : Exchange).hear (busOctets 1 0x14 [0x4C, 7]) = .valid (.offer ⟨0x4C, 7⟩) ∧
    (⟨0, .assign .none, 2⟩ : Exchange).hear (busOctets 1 0x15 [0, 0]) = .valid (.confirm 0 0) := by decide +kernel

/-! ## Presentations -/

theorem test_verdicts : (cabin .locked).verdict (.door 0) guest = .granted ∧
    (cabin .locked).verdict (.door 0) { guest with grants := [] } = .deniedNoGrant ∧
    (cabin .locked).verdict (.door 0) { guest with engaged := some (.charge 0) } = .deniedBusy ∧
    (cabin .locked).verdict (.door 0) { guest with status := .revoked } = .deniedRevoked ∧
    (cabin .locked).verdict (.door 0) { guest with presence := .ashore } = .deniedPresence ∧
    (cabin (.inhibited .noEnd)).verdict (.door 0) guest = .deniedChannel ∧
    (cabinWith (fun c => { c with lockout := true }) (cabin .locked)).verdict (.door 0) guest = .deniedLockout ∧
    { cabin .locked with clock := ⟨101, true, 0, 0⟩ }.verdict (.door 0) (caller 0) = .deniedExpired := by decide +kernel

theorem test_lane_verdicts : (gate .locked .ready).verdict (.laneOut 0) guest = .accepted ∧
    (gate .locked .ready).verdict (.laneIn 0) guest = .deniedPassback ∧
    (gate .locked .closed).verdict (.laneIn 0) guest = .deniedLaneClosed ∧
    (gate .locked (.released (out 1 none))).verdict (.laneOut 0) guest = .deniedLaneBusy ∧
    (gate .fault .ready).verdict (.laneOut 0) guest = .deniedChannel ∧
    (gate .locked .ready).verdict (.laneOut 0) { guest with status := .hold } = .deniedHold ∧
    { gate .locked .ready with deadline := .expired 3 }.verdict (.laneOut 0) guest = .deniedDeadline := by decide +kernel

/-- `s` with evacuation in effect. -/
def evacuating (s : State) : State := { s with evac := ⟨false, 0, true, .evacuation⟩ }

theorem test_evacuation_verdicts : (evacuating (cabin .released)).verdict (.door 0) guest = .evacuation ∧
    (evacuating (till .idle)).verdict (.counter 0) guest = .deniedSuspended ∧
    (evacuating (gate .released (.heldOpen .ready))).verdict (.laneOut 0) guest = .accepted ∧
    (evacuating (gate .released (.heldOpen .ready))).verdict (.laneOut 0) { guest with status := .hold } = .deniedHold ∧
    (evacuating (gate .released .closed)).verdict (.laneIn 0) guest = .deniedLaneClosed ∧
    { gate .locked .ready with clock := ⟨101, true, 0, 0⟩ }.verdict (.laneOut 0) { caller 0 with presence := .aboard } =
      .accepted ∧
    { gate .locked .ready with clock := ⟨101, true, 0, 0⟩ }.verdict (.laneIn 0) (caller 0) = .deniedExpired := by decide +kernel

theorem test_acceptance :
    ((withCard guest { gate .locked .ready with readers := (bus .active (.laneOut 0) .poll 0).readers }).present 0 1).zone.lanes.get 0 =
      { Lane.reset with state := .released ⟨1, .out, 0, none⟩ } ∧
    ((evacuating (withCard guest { gate .released (.heldOpen .ready) with
      readers := (bus .active (.laneOut 0) .poll 0).readers })).present 0 1).tally.guestAshore = 1 ∧
    (((withCard { guest with status := .revoked } run).present 0 1).link.notices.map Notice.frame).length = 2 := by
  decide +kernel

theorem test_presentations :
    ((withCard guest { cabin .locked with readers := (bus .active (.door 0) .poll 0).readers }).present 0 1).zone.groups.get 0 =
      { goodGroup with slot0 := some 0 } ∧
    (({ run with authority := .online 9 }.present 0 1).cards.map Prod.fst) = [1980] ∧
    ((maint.present 0 1).link.notices) = [.tap 0 1 .deniedMaintenance .none 0 true false] ∧
    (((withQuery run).present 0 1).link.notices) = [.tap 0 1 .deniedBusy .none 0 true false] ∧
    (({ run with readers := vset run.readers 0 { Reader.reset with memory := some ⟨1, 5⟩ } }.present 0 1).readers.get 0).filtered = 1 := by
  decide +kernel

/-! ## Waits and the clock -/

theorem test_waits : (after (.queryHoldExpiry 1) (withQuery run)).cards = [] ∧
    ((after (.repeatTimerExpiry 0) { run with readers := vset run.readers 0 { Reader.reset with memory := some ⟨1, 0⟩ } }).readers.get
      0).memory = none ∧
    ((after (.armTimerExpiry 0) (till (.armed charge 0))).tills.get 0).last = some ⟨.expired, none, 77, none⟩ ∧
    ((after (.answerTimerExpiry 0) referral).journal.entries.map JournalEntry.tier) = [.standIn] ∧
    (tget (after (.answerTimerExpiry 0) referral).folios 5).map Folio.spent = some 500 ∧
    ((after (.answerTimerExpiry 0) (till referred)).tills.get 0).last = some ⟨.declinedStatus, some 1, 77, none⟩ := by
  decide +kernel

theorem test_clock : (after .leaseExpiry (withQuery run)).cards = [] ∧
    (after .leaseExpiry (withQuery run)).link.notices.head? = some (.authority 1 0) ∧
    (after .shipTimeAdvance { run with clock := ⟨0xFFFFFFFF, true, 1000, 0⟩ }).clock = ⟨0, false, 0, 0⟩ ∧
    (after .minuteTick { run with deadline := .running 6 5 }).deadline = .finalCall 5 5 ∧
    (after .minuteTick { run with deadline := .running 1 0 }).deadline = .expired 0 ∧
    (after .deadlineExpired { run with deadline := .finalCall 1 5 }).deadline = .expired 5 ∧
    (after .deadlineExpired { run with deadline := .finalCall 2 5 }).deadline = .finalCall 2 5 := by decide +kernel

/-- An entry to STANDALONE denies the held presentation, with the TAP notice before the CHARGE RESULT of the stood-in charge. -/
theorem test_standalone :
    let s := { referral with cards := tput 4 ⟨9, .pending ⟨2, 50, 10⟩⟩ referral.cards }
    s.resolveWaits.cards.map Prod.fst = [1980] ∧
      (s.resolveWaits.link.notices.map Notice.kind).take 2 = [0x81, 0x84] := by decide +kernel

theorem test_aging : ((after .minuteTick (withCard (caller 5) run)).known 1).map Known.holder = some (.caller 6 false) ∧
    (after .minuteTick (withCard (caller 239) run)).cards = [] ∧
    ((after .minuteTick (withCard { caller 5 with presence := .aboard } { run with clock := ⟨101, true, 0, 0⟩ })).known 1).map
      Known.holder = some (.caller 5 true) := by decide +kernel

theorem test_tick_notices :
    (after .minuteTick (withCard { caller 5 with presence := .aboard }
      { run with clock := ⟨101, true, 0, 0⟩, deadline := .running 1 0 })).link.notices =
      [.alarm (.overstay 1) 101 1 .new false, .deadline (.expired 0) 0 0 0] := by decide +kernel

/-! ## Evacuation -/

theorem test_evacuate_set : (after (.evacuateSet 1 []) (cabin .locked)).evac = ⟨false, 0, true, .evacuation⟩ ∧
    ((after (.evacuateSet 1 []) (cabin .locked)).zone.channels.get 0).state = .unlocking .expired ∧
    ((after (.evacuateSet 1 []) (till referred)).tills.get 0).state = .idle ∧
    (after (.evacuateClear 1 []) evacuated).evac.state = .normal := by decide +kernel

theorem test_evacuation_line : (after .evacuationLineAsserted run).evac = ⟨true, 0, false, .evacuation⟩ ∧
    (after .evacuationLineCleared (after .evacuationLineAsserted run)).evac = ⟨false, 0, false, .normal⟩ ∧
    (after .evacuationLineAsserted (starting 0)).evac.line = false ∧
    ((after .evacuationLineAsserted (gate .locked .ready)).zone.lanes.get 0).state = .heldOpen .ready := by decide +kernel

/-- A setup whose lane 0 names channel 0, which is no gate, taken into service by an evacuation in MAINTENANCE. -/
def unfitting : State :=
  { run with
    mode := .maintenance
    setup := { Setup.default with lanes := vset Setup.default.lanes 0 ⟨true, .both, 0⟩ }
    zone := { run.zone with lanes := vset run.zone.lanes 0 { Lane.reset with committedOut := 5 } } }

theorem test_unfit : (after (.evacuateSet 1 []) unfitting).zone.lanes.get 0 = { Lane.reset with unfit := true } ∧
    unfitting.markUnfit.markUnfit = unfitting.markUnfit ∧
    ({ unfitting.markUnfit with setup := Setup.default }.markUnfit.zone.lanes.get 0).unfit = true ∧
    ({ unfitting.markUnfit with setup := Setup.default }.leaveMaintenance.zone.lanes.get 0).unfit = false := by decide +kernel

theorem test_suspension :
    (after (.evacuateSet 1 []) (till referred)).link.notices =
      [.evacuation .evacuation false true .hostSet 1 0, .chargeResult 0 .suspended (some 1) (some 5) 300 77 none true] ∧
    (after (.evacuateSet 1 []) (passing none)).link.notices =
      [.evacuation .evacuation false true .hostSet 0 1, .lane 0 1 .out 40 .evacuation (.heldOpen .ready)] ∧
    ((after (.evacuateSet 1 []) (passing none)).known 1).map Known.engaged = some none := by decide +kernel

/-- The cabin door as the exit from evacuation leaves it. -/
def exited (f : Channel → Channel) (st : ChanState) : ChanState :=
  ((cabinWith f (cabin st)).exitEvacuation .lineCleared).zone.channels.get 0 |>.state

theorem test_exit :
    exited (fun c => { c with release := true, withdrawn := true }) .released = .openHold (.relockDelay 1000) ∧
    exited (fun c => { c with release := true, withdrawn := true, contact := true }) .released = .openHold .waitClose ∧
    exited (fun c => { c with release := true }) (.unlocking .fresh) = .unlocking .expired ∧
    exited (fun c => { c with release := true }) (.unlockWait .fresh) = .unlockWait .expired ∧
    exited (fun c => { c with release := true }) (.inhibited (.openEnd .fresh)) = .inhibited (.openEnd .fresh) ∧
    exited (fun c => { c with release := true }) .fault = .fault := by decide +kernel

/-- The relock test in RECOVERY: a LOCKED door secures the zone, one in WAIT_CLOSE does not (R158). -/
theorem test_relock_test :
    let recovering := fun st => { cabin st with evac := ⟨false, 0, false, .recovery⟩ }
    (recovering .locked).relockTest.evac.state = .normal ∧
      (recovering .locked).relockTest.link.notices = [.evacuation .normal false false .relocked 0 0] ∧
      (recovering (.openHold .waitClose)).relockTest = recovering (.openHold .waitClose) := by decide +kernel

theorem test_witness_evacuation_claims : (gate .locked .ready).slotLaw ∧ (gate .released (.heldOpen .closed)).slotLaw := by
  unfold State.slotLaw Zone.orderly; decide +kernel

/-! ## Setup, maintenance, starts -/

theorem test_setup : resultOf (.setupReader 1 [1, 0, 0]) run = some 13 ∧ resultOf (.setupReader 1 [49, 0, 0]) run = some 4 ∧
    resultOf (.setupTill 1 [7, 0, 1]) { maint with save := some ⟨.default, 9⟩ } = some 3 ∧
    (after (.setupReader 1 [48, 1, 31]) maint).setup.readers.get 47 = .door 31 ∧
    (after (.setupLane 1 [3, 0, 2, 31]) maint).setup.lanes.get 3 = ⟨true, .both, 31⟩ ∧
    (after (.setupTill 1 [7, 0, 1]) maint).setup.tills.get 7 = ⟨true, .alcohol⟩ ∧
    (after (.setupTiming 1 Timing.default.octets) run).setup.timing = .default ∧
    resultOf (.setupTiming 1 (List.replicate 19 0)) run = some 4 := by decide +kernel

theorem test_setup_channel :
    ((after (.setupChannel 1 ([0, 1] ++ be 2 7 ++ [0, 0, 0]))
      { maint with pins := { Pins.reset with home := vset Pins.reset.home 0 true } }).zone.channels.get 0).state = .locked ∧
    ((after (.setupChannel 1 ([0, 0] ++ be 2 7 ++ [0, 0, 0])) { cabin .locked with mode := .maintenance }).zone.channels.get 0).state =
      .off ∧
    resultOf (.setupChannel 1 ([0, 3] ++ be 2 7 ++ [0, 0, 0])) maint = some 4 := by decide +kernel

/-- A channel whose kind changes with its bolt not home relocks by its door, and keeps its record and its lockout (R47, R67). -/
theorem test_setup_kind :
    let s := cabinWith (fun c => { c with lockout := true, record := ⟨⟨true, false, false, false⟩, 9, 1⟩ })
      { cabin .locked with mode := .maintenance, setup := { (cfg .gate .level) with lanes := Setup.default.lanes } }
    let door := fun (contact : Bool) =>
      (after (.setupChannel 1 ([0, 1] ++ be 2 7 ++ [0, 0, 0]))
        { s with pins := { Pins.reset with contact := vset Pins.reset.contact 0 contact } }).zone.channels.get 0
    (door true).state = .openHold .waitClose ∧ (door false).state = .openHold (.relockDelay 1000) ∧ (door false).lockout = true ∧
      (door false).record.count = 1 := by decide +kernel

/-- A door held open whose record goes to EDGE mode: its door-held timer stops (R57). -/
theorem test_setup_stops_door_held :
    ((after (.setupChannel 1 ([0, 1] ++ be 2 7 ++ [1, 0, 0])) (cabinWith (fun c => { c with contact := true, doorHeld := some 9 })
      { cabin (.openHold .waitClose) with mode := .maintenance })).zone.channels.get 0).doorHeld = none := by decide +kernel

theorem test_setup_policy :
    ((after (.setupPolicy 1 ({ Setup.default.policy with railMask := true } : Policy).octets) run).zone.groups.get 3).rail = .good ∧
    ((groupWith (fun g => { g with rail := .undervoltage }) (cabin (.inhibited .closedEnd))).writePolicy
      { Setup.default.policy with railMask := true }).link.notices = [.fault 0 none .recovered] ∧
    (((groupWith (fun g => { g with rail := .undervoltage }) (cabin (.inhibited .closedEnd))).writePolicy
      { Setup.default.policy with railMask := true }).zone.channels.get 0).state = .locking ∧
    resultOf (.setupPolicy 1 (List.replicate 15 2)) run = some 4 := by decide +kernel

theorem test_saves : (after (.setupSave 1 []) run).save = some ⟨.default, 250⟩ ∧
    resultOf (.setupSave 1 []) { run with save := some ⟨.default, 9⟩ } = some 3 ∧
    (after (.setupSaveEnd true) { run with save := some ⟨cfg .cabin .level, 9⟩ }).store = ⟨cfg .cabin .level, .agrees⟩ := by
  decide +kernel

theorem test_maintenance : (after (.maintenanceEnter 1 []) (cabin .locked)).mode = .maintenance ∧
    resultOf (.maintenanceEnter 1 []) (cabin .released) = some 6 ∧ (after (.maintenanceLeave 1 []) maint).mode = .normal ∧
    resultOf (.maintenanceLeave 1 []) run = some 6 ∧ Setup.default.valid = true ∧
    resultOf (.maintenanceLeave 1 []) { maint with setup := { Setup.default with readers := vset Setup.default.readers 0 (.door 0) } } =
      some 14 := by decide +kernel

theorem test_starts : (after (.powerUp .none) (journaled run)).journal = ⟨[], 1, false⟩ ∧
    (after (.resetInput .none false) (journaled run)).journal.next = 6 ∧
    (after (.mainSupplyLoss .none true) (journaled run)).journal.next = 1 ∧
    (after .retentionSupplyLoss run).retention.marker = false ∧
    resultOf (.restart 9 [0]) run = some 2 ∧ resultOf (.restart 9 []) { run with save := some ⟨.default, 9⟩ } = some 3 := by
  decide +kernel

theorem test_start_retention :
    (after (.resetInput .none false) { run with retention := ⟨false, false⟩ }).retention = ⟨true, true⟩ ∧
    (after .evacuationLineAsserted (starting 0)).close = starting 0 := by decide +kernel

/-- With the line ASSERTED at the end of start-up, a USED lane that fits is HELD_OPEN, to return CLOSED; in a setup that leaves
MAINTENANCE so, one that does not fit stays CLOSED (R111, R156). -/
theorem test_start_lanes :
    let held := fun kind =>
      ((after (.startUpEnd true) { starting 50 with
        setup := { cfg kind .level with lanes := vset Setup.default.lanes 0 ⟨true, .both, 0⟩ } }).zone.lanes.get 0)
    held .gate = { Lane.reset with state := .heldOpen .closed } ∧ held .cabin = { Lane.reset with unfit := true } := by
  decide +kernel

theorem test_witness_starts : (journaled run).tablesLaw ∧ (starting 50).slotLaw := by
  unfold State.tablesLaw State.slotLaw Zone.orderly; decide +kernel

theorem test_start_up_end : (after (.startUpEnd false) State.reset).mode = .maintenance ∧
    (after (.startUpEnd false) (starting 0)).mode = .normal ∧
    (after (.startUpEnd false) (starting 0)).link.notices = [.start .cold false .loaded .normal 0] ∧
    (after (.startUpEnd true) (starting 50)).evac.state = .evacuation := by decide +kernel

/-- A start with channel 0 a cabin door, its bolt withdrawn, no relock delay, and its rail not yet good: with the line low it is
released without driving (R67, R160). -/
def startWithdrawn : State :=
  { starting 50 with
    setup := { cfg .cabin .level with timing := { Timing.default with relockDelay := 0 } }
    pins := { Pins.reset with withdrawn := vset Pins.reset.withdrawn 0 true } }

/-- Three cabin doors that a start finds neither home nor withdrawn, with no relock delay and the rail masked: the sweep gives the
drive slots to the two of lower number (log entry 29). -/
theorem test_sweep_order :
    let s := { starting 49 with
      setup := { Setup.default with
        channels := (vset (vset (vset Setup.default.channels 0 ⟨.cabin, 7, .level, true, true⟩) 1 ⟨.cabin, 7, .level, true, true⟩) 2
          ⟨.cabin, 7, .level, true, true⟩)
        timing := { Timing.default with relockDelay := 0 } }
      zone := { run.zone with groups := Vector.replicate 4 goodGroup } }
    (after (.startUpEnd false) s).zone.groups.get 0 = { goodGroup with slot0 := some 0, slot1 := some 1, queue := [2] } := by
  decide +kernel

theorem test_sweep : ((after (.startUpEnd true) startWithdrawn).zone.channels.get 0).state = .released ∧
    ((after (.startUpEnd false) startWithdrawn).zone.channels.get 0).state = .inhibited .closedEnd ∧
    (after (.startUpEnd false) { starting 49 with evac := ⟨false, 50, false, .normal⟩ }).evac.lineCount = 49 ∧
    (after (.startUpEnd true) startWithdrawn).link.notices =
      [.start .cold false .loaded .normal 0, .evacuation .evacuation true false .start 0 0] := by decide +kernel

/-- A RESTART by the two values that its free value may have. -/
theorem test_restart : ((journaled run).restart 9 true).phase = .starting ⟨.restart, false, .kept, 9, false⟩ 0 0 ∧
    ((journaled run).restart 9 true).journal = ⟨[], 1, false⟩ ∧
    ((journaled run).restart 9 false).phase = .starting ⟨.restart, true, .kept, 9, false⟩ 0 0 ∧
    ((journaled run).restart 9 false).journal.next = 6 ∧ (⟨0x38, 9, []⟩ : Frame).command = .restart 9 [] := by decide +kernel

theorem test_restart_is_free : (after (.restart 9 []) run).phase =
    .starting ⟨.restart, !Config.retentionDamaged 0, .kept, 9, false⟩ 0 0 := by
  have free : (run.arrive ⟨0x38, 9, []⟩).free = 0 := by decide +kernel
  simp only [after, exec, execRestart, State.takeRestart]
  rw [if_pos (by decide +kernel), if_neg (by decide +kernel), if_neg (by decide +kernel), free]
  cases Config.retentionDamaged 0 <;> decide +kernel

end Sys2Proof.Tests
end

section
/-! The card requests that write one entry (R12, R22 to R24): what their bodies spell, what the one write of the card table does at
the entry that a lookup finds, and the outcome of each request case by case. -/

namespace Sys2Proof.Machine

/-! ## The fields of a body -/

/-- The field that stands first in a body. -/
theorem fieldAt_first (w n : Nat) (rest : List Octet) (h : n < 256 ^ w) : fieldAt (be w n ++ rest) 0 w = n := by
  rw [fieldAt, List.drop_zero, List.take_left' (be_length w n), num_be_of_lt w n h]

/-- The last field of a body of two. -/
theorem fieldAt_last (w m n v : Nat) (h : n < 256 ^ v) : fieldAt (be w m ++ be v n) w v = n := by
  rw [fieldAt, List.drop_left' (be_length w m), List.take_of_length_le (be_length v n).le, num_be_of_lt v n h]

theorem card_fits (card : CardNo) : card.toNat < 256 ^ 7 := card.isLt

/-! ## Coded values (R183) -/

@[simp] theorem cardStatusOf_code (st : CardStatus) : cardStatusOf st.code = some st := by cases st <;> rfl

@[simp] theorem presenceOf_code (p : Presence) : presenceOf p.code = some p := by cases p <;> rfl

theorem cardStatusOf_beyond {n : Nat} (h : 3 ≤ n) : cardStatusOf n = none := by
  obtain ⟨m, rfl⟩ := Nat.exists_eq_add_of_le' h
  rfl

theorem presenceOf_beyond {n : Nat} (h : 2 ≤ n) : presenceOf n = none := by
  obtain ⟨m, rfl⟩ := Nat.exists_eq_add_of_le' h
  rfl

theorem exists_cardStatus_code {n : Nat} (h : n < 3) : ∃ st : CardStatus, st.code = n :=
  match n, h with
  | 0, _ => ⟨.active, rfl⟩
  | 1, _ => ⟨.hold, rfl⟩
  | 2, _ => ⟨.revoked, rfl⟩

theorem exists_presence_code {n : Nat} (h : n < 2) : ∃ p : Presence, p.code = n :=
  match n, h with
  | 0, _ => ⟨.aboard, rfl⟩
  | 1, _ => ⟨.ashore, rfl⟩

/-! ## The entry that a lookup finds, and its one write (R5, R9, R20) -/

/-- What a lookup finds stands in the table at the position it names. -/
theorem tget_of_lookup {cards : List (Nat × Entry)} {card : CardNo} {i : Nat} {e : Entry}
    (h : lookup cards card = some (i, e)) : tget cards i = some e := by
  obtain ⟨j, -, found⟩ := List.exists_of_findSome?_eq_some h
  cases hj : tget cards j with
  | none => simp [hj] at found
  | some e' =>
    simp only [hj, Option.ite_none_right_eq_some, Option.some.injEq, Prod.mk.injEq] at found
    obtain ⟨-, rfl, rfl⟩ := found
    exact hj

@[simp] theorem Tally.move_same (x : Option (Category × Presence)) (t : Tally) : t.move x x = t := if_pos rfl

@[simp] theorem moveRef_same (x : Option Nat) (fs : List (Nat × Folio)) : moveRef x x fs = fs := if_pos rfl

@[simp] theorem Entry.tallied_known (d : CardNo) (k : Known) :
    Entry.tallied ⟨d, .known k⟩ = some (k.holder.category, k.presence) := rfl

@[simp] theorem Entry.tallied_pending (d : CardNo) (h : Held) : Entry.tallied ⟨d, .pending h⟩ = none := rfl

@[simp] theorem Entry.folio_known (d : CardNo) (k : Known) : Entry.folio ⟨d, .known k⟩ = k.folio := rfl

@[simp] theorem Entry.folio_pending (d : CardNo) (h : Held) : Entry.folio ⟨d, .pending h⟩ = none := rfl

variable {card d : CardNo} {i : Nat} {k : Known} {h : Held} {s : State}

/-- A known entry removed leaves the tally and gives up its folio reference. -/
theorem State.setEntry_none_of_known (hl : lookup s.cards card = some (i, ⟨d, .known k⟩)) :
    s.setEntry i none =
      { s with
        cards := tdel i s.cards
        tally := s.tally.move (some (k.holder.category, k.presence)) none
        folios := moveRef k.folio none s.folios } := by
  simp [State.setEntry, tget_of_lookup hl, twrite]

/-- A pending entry stands in no count and names no folio, so its removal is the table's alone. -/
theorem State.setEntry_none_of_pending (hl : lookup s.cards card = some (i, ⟨d, .pending h⟩)) :
    s.setEntry i none = { s with cards := tdel i s.cards } := by
  simp [State.setEntry, tget_of_lookup hl, twrite]

/-- A known entry written again with its kind and its folio moves in the tally as its presence does. -/
theorem State.setEntry_some_of_known {k' : Known} (hl : lookup s.cards card = some (i, ⟨d, .known k⟩))
    (hh : k'.holder = k.holder) (hf : k'.folio = k.folio) :
    s.setEntry i (some ⟨card, .known k'⟩) =
      { s with
        cards := tput i ⟨card, .known k'⟩ s.cards
        tally := s.tally.move (some (k.holder.category, k.presence)) (some (k.holder.category, k'.presence)) } := by
  simp [State.setEntry, tget_of_lookup hl, twrite, hh, hf]

/-! ## A request that names a card number (R5, R176) -/

variable {tag : Octet} {n : Nat} {sizeOk : Bool} {act : CardNo → Serve}

theorem framed_withCard_valid (ht : tag ≠ 0) (hb : sizeOk = true) (hn : n = card.toNat) (hc : cardValid card = true) :
    framed tag sizeOk (withCard n act) s = act card s := by
  rw [framed_ok tag sizeOk _ s ht hb, withCard, hn, BitVec.ofNat_toNat, BitVec.setWidth_eq, if_pos hc]

theorem framed_withCard_invalid (ht : tag ≠ 0) (hb : sizeOk = true) (hn : n = card.toNat) (hc : cardValid card = false) :
    framed tag sizeOk (withCard n act) s = (s, refuse .range) := by
  rw [framed_ok tag sizeOk _ s ht hb, withCard, hn, BitVec.ofNat_toNat, BitVec.setWidth_eq, if_neg (by simp [hc])]

theorem num_card_body (card : CardNo) : num (be 7 card.toNat) = card.toNat := num_be_of_lt 7 _ (card_fits card)

/-! ## CARD DELETE (R22) -/

theorem serveCardDelete_invalid (ht : tag ≠ 0) (hc : cardValid card = false) :
    serveCardDelete tag (be 7 card.toNat) s = (s, refuse .range) :=
  framed_withCard_invalid ht (by simp) (num_card_body card) hc

theorem serveCardDelete_unknown (ht : tag ≠ 0) (hc : cardValid card = true) (hl : lookup s.cards card = none) :
    serveCardDelete tag (be 7 card.toNat) s = (s, refuse .notFound) := by
  rw [serveCardDelete, framed_withCard_valid ht (by simp) (num_card_body card) hc, hl]

theorem serveCardDelete_pending (ht : tag ≠ 0) (hc : cardValid card = true)
    (hl : lookup s.cards card = some (i, ⟨d, .pending h⟩)) :
    serveCardDelete tag (be 7 card.toNat) s = (s, refuse .busy) := by
  rw [serveCardDelete, framed_withCard_valid ht (by simp) (num_card_body card) hc, hl]

theorem serveCardDelete_engaged (ht : tag ≠ 0) (hc : cardValid card = true)
    (hl : lookup s.cards card = some (i, ⟨d, .known k⟩)) (he : k.engaged ≠ none) :
    serveCardDelete tag (be 7 card.toNat) s = (s, refuse .busy) := by
  rw [serveCardDelete, framed_withCard_valid ht (by simp) (num_card_body card) hc, hl]
  exact if_pos (Option.isSome_iff_ne_none.mpr he)

theorem serveCardDelete_removes (ht : tag ≠ 0) (hc : cardValid card = true)
    (hl : lookup s.cards card = some (i, ⟨d, .known k⟩)) (he : k.engaged = none) :
    serveCardDelete tag (be 7 card.toNat) s =
      ({ s with
          cards := tdel i s.cards
          tally := s.tally.move (some (k.holder.category, k.presence)) none
          folios := moveRef k.folio none s.folios }, ok []) := by
  rw [serveCardDelete, framed_withCard_valid ht (by simp) (num_card_body card) hc, hl,
    ← State.setEntry_none_of_known hl]
  exact if_neg (by simp [he])

/-! ## CARD REFUSE (R12) -/

theorem serveCardRefuse_invalid (ht : tag ≠ 0) (hc : cardValid card = false) :
    serveCardRefuse tag (be 7 card.toNat) s = (s, refuse .range) :=
  framed_withCard_invalid ht (by simp) (num_card_body card) hc

theorem serveCardRefuse_notPending (ht : tag ≠ 0) (hc : cardValid card = true)
    (hl : ∀ i d h, lookup s.cards card ≠ some (i, ⟨d, .pending h⟩)) :
    serveCardRefuse tag (be 7 card.toNat) s = (s, refuse .notFound) := by
  rw [serveCardRefuse, framed_withCard_valid ht (by simp) (num_card_body card) hc]
  rcases found : lookup s.cards card with _ | ⟨i, d, k | h⟩
  · rfl
  · rfl
  · exact absurd found (hl i d h)

theorem serveCardRefuse_denies (ht : tag ≠ 0) (hc : cardValid card = true)
    (hl : lookup s.cards card = some (i, ⟨d, .pending h⟩)) :
    serveCardRefuse tag (be 7 card.toNat) s =
      ({ s with cards := tdel i s.cards }.finish h.reader card h.arrival true .deniedUnknown, ok []) := by
  rw [serveCardRefuse, framed_withCard_valid ht (by simp) (num_card_body card) hc, hl,
    ← State.setEntry_none_of_pending hl]
  rfl

/-! ## CARD STATUS (R23) and PRESENCE SET (R24): the card number, then one coded value -/

theorem fieldAt_card (card : CardNo) (rest : List Octet) : fieldAt (be 7 card.toNat ++ rest) 0 7 = card.toNat :=
  fieldAt_first 7 _ rest (card_fits card)

theorem fieldAt_value (card : CardNo) (hn : n < 256) : fieldAt (be 7 card.toNat ++ be 1 n) 7 1 = n :=
  fieldAt_last 7 _ n 1 (by simpa using hn)

theorem serveCardStatus_beyond (ht : tag ≠ 0) (hn : n < 256) (hc : cardValid card = true) (h3 : 3 ≤ n) :
    serveCardStatus tag (be 7 card.toNat ++ be 1 n) s = (s, refuse .range) := by
  rw [serveCardStatus, framed_withCard_valid ht (by simp) (fieldAt_card card _) hc, fieldAt_value card hn,
    cardStatusOf_beyond h3]

theorem servePresenceSet_beyond (ht : tag ≠ 0) (hn : n < 256) (hc : cardValid card = true) (h2 : 2 ≤ n) :
    servePresenceSet tag (be 7 card.toNat ++ be 1 n) s = (s, refuse .range) := by
  rw [servePresenceSet, framed_withCard_valid ht (by simp) (fieldAt_card card _) hc, fieldAt_value card hn,
    presenceOf_beyond h2]

section
variable {st : CardStatus}

theorem CardStatus.code_lt (st : CardStatus) : st.code < 256 := by cases st <;> decide

theorem serveCardStatus_unknown (ht : tag ≠ 0) (hc : cardValid card = true) (hl : lookup s.cards card = none) :
    serveCardStatus tag (be 7 card.toNat ++ be 1 st.code) s = (s, refuse .notFound) := by
  rw [serveCardStatus, framed_withCard_valid ht (by simp) (fieldAt_card card _) hc, fieldAt_value card st.code_lt,
    cardStatusOf_code, hl]

theorem serveCardStatus_pending (ht : tag ≠ 0) (hc : cardValid card = true)
    (hl : lookup s.cards card = some (i, ⟨d, .pending h⟩)) :
    serveCardStatus tag (be 7 card.toNat ++ be 1 st.code) s = (s, refuse .state) := by
  rw [serveCardStatus, framed_withCard_valid ht (by simp) (fieldAt_card card _) hc, fieldAt_value card st.code_lt,
    cardStatusOf_code, hl]

theorem serveCardStatus_sets (ht : tag ≠ 0) (hc : cardValid card = true)
    (hl : lookup s.cards card = some (i, ⟨d, .known k⟩)) :
    serveCardStatus tag (be 7 card.toNat ++ be 1 st.code) s =
      ({ s with cards := tput i ⟨card, .known { k with status := st }⟩ s.cards }, ok []) := by
  rw [serveCardStatus, framed_withCard_valid ht (by simp) (fieldAt_card card _) hc, fieldAt_value card st.code_lt,
    cardStatusOf_code, hl]
  simp [State.setEntry_some_of_known (k' := { k with status := st }) hl rfl rfl]

end

section
variable {p : Presence}

theorem Presence.code_lt (p : Presence) : p.code < 256 := by cases p <;> decide

theorem servePresenceSet_unknown (ht : tag ≠ 0) (hc : cardValid card = true) (hl : lookup s.cards card = none) :
    servePresenceSet tag (be 7 card.toNat ++ be 1 p.code) s = (s, refuse .notFound) := by
  rw [servePresenceSet, framed_withCard_valid ht (by simp) (fieldAt_card card _) hc, fieldAt_value card p.code_lt,
    presenceOf_code, hl]

theorem servePresenceSet_pending (ht : tag ≠ 0) (hc : cardValid card = true)
    (hl : lookup s.cards card = some (i, ⟨d, .pending h⟩)) :
    servePresenceSet tag (be 7 card.toNat ++ be 1 p.code) s = (s, refuse .state) := by
  rw [servePresenceSet, framed_withCard_valid ht (by simp) (fieldAt_card card _) hc, fieldAt_value card p.code_lt,
    presenceOf_code, hl]

theorem servePresenceSet_engaged (ht : tag ≠ 0) (hc : cardValid card = true)
    (hl : lookup s.cards card = some (i, ⟨d, .known k⟩)) (he : k.engaged ≠ none) :
    servePresenceSet tag (be 7 card.toNat ++ be 1 p.code) s = (s, refuse .busy) := by
  rw [servePresenceSet, framed_withCard_valid ht (by simp) (fieldAt_card card _) hc, fieldAt_value card p.code_lt,
    presenceOf_code, hl]
  exact if_pos (Option.isSome_iff_ne_none.mpr he)

theorem servePresenceSet_sets (ht : tag ≠ 0) (hc : cardValid card = true)
    (hl : lookup s.cards card = some (i, ⟨d, .known k⟩)) (he : k.engaged = none) :
    servePresenceSet tag (be 7 card.toNat ++ be 1 p.code) s =
      ({ s with
          cards := tput i ⟨card, .known { k with presence := p }⟩ s.cards
          tally := s.tally.move (some (k.holder.category, k.presence)) (some (k.holder.category, p)) }, ok []) := by
  rw [servePresenceSet, framed_withCard_valid ht (by simp) (fieldAt_card card _) hc, fieldAt_value card p.code_lt,
    presenceOf_code, hl, ← State.setEntry_some_of_known (k' := { k with presence := p }) hl rfl rfl]
  exact if_neg (by simp [he])

end

/-! ## The four requests at their turn -/

variable {body : List Octet} {u : State} {r : Reply}

/-- A request whose block, at its turn, leaves `u` and replies `r`. -/
theorem State.request_turn_of {f : Frame} {serve : Serve} (turn : s.hasTurn f) (hs : serve (s.arrive f) = (u, r)) :
    s.request f serve = u.answered f r := by
  rw [s.request_turn f serve turn, hs]

theorem exec_cardDelete_turn (turn : s.hasTurn ⟨0x03, tag, body⟩)
    (hs : serveCardDelete tag body (s.arrive ⟨0x03, tag, body⟩) = (u, r)) :
    exec (.cardDelete tag body) s = .next (u.answered ⟨0x03, tag, body⟩ r) :=
  congrArg _ (State.request_turn_of turn hs)

theorem exec_cardStatus_turn (turn : s.hasTurn ⟨0x04, tag, body⟩)
    (hs : serveCardStatus tag body (s.arrive ⟨0x04, tag, body⟩) = (u, r)) :
    exec (.cardStatus tag body) s = .next (u.answered ⟨0x04, tag, body⟩ r) :=
  congrArg _ (State.request_turn_of turn hs)

theorem exec_cardRefuse_turn (turn : s.hasTurn ⟨0x05, tag, body⟩)
    (hs : serveCardRefuse tag body (s.arrive ⟨0x05, tag, body⟩) = (u, r)) :
    exec (.cardRefuse tag body) s = .next (u.answered ⟨0x05, tag, body⟩ r) :=
  congrArg _ (State.request_turn_of turn hs)

theorem exec_presenceSet_turn (turn : s.hasTurn ⟨0x06, tag, body⟩)
    (hs : servePresenceSet tag body (s.arrive ⟨0x06, tag, body⟩) = (u, r)) :
    exec (.presenceSet tag body) s = .next (u.answered ⟨0x06, tag, body⟩ r) :=
  congrArg _ (State.request_turn_of turn hs)

end Sys2Proof.Machine

namespace Sys2Proof.CardEdits
open Sys2Proof.Machine

/-- Settles O24: each request runs at its turn on the state in which its frame has arrived, whose card table, tally and folios are
those of `s`, and the block's outcome there is one of the cases above. -/
theorem cardEditsWriteOneEntry : Obligations.CardEditsWriteOneEntry := by
  unfold Obligations.CardEditsWriteOneEntry
  refine ⟨fun tag card s ht => ⟨?delete, ?refuse⟩, fun tag card n s ht hn hc => ⟨?status, ?presence⟩⟩
  case delete =>
    intro f u turn
    rw [← s.arrive_cards f, ← s.arrive_tally f, ← s.arrive_folios f]
    exact ⟨fun hc => exec_cardDelete_turn turn (serveCardDelete_invalid ht hc),
      fun hc hl => exec_cardDelete_turn turn (serveCardDelete_unknown ht hc hl),
      fun _ _ _ hc hl => exec_cardDelete_turn turn (serveCardDelete_pending ht hc hl),
      fun _ _ _ hc hl he => exec_cardDelete_turn turn (serveCardDelete_engaged ht hc hl he),
      fun _ _ _ hc hl he => exec_cardDelete_turn turn (serveCardDelete_removes ht hc hl he)⟩
  case refuse =>
    intro f u turn
    rw [← s.arrive_cards f]
    exact ⟨fun hc => exec_cardRefuse_turn turn (serveCardRefuse_invalid ht hc),
      fun hc hl => exec_cardRefuse_turn turn (serveCardRefuse_notPending ht hc hl),
      fun _ _ _ hc hl => exec_cardRefuse_turn turn (serveCardRefuse_denies ht hc hl)⟩
  case status =>
    intro f u turn
    rw [← s.arrive_cards f]
    refine ⟨fun h3 => exec_cardStatus_turn turn (serveCardStatus_beyond ht hn hc h3), fun h3 hl => ?_,
      fun i d h h3 hl => ?_, fun i d k st hst hl => ?_⟩
    · obtain ⟨st, rfl⟩ := exists_cardStatus_code h3
      exact exec_cardStatus_turn turn (serveCardStatus_unknown ht hc hl)
    · obtain ⟨st, rfl⟩ := exists_cardStatus_code h3
      exact exec_cardStatus_turn turn (serveCardStatus_pending ht hc hl)
    · subst hst
      exact exec_cardStatus_turn turn (serveCardStatus_sets ht hc hl)
  case presence =>
    intro f u turn
    rw [← s.arrive_cards f, ← s.arrive_tally f]
    refine ⟨fun h2 => exec_presenceSet_turn turn (servePresenceSet_beyond ht hn hc h2), fun h2 hl => ?_,
      fun i d h h2 hl => ?_, fun i d k h2 hl he => ?_, fun i d k p hp hl he => ?_⟩
    · obtain ⟨p, rfl⟩ := exists_presence_code h2
      exact exec_presenceSet_turn turn (servePresenceSet_unknown ht hc hl)
    · obtain ⟨p, rfl⟩ := exists_presence_code h2
      exact exec_presenceSet_turn turn (servePresenceSet_pending ht hc hl)
    · obtain ⟨p, rfl⟩ := exists_presence_code h2
      exact exec_presenceSet_turn turn (servePresenceSet_engaged ht hc hl he)
    · subst hp
      exact exec_presenceSet_turn turn (servePresenceSet_sets ht hc hl he)

end Sys2Proof.CardEdits
end

section
/-! LANE OPEN and LANE CLOSE (R90, R91): the refusals in their order, the one write of the lane's state, and the reply that reads it
back. -/

namespace Sys2Proof.Machine

/-! ## The lane number of a body -/

@[simp] theorem indexOf_val {m : Nat} (i : Fin m) : indexOf m i.val = some i := dif_pos i.isLt

theorem indexOf_beyond {m n : Nat} (h : m ≤ n) : indexOf m n = none := dif_neg (Nat.not_lt.mpr h)

/-- A lane number in one octet is read back. -/
theorem num_lane_body (l : LaneNo) : num (be 1 l.val) = l.val := num_be_of_lt 1 _ (by omega)

/-! ## The operating mode (R193) -/

theorem State.inMaintenance_of_maintenance {s : State} (hm : s.mode = .maintenance) : s.inMaintenance = true := by
  simp [State.inMaintenance, hm]

theorem State.inMaintenance_of_normal {s : State} (hm : s.mode = .normal) : s.inMaintenance = false := by
  simp [State.inMaintenance, hm]

/-! ## The one write of a lane's state -/

/-- The state with lane `l` in lane state `st`: its counters, its UNUSED treatment and every other lane stand as they were. -/
def State.putLane (l : LaneNo) (st : LaneState) (s : State) : State :=
  { s with zone := { s.zone with lanes := vset s.zone.lanes l { s.zone.lanes.get l with state := st } } }

theorem State.onZone_setLane_state (l : LaneNo) (move : LaneState → LaneState) (s : State) :
    s.onZone (·.setLane l (fun x => { x with state := move x.state })) =
      s.putLane l (move (s.zone.lanes.get l).state) := rfl

@[simp] theorem laneReply_putLane (l : LaneNo) (st : LaneState) (s : State) :
    laneReply l (s.putLane l st) = ⟨.ok, st.octets⟩ := by
  simp [laneReply, State.putLane, ok, vget_vset_self]

variable {tag : Octet} {n : Nat} {l : LaneNo} {s u : State} {body : List Octet} {r : Reply}

/-! ## LANE OPEN (R90) -/

theorem serveLaneOpen_beyond (ht : tag ≠ 0) (hn : n < 256) (h4 : 4 ≤ n) :
    serveLaneOpen tag (be 1 n) s = (s, ⟨.range, []⟩) := by
  rw [serveLaneOpen, framed_ok _ _ _ _ ht (by simp), num_be_of_lt 1 n hn, indexOf_beyond h4]
  rfl

theorem serveLaneOpen_maintenance (ht : tag ≠ 0) (hm : s.mode = .maintenance) :
    serveLaneOpen tag (be 1 l.val) s = (s, ⟨.maintenance, []⟩) := by
  rw [serveLaneOpen, framed_ok _ _ _ _ ht (by simp), num_lane_body, indexOf_val]
  exact if_pos (State.inMaintenance_of_maintenance hm)

theorem serveLaneOpen_unused (ht : tag ≠ 0) (hm : s.mode = .normal) (hu : s.zone.laneUsed s.setup l = false) :
    serveLaneOpen tag (be 1 l.val) s = (s, ⟨.state, []⟩) := by
  rw [serveLaneOpen, framed_ok _ _ _ _ ht (by simp), num_lane_body, indexOf_val]
  simp [State.inMaintenance_of_normal hm, hu, refuse]

theorem serveLaneOpen_opens (ht : tag ≠ 0) (hm : s.mode = .normal) (hu : s.zone.laneUsed s.setup l = true)
    {st : LaneState} (after : st = (s.zone.lanes.get l).state.open) :
    serveLaneOpen tag (be 1 l.val) s = (s.putLane l st, ⟨.ok, st.octets⟩) := by
  rw [serveLaneOpen, framed_ok _ _ _ _ ht (by simp), num_lane_body, indexOf_val]
  simp [State.inMaintenance_of_normal hm, hu, State.onZone_setLane_state, after]

/-! ## LANE CLOSE (R91) -/

theorem serveLaneClose_beyond (ht : tag ≠ 0) (hn : n < 256) (h4 : 4 ≤ n) :
    serveLaneClose tag (be 1 n) s = (s, ⟨.range, []⟩) := by
  rw [serveLaneClose, framed_ok _ _ _ _ ht (by simp), num_be_of_lt 1 n hn, indexOf_beyond h4]
  rfl

theorem serveLaneClose_unused (ht : tag ≠ 0) (hu : s.zone.laneUsed s.setup l = false) :
    serveLaneClose tag (be 1 l.val) s = (s, ⟨.state, []⟩) := by
  rw [serveLaneClose, framed_ok _ _ _ _ ht (by simp), num_lane_body, indexOf_val]
  simp [hu, refuse]

theorem serveLaneClose_closes (ht : tag ≠ 0) (hu : s.zone.laneUsed s.setup l = true)
    {st : LaneState} (after : st = (s.zone.lanes.get l).state.close) :
    serveLaneClose tag (be 1 l.val) s = (s.putLane l st, ⟨.ok, st.octets⟩) := by
  rw [serveLaneClose, framed_ok _ _ _ _ ht (by simp), num_lane_body, indexOf_val]
  simp [hu, State.onZone_setLane_state, after]

/-! ## The two requests at their turn -/

theorem exec_laneOpen_turn (turn : s.hasTurn ⟨0x10, tag, body⟩)
    (hs : serveLaneOpen tag body (s.arrive ⟨0x10, tag, body⟩) = (u, r)) :
    exec (.laneOpen tag body) s = .next (u.answered ⟨0x10, tag, body⟩ r) :=
  congrArg _ (State.request_turn_of turn hs)

theorem exec_laneClose_turn (turn : s.hasTurn ⟨0x11, tag, body⟩)
    (hs : serveLaneClose tag body (s.arrive ⟨0x11, tag, body⟩) = (u, r)) :
    exec (.laneClose tag body) s = .next (u.answered ⟨0x11, tag, body⟩ r) :=
  congrArg _ (State.request_turn_of turn hs)

end Sys2Proof.Machine

namespace Sys2Proof.LaneRequests
open Sys2Proof.Machine

/-- Settles O35: each request runs at its turn on the state in which its frame has arrived, whose zone, setup and mode are those of
`s`; there the block refuses in its order or writes the lane state of its table, row by row the one that the statement names. -/
theorem laneOpenAndLaneClose : Obligations.LaneOpenAndLaneClose := by
  unfold Obligations.LaneOpenAndLaneClose
  refine fun tag n s ht hn => ⟨?laneOpen, ?laneClose⟩
  case laneOpen =>
    intro f turn
    rw [← s.arrive_zone f, ← s.arrive_setup f, ← s.arrive_mode f]
    refine ⟨fun h4 => exec_laneOpen_turn turn (serveLaneOpen_beyond ht hn h4), ?_⟩
    rintro l rfl
    refine ⟨fun hm => exec_laneOpen_turn turn (serveLaneOpen_maintenance ht hm),
      fun hm hu => exec_laneOpen_turn turn (serveLaneOpen_unused ht hm hu),
      fun hm hu => exec_laneOpen_turn turn (serveLaneOpen_opens ht hm hu ?_)⟩
    cases ((s.arrive f).zone.lanes.get l).state <;> rfl
  case laneClose =>
    intro f turn
    rw [← s.arrive_zone f, ← s.arrive_setup f]
    refine ⟨fun h4 => exec_laneClose_turn turn (serveLaneClose_beyond ht hn h4), ?_⟩
    rintro l rfl
    refine ⟨fun hu => exec_laneClose_turn turn (serveLaneClose_unused ht hu),
      fun hu => exec_laneClose_turn turn (serveLaneClose_closes ht hu ?_)⟩
    cases ((s.arrive f).zone.lanes.get l).state <;> rfl

end Sys2Proof.LaneRequests
end

section
/-! AUTH ANSWER (R126, R127): what its body spells, the last outcome that each end of a charge leaves at its till, and the outcome
of the request case by case. -/

namespace Sys2Proof.Machine

/-! ## The end of a charge at its till (R124) -/

@[simp] theorem State.disengage_tills (card : CardNo) (e : Engagement) (s : State) : (s.disengage card e).tills = s.tills := by
  obtain ⟨_, _, _, changed, _⟩ := s.changeKnown_frame card
    (fun k => if k.engaged = some e then { k with engaged := none } else k)
  rw [State.disengage, changed]

@[simp] theorem State.closeDecision_tills (r : ReaderNo) (card : CardNo) (p : Pattern) (s : State) :
    (s.closeDecision r card p).tills = s.tills := rfl

@[simp] theorem State.chargeFolio_tills (tier : Tier) (slot amount : Nat) (s : State) :
    (s.chargeFolio tier slot amount).tills = s.tills := by
  cases tier <;> rfl

/-- The end of a charge writes its own till alone: IDLE, with the last outcome set. -/
theorem State.endCharge_tills (t : TillNo) (c : Charge) (o : ChargeOutcome) (taken : Option (CardNo × ReaderNo))
    (slot : Option Nat) (ap : Option Approval) (s : State) :
    (s.endCharge t c o taken slot ap).tills =
      vmod s.tills t (fun x => { x with state := .idle, last := some ⟨o, taken.map Prod.fst, c.ref, ap⟩ }) := by
  cases taken <;> simp [State.endCharge]

/-- The outcome reported after the end of a charge is the one it ended with. -/
@[simp] theorem State.endCharge_lastOutcomeOctets (t : TillNo) (c : Charge) (o : ChargeOutcome)
    (taken : Option (CardNo × ReaderNo)) (slot : Option Nat) (ap : Option Approval) (s : State) :
    (s.endCharge t c o taken slot ap).lastOutcomeOctets t = be 1 o.code := by
  simp [State.lastOutcomeOctets, State.endCharge_tills, o1]

@[simp] theorem State.notify_lastOutcomeOctets (n : Notice) (t : TillNo) (s : State) :
    (s.notify n).lastOutcomeOctets t = s.lastOutcomeOctets t := rfl

/-! ## An approval by the room of the journal (R123, R134) -/

theorem Journal.full_iff (j : Journal) : j.full = true ↔ 4096 ≤ j.entries.length ∨ j.exhausted = true := by
  rw [Journal.full, Bool.or_eq_true, decide_eq_true_iff]
  rfl

section
variable {t : TillNo} {c : Charge} {card : CardNo} {r : ReaderNo} {slot : Nat} {tier : Tier} {s : State}

/-- Without room, the charge ends DECLINED_JOURNAL_FULL. -/
theorem State.approve_full (hj : s.journal.full = true) :
    s.approve t c card r slot tier = s.endCharge t c .declinedJournalFull (some (card, r)) (some slot) none := if_pos hj

/-- With room, the charge ends APPROVED, whether or not a JOURNAL notice follows. -/
theorem State.approve_room_lastOutcomeOctets (hj : ¬s.journal.full = true) :
    (s.approve t c card r slot tier).lastOutcomeOctets t = be 1 0 := by
  rw [State.approve, if_neg hj]
  dsimp only
  split
  · exact State.endCharge_lastOutcomeOctets ..
  · exact State.endCharge_lastOutcomeOctets ..

end

/-! ## The re-check of an approving answer (R126) -/

/-- The re-check reads the card table, the folios and the setup, which an arriving frame leaves unchanged. -/
theorem State.arrive_recheck (f : Frame) (p : Payer) (s : State) : (s.arrive f).recheck p = s.recheck p := by
  simp only [State.recheck, State.known, State.folioOpen, State.presenceOk, State.arrive_cards, State.arrive_folios,
    State.arrive_setup]

section
variable {t : TillNo} {c : Charge} {p : Payer} {s : State}

theorem State.approveReferral_passes (hc : s.recheck p = true) :
    s.approveReferral t c p = s.approve t c p.card p.reader p.slot .referred := if_pos hc

theorem State.approveReferral_fails (hc : s.recheck p = false) :
    s.approveReferral t c p = s.endCharge t c .declinedStatus (some (p.card, p.reader)) (some p.slot) none :=
  if_neg (by simp [hc])

end

/-! ## AUTH ANSWER on its body -/

/-- The body of an AUTH ANSWER (R127): a till, a host reference and an answer. -/
def authAnswerBody (till ref answer : Nat) : List Octet := be 1 till ++ be 4 ref ++ be 1 answer

theorem pairOf_beyond {n : Nat} (h : 2 ≤ n) : pairOf n = none := by
  obtain ⟨m, rfl⟩ := Nat.exists_eq_add_of_le' h
  rfl

theorem exists_pairOf {n : Nat} (h : n < 2) : ∃ first : Bool, pairOf n = some first :=
  match n, h with
  | 0, _ => ⟨true, rfl⟩
  | 1, _ => ⟨false, rfl⟩

variable {tag : Octet} {till ref answer : Nat} {t : TillNo} {c : Charge} {p : Payer} {left : Nat} {s u : State}

theorem fields_authAnswerBody (hd : till < 256) (hr : ref < 2 ^ 32) (ha : answer < 256) :
    fields [1, 4, 1] (authAnswerBody till ref answer) = [till, ref, answer] := by
  rw [authAnswerBody, List.append_assoc, fields_be 1 till _ _ hd, fields_be 4 ref _ _ hr, ← List.append_nil (be 1 answer),
    fields_be 1 answer _ _ ha, fields]

theorem serveAuthAnswer_range (ht : tag ≠ 0) (hd : till < 256) (hr : ref < 2 ^ 32) (ha : answer < 256)
    (beyond : 8 ≤ till ∨ 2 ≤ answer) : serveAuthAnswer tag (authAnswerBody till ref answer) s = (s, ⟨.range, []⟩) := by
  rw [serveAuthAnswer, framed_ok _ _ _ _ ht (by simp [authAnswerBody]), fields_authAnswerBody hd hr ha]
  rcases beyond with h8 | h2
  · simp only [indexOf_beyond h8]
    rfl
  · simp only [pairOf_beyond h2]
    cases indexOf 8 till <;> rfl

theorem serveAuthAnswer_late (ht : tag ≠ 0) (hr : ref < 2 ^ 32) (ha : answer < 2)
    (other : ∀ c p left, (s.tills.get t).state = .authorising c p left → c.ref ≠ BitVec.ofNat 32 ref) :
    serveAuthAnswer tag (authAnswerBody t.val ref answer) s = (s, ⟨.late, []⟩) := by
  obtain ⟨first, answered⟩ := exists_pairOf ha
  rw [serveAuthAnswer, framed_ok _ _ _ _ ht (by simp [authAnswerBody]), fields_authAnswerBody (by omega) hr (by omega)]
  simp only [indexOf_val, answered]
  cases found : (s.tills.get t).state with
  | idle => rfl
  | armed c left => rfl
  | authorising c p left => exact if_neg (other c p left found)

/-- The answer that names the referral ends it, and the reply carries the outcome that the end of the charge left at the till. -/
theorem serveAuthAnswer_ends (ht : tag ≠ 0) (hr : ref < 2 ^ 32) {approve : Bool} (ha : answer < 2)
    (answered : pairOf answer = some approve) (referred : (s.tills.get t).state = .authorising c p left)
    (named : c.ref = BitVec.ofNat 32 ref) {code : Nat}
    (ends : (if approve then s.approveReferral t c p else s.endReferral t c p .declinedReferral) = u)
    (outcome : u.lastOutcomeOctets t = be 1 code) :
    serveAuthAnswer tag (authAnswerBody t.val ref answer) s = (u, ⟨.ok, be 1 code⟩) := by
  rw [serveAuthAnswer, framed_ok _ _ _ _ ht (by simp [authAnswerBody]), fields_authAnswerBody (by omega) hr (by omega)]
  simp only [indexOf_val, answered, referred, if_pos named, ends, outcome, ok]

section
variable (ht : tag ≠ 0) (hr : ref < 2 ^ 32) (referred : (s.tills.get t).state = .authorising c p left)
  (named : c.ref = BitVec.ofNat 32 ref)
include ht hr referred named

theorem serveAuthAnswer_declines :
    serveAuthAnswer tag (authAnswerBody t.val ref 1) s =
      (s.endCharge t c .declinedReferral (some (p.card, p.reader)) (some p.slot) none, ⟨.ok, be 1 6⟩) :=
  serveAuthAnswer_ends ht hr (by decide) rfl referred named rfl (State.endCharge_lastOutcomeOctets ..)

theorem serveAuthAnswer_recheckFails (hc : s.recheck p = false) :
    serveAuthAnswer tag (authAnswerBody t.val ref 0) s =
      (s.endCharge t c .declinedStatus (some (p.card, p.reader)) (some p.slot) none, ⟨.ok, be 1 1⟩) :=
  serveAuthAnswer_ends (approve := true) ht hr (by decide) rfl referred named (State.approveReferral_fails hc)
    (State.endCharge_lastOutcomeOctets ..)

theorem serveAuthAnswer_approves (hc : s.recheck p = true) (hj : ¬s.journal.full = true) :
    serveAuthAnswer tag (authAnswerBody t.val ref 0) s =
      (s.approve t c p.card p.reader p.slot .referred, ⟨.ok, be 1 0⟩) :=
  serveAuthAnswer_ends (approve := true) ht hr (by decide) rfl referred named (State.approveReferral_passes hc)
    (State.approve_room_lastOutcomeOctets hj)

theorem serveAuthAnswer_journalFull (hc : s.recheck p = true) (hj : s.journal.full = true) :
    serveAuthAnswer tag (authAnswerBody t.val ref 0) s =
      (s.endCharge t c .declinedJournalFull (some (p.card, p.reader)) (some p.slot) none, ⟨.ok, be 1 7⟩) :=
  serveAuthAnswer_ends (approve := true) ht hr (by decide) rfl referred named
    ((State.approveReferral_passes hc).trans (State.approve_full hj))
    (State.endCharge_lastOutcomeOctets ..)

end

theorem exec_authAnswer_turn {body : List Octet} {r : Reply} (turn : s.hasTurn ⟨0x1B, tag, body⟩)
    (hs : serveAuthAnswer tag body (s.arrive ⟨0x1B, tag, body⟩) = (u, r)) :
    exec (.authAnswer tag body) s = .next (u.answered ⟨0x1B, tag, body⟩ r) :=
  congrArg _ (State.request_turn_of turn hs)

end Sys2Proof.Machine

namespace Sys2Proof.Referrals
open Sys2Proof.Machine

/-- Settles O31: the request runs at its turn on the state in which its frame has arrived, whose tills, journal and re-check are those
of `s`; there the block refuses it or ends the referral with one of the four outcomes, and the reply reads that outcome back. -/
theorem authAnswerEndsTheReferralItNames : Obligations.AuthAnswerEndsTheReferralItNames := by
  unfold Obligations.AuthAnswerEndsTheReferralItNames
  intro tag till ref answer s ht hd hr ha f u turn
  rw [← s.arrive_tills f, ← s.arrive_journal f]
  refine ⟨fun beyond => exec_authAnswer_turn turn (serveAuthAnswer_range ht hd hr ha beyond), ?_⟩
  rintro t rfl h2
  refine ⟨fun other => exec_authAnswer_turn turn (serveAuthAnswer_late ht hr h2 other), fun c p left referred named => ?_⟩
  rw [← s.arrive_recheck f p]
  refine ⟨?declined, ?recheckFails, ?approved, ?journalFull⟩
  case declined =>
    rintro rfl
    exact exec_authAnswer_turn turn (serveAuthAnswer_declines ht hr referred named)
  case recheckFails =>
    rintro rfl hc
    exact exec_authAnswer_turn turn (serveAuthAnswer_recheckFails ht hr referred named hc)
  case approved =>
    rintro rfl hc hroom hnext
    have room : ¬(s.arrive f).journal.full = true := by
      rw [Journal.full_iff, hnext]
      simpa using hroom
    exact exec_authAnswer_turn turn (serveAuthAnswer_approves ht hr referred named hc room)
  case journalFull =>
    rintro rfl hc hfull
    exact exec_authAnswer_turn turn (serveAuthAnswer_journalFull ht hr referred named hc ((Journal.full_iff _).mpr hfull))

end Sys2Proof.Referrals
end

section
/-! SPAN codes (R3, R185): the lowest set bit of a span code gives the size of the span and the bits above it the base, and the codes
of the spans among the 4,096 doors are the numbers 1 to 8,191. -/

namespace Sys2Proof.Machine

/-- The code of the span of size 2^p whose base is the multiple `k * 2 ^ p` of its size (R185). -/
def spanCode (p k : Nat) : Nat := 2 * (k * 2 ^ p) + 2 ^ p

variable {p k : Nat}

theorem spanCode_eq_mul (p k : Nat) : spanCode p k = 2 ^ p * (2 * k + 1) := by
  rw [spanCode]
  ring

theorem spanCode_pos (p k : Nat) : 0 < spanCode p k := by
  rw [spanCode_eq_mul]
  positivity

/-! ## Reading the size and the base from a code -/

/-- Bit p of the code is its lowest set bit (R185). -/
theorem testBit_spanCode_of_le {i : Nat} (h : i ≤ p) : (spanCode p k).testBit i = decide (i = p) := by
  rw [spanCode_eq_mul, Nat.testBit_two_pow_mul]
  rcases h.lt_or_eq with below | rfl
  · simp [below.not_ge, below.ne]
  · simp [Nat.testBit_zero, Nat.add_mod]

theorem find_lowestBit_spanCode (hp : p ≤ 12) :
    (List.range 13).find? (fun i => (spanCode p k).testBit i) = some p := by
  rw [List.find?_range_eq_some]
  refine ⟨by simp [testBit_spanCode_of_le le_rfl], by simpa using Nat.lt_succ_of_le hp, fun i below => ?_⟩
  simp [testBit_spanCode_of_le below.le, below.ne]

theorem spanSize_spanCode (hp : p ≤ 12) : spanSize (spanCode p k) = 2 ^ p := by
  rw [spanSize, if_neg (spanCode_pos p k).ne', find_lowestBit_spanCode hp, Option.elim_some]

theorem spanBase_spanCode (hp : p ≤ 12) : spanBase (spanCode p k) = k * 2 ^ p := by
  rw [spanBase, spanSize_spanCode hp, spanCode, Nat.add_sub_cancel, Nat.mul_div_cancel_left _ two_pos]

/-! ## The doors a grant covers -/

theorem Grant.covers_door_iff {n d : Nat} : (Grant.door n).covers d = true ↔ d = n := by
  rw [Grant.covers, beq_iff_eq, eq_comm]

theorem Grant.covers_span_iff {code d : Nat} :
    (Grant.span code).covers d = true ↔ spanBase code ≤ d ∧ d < spanBase code + spanSize code := by
  rw [Grant.covers, Bool.and_eq_true, decide_eq_true_iff, decide_eq_true_iff]

theorem Grant.covers_spanCode_iff {d : Nat} (hp : p ≤ 12) :
    (Grant.span (spanCode p k)).covers d = true ↔ k * 2 ^ p ≤ d ∧ d < (k + 1) * 2 ^ p := by
  rw [covers_span_iff, spanBase_spanCode hp, spanSize_spanCode hp, Nat.succ_mul]

/-! ## The valid codes -/

theorem spanValid_iff {code : Nat} : spanValid code = true ↔ 0 < code ∧ code < 2 ^ 13 := by
  rw [spanValid, Bool.and_eq_true, decide_eq_true_iff, decide_eq_true_iff]
  omega

theorem spanCode_add_size (p k : Nat) : spanCode p k + 2 ^ p = 2 * ((k + 1) * 2 ^ p) := by
  rw [spanCode]
  ring

/-- The code and 2^13 are both multiples of 2^p, so a code below 2^13 leaves room for one size more: the span ends within the 4,096
doors. -/
theorem spanCode_lt_iff (hp : p ≤ 12) : spanCode p k < 2 ^ 13 ↔ (k + 1) * 2 ^ p ≤ 4096 := by
  have size_pos := Nat.two_pow_pos p
  have twice := spanCode_add_size p k
  constructor
  · intro below
    have code_dvd : 2 ^ p ∣ spanCode p k := spanCode_eq_mul p k ▸ Nat.dvd_mul_right ..
    have bound_dvd : 2 ^ p ∣ 2 ^ 13 := Nat.pow_dvd_pow 2 (hp.trans (by decide))
    have room : spanCode p k + 2 ^ p ≤ 2 ^ 13 :=
      Nat.le_of_lt_add_of_dvd (Nat.add_lt_add_right below _) (Nat.dvd_add_self_right.mpr code_dvd) bound_dvd
    omega
  · omega

theorem spanValid_spanCode_iff (hp : p ≤ 12) : spanValid (spanCode p k) = true ↔ (k + 1) * 2 ^ p ≤ 4096 := by
  rw [spanValid_iff, spanCode_lt_iff hp, and_iff_right (spanCode_pos p k)]

/-- Every positive number is the code of one span: its power of two is the size, its odd part names the base. -/
theorem exists_eq_spanCode {code : Nat} (pos : 0 < code) : ∃ p k, code = spanCode p k := by
  obtain ⟨p, m, ⟨k, rfl⟩, rfl⟩ := Nat.exists_eq_two_pow_mul_odd pos.ne'
  exact ⟨p, k, (spanCode_eq_mul p k).symm⟩

theorem le_of_spanCode_lt (h : spanCode p k < 2 ^ 13) : p ≤ 12 := by
  have size_le : 2 ^ p ≤ spanCode p k := Nat.le_add_left ..
  exact Nat.le_of_lt_succ ((Nat.pow_lt_pow_iff_right (by decide)).mp (size_le.trans_lt h))

theorem spanValid_iff_exists_spanCode {code : Nat} :
    spanValid code = true ↔ ∃ p k, p ≤ 12 ∧ (k + 1) * 2 ^ p ≤ 4096 ∧ code = spanCode p k := by
  constructor
  · intro valid
    obtain ⟨pos, below⟩ := spanValid_iff.mp valid
    obtain ⟨p, k, rfl⟩ := exists_eq_spanCode pos
    have hp := le_of_spanCode_lt below
    exact ⟨p, k, hp, (spanValid_spanCode_iff hp).mp valid, rfl⟩
  · rintro ⟨p, k, hp, inside, rfl⟩
    exact (spanValid_spanCode_iff hp).mpr inside

end Sys2Proof.Machine

namespace Sys2Proof.SpanCodes
open Sys2Proof.Machine

/-- Settles O19: the obligation writes `spanCode p k` out; its size and base read back from its lowest set bit, and every number from
1 to 8,191 is such a code of a span within the doors. -/
theorem aGrantCoversItsDoors : Obligations.AGrantCoversItsDoors := by
  unfold Obligations.AGrantCoversItsDoors
  refine ⟨fun p k d hp inside => ?spans, fun n d => Grant.covers_door_iff, fun code => spanValid_iff_exists_spanCode⟩
  case spans => exact ⟨(spanValid_spanCode_iff hp).mpr inside, Grant.covers_spanCode_iff hp⟩

end Sys2Proof.SpanCodes
end

section
/-! The operations of the zone keep the arbiters in order (R62, R63), an OFF channel OFF, and a released channel on its way to
RELEASED (R155); none of them changes which card a lane moves. -/

namespace Sys2Proof.Machine

/-! ## The card that a lane moves -/

/-- The card of the pending movement of a lane. -/
def LaneState.mover (st : LaneState) : Option CardNo := st.movement.map Movement.card

/-- The two zones hold the same movers. -/
def Zone.sameMovers (z z' : Zone) : Prop := ∀ l, (z'.lanes.get l).state.mover = (z.lanes.get l).state.mover

theorem Zone.sameMovers.of_eq {z z' : Zone} (h : z'.lanes = z.lanes) : z.sameMovers z' := fun l => by rw [h]

theorem Zone.sameMovers.refl (z : Zone) : z.sameMovers z := fun _ => rfl

theorem Zone.sameMovers.trans {z₁ z₂ z₃ : Zone} (h : z₁.sameMovers z₂) (k : z₂.sameMovers z₃) : z₁.sameMovers z₃ :=
  fun l => (k l).trans (h l)

theorem Zone.sameMovers_setLane {l : LaneNo} {f : Lane → Lane} {z : Zone}
    (h : (f (z.lanes.get l)).state.mover = (z.lanes.get l).state.mover) : z.sameMovers (z.setLane l f) := by
  intro k
  by_cases hk : k = l
  · subst hk; rw [Zone.setLane_get_self, h]
  · rw [Zone.setLane_get_other _ _ _ _ hk]

variable {cfg : Setup} {c d : Chan} {z z' : Zone} {st : ChanState} {a : Hold} {g : Grp}

theorem Zone.gateWithdrawn_sameMovers (l : LaneNo) : z.sameMovers (z.gateWithdrawn cfg c l) := by
  unfold Zone.gateWithdrawn
  split
  · next m h => exact Zone.sameMovers_setLane (by rw [h]; rfl)
  · next m h => exact Zone.sameMovers_setLane (by rw [h]; rfl)
  · exact .refl z
  · split
    · exact .refl z
    · exact .of_eq (Zone.relock_lanes _ _ _)
  · split
    · exact .refl z
    · exact .of_eq (Zone.relock_lanes _ _ _)

theorem Zone.hold_sameMovers : z.sameMovers (z.hold cfg c a) := by
  unfold Zone.hold
  split
  · dsimp only
    split
    · exact (Zone.sameMovers.of_eq (Zone.enter_lanes _ _ _ _)).trans (Zone.gateWithdrawn_sameMovers _)
    · exact .of_eq rfl
  · exact .of_eq (Zone.relock_lanes _ _ _)
  · exact .of_eq rfl
  · split
    · exact .of_eq rfl
    · exact .of_eq (Zone.relock_lanes _ _ _)

theorem Zone.endDrive_sameMovers : z.sameMovers (z.endDrive cfg c) := by
  unfold Zone.endDrive
  split
  · dsimp only
    split
    · exact .of_eq rfl
    · exact (Zone.sameMovers.of_eq (Zone.leave_lanes c z)).trans Zone.hold_sameMovers
  · exact .of_eq rfl
  · exact .refl z

/-- The record of a channel as its drive begins (R68, R69). -/
def Channel.begin (cfg : Setup) (c : Chan) (st : ChanState) (ch : Channel) : Channel :=
  { ch.enter cfg c st with driveLeft := some cfg.timing.driveTimeout, oc := some (cfg.ocStart c) }

/-- A drive begins, and ends in the same event when its sense is asserted already (R52, R55). -/
theorem Zone.drive_cases (cfg : Setup) (c : Chan) (st : ChanState) (z : Zone) :
    z.drive cfg c st = z.setChan c (·.begin cfg c st) ∨
      z.drive cfg c st = (z.setChan c (·.begin cfg c st)).endDrive cfg c := by
  unfold Zone.drive
  dsimp only
  split
  · split
    · exact .inr rfl
    · exact .inl rfl
  · split
    · exact .inr rfl
    · exact .inl rfl

theorem Zone.drive_sameMovers : z.sameMovers (z.drive cfg c st) := by
  rcases z.drive_cases cfg c st with e | e <;> rw [e]
  · exact .of_eq rfl
  · exact (Zone.sameMovers.of_eq (Zone.setChan_lanes _ _ _)).trans Zone.endDrive_sameMovers

/-- One grant (R62): none, or the head of the queue takes a free slot and its drive begins. -/
theorem Zone.grant_cases (cfg : Setup) (g : Grp) (z : Zone) :
    z.grant cfg g = z ∨
      ∃ c rest st, (z.groups.get g).queue = c :: rest ∧
        ((z.groups.get g).slot0.isNone || (z.groups.get g).slot1.isNone) = true ∧
        (st = .locking ∨ ∃ a, (z.channels.get c).state = .unlockWait a ∧ st = .unlocking a) ∧
        ((∀ a, (z.channels.get c).state ≠ .unlockWait a) ∨ st ≠ .locking) ∧
        z.grant cfg g = (z.setGroup g (fun x => { x with queue := rest }.take c)).drive cfg c st := by
  unfold Zone.grant
  dsimp only
  split
  · exact .inl rfl
  · next c rest hq =>
    split
    · next room =>
      split
      · next a ha => exact .inr ⟨c, rest, _, hq, room, .inr ⟨a, ha, rfl⟩, .inr (by simp), rfl⟩
      · next ha => exact .inr ⟨c, rest, _, hq, room, .inl rfl, .inl fun a h => ha a h, rfl⟩
    · exact .inl rfl

theorem Zone.grant_sameMovers : z.sameMovers (z.grant cfg g) := by
  rcases z.grant_cases cfg g with e | ⟨c, rest, st, -, -, -, -, e⟩ <;> rw [e]
  · exact .refl z
  · exact (Zone.sameMovers.of_eq (Zone.setGroup_lanes _ _ _)).trans Zone.drive_sameMovers

theorem Zone.grants_sameMovers (n : Nat) : z.sameMovers (z.grants cfg g n) := by
  induction n generalizing z with
  | zero => exact .refl z
  | succ n ih => exact Zone.grant_sameMovers.trans ih

theorem Zone.settle_sameMovers : z.sameMovers (z.settle cfg c) := Zone.grants_sameMovers 32

/-! ## One channel apart from the arbiters -/

/-- The channel holds a slot of its group. -/
def Zone.holdsSlot (c : Chan) (z : Zone) : Prop :=
  (z.groups.get (groupOf c)).slot0 = some c ∨ (z.groups.get (groupOf c)).slot1 = some c

/-- The arbiters are in order but for channel `c`, which stands in no queue. -/
structure Zone.Apart (c : Chan) (z : Zone) : Prop where
  nodup : ∀ g, (z.groups.get g).queue.Nodup
  waits : ∀ g, ∀ d ∈ (z.groups.get g).queue, groupOf d = g ∧ (z.channels.get d).state.waits = true
  absent : ∀ g, c ∉ (z.groups.get g).queue
  slots : ∀ d, d ≠ c → (z.channels.get d).state.drives = true → z.holdsSlot d

theorem Zone.orderly.apart (h : z.orderly) (hc : (z.channels.get c).state.waits = false) : z.Apart c := by
  obtain ⟨nodup, waits, slots⟩ := h
  exact ⟨nodup, waits, fun g hg => by simp [(waits g c hg).2] at hc, fun d _ => slots d⟩

/-- Put back in a state that does not drive, or with a slot, the channel leaves the arbiters in order. -/
theorem Zone.Apart.orderly (h : z.Apart c) (hc : (z.channels.get c).state.drives = true → z.holdsSlot c) : z.orderly := by
  refine ⟨h.nodup, h.waits, fun d hd => ?_⟩
  by_cases e : d = c
  · subst e; exact hc hd
  · exact h.slots d e hd

/-- A change of the channel's own record keeps it apart. -/
theorem Zone.Apart.setChan (h : z.Apart c) (f : Channel → Channel) : (z.setChan c f).Apart c := by
  refine ⟨h.nodup, fun g d hd => ?_, h.absent, fun d hd hs => ?_⟩
  · have hdc : d ≠ c := fun e => h.absent g (e ▸ hd)
    rw [Zone.setChan_get_other _ _ _ _ hdc]
    exact h.waits g d hd
  · rw [Zone.setChan_get_other _ _ _ _ hd] at hs
    exact h.slots d hd hs

theorem Zone.Apart.enter (h : z.Apart c) (st : ChanState) : (z.enter cfg c st).Apart c := h.setChan _

theorem Zone.Apart.orderly_enter (h : z.Apart c) (hs : st.drives = false) : (z.enter cfg c st).orderly :=
  (h.enter st).orderly (by simp [hs])

/-- What leaving does to each arbiter. -/
theorem Zone.leave_get (c : Chan) (z : Zone) (g : Grp) :
    (z.leave c).groups.get g = if g = groupOf c then (z.groups.get g).leave c else z.groups.get g := by
  split
  · next h => subst h; exact Zone.setGroup_get_self _ _ _
  · next h => exact Zone.leave_groups_other c g z h

theorem Zone.holdsSlot.leave (h : z.holdsSlot d) (hd : d ≠ c) : (z.leave c).holdsSlot d := by
  unfold Zone.holdsSlot at h ⊢
  rw [Zone.leave_get]
  split
  · next e =>
    simp only [Group.leave]
    rcases h with h | h
    · exact .inl (by rw [h, if_neg (by simpa using hd)])
    · exact .inr (by rw [h, if_neg (by simpa using hd)])
  · exact h

/-- A channel that leaves its arbiter is apart. -/
theorem Zone.orderly.leave (h : z.orderly) (c : Chan) : (z.leave c).Apart c := by
  obtain ⟨nodup, waits, slots⟩ := h
  have mem : ∀ g, ∀ d ∈ ((z.leave c).groups.get g).queue, d ≠ c ∧ d ∈ (z.groups.get g).queue := by
    intro g d hd
    rw [Zone.leave_get] at hd
    split at hd
    · simp only [Group.leave, List.mem_filter, decide_eq_true_eq] at hd
      exact ⟨hd.2, hd.1⟩
    · next hg => exact ⟨fun e => hg (by rw [← (waits g d hd).1, e]), hd⟩
  refine ⟨fun g => ?_, fun g d hd => ?_, fun g hg => (mem g c hg).1 rfl, fun d hd hs => Zone.holdsSlot.leave (slots d hs) hd⟩
  · rw [Zone.leave_get]
    split
    · exact (nodup g).filter _
    · exact nodup g
  · exact waits g d (mem g d hd).2

/-! ## Requests and holds put the channel back in order -/

/-- A channel that waits at the tail of the queue of its group. -/
theorem Zone.Apart.orderly_queue (h : z.Apart c) (hs : st.waits = true) (hd : st.drives = false) :
    ((z.enter cfg c st).setGroup (groupOf c) (fun g => { g with queue := g.queue ++ [c] })).orderly := by
  have h' := h.enter (cfg := cfg) st
  have queue : ∀ g, (((z.enter cfg c st).setGroup (groupOf c) (fun g => { g with queue := g.queue ++ [c] })).groups.get g).queue =
      (z.groups.get g).queue ++ (if g = groupOf c then [c] else []) := by
    intro g
    split
    · next e => subst e; rw [Zone.setGroup_get_self]; rfl
    · next e => rw [Zone.setGroup_get_other _ _ _ _ e, List.append_nil]; rfl
  refine ⟨fun g => ?_, fun g d => ?_, fun d hdr => ?_⟩
  · rw [queue]
    split
    · exact (h.nodup g).append (by simp) (by simpa using h.absent g)
    · simpa using h.nodup g
  · rw [queue, List.mem_append]
    rintro (hq | hq)
    · exact h'.waits g d hq
    · split at hq
      · next e =>
        obtain rfl := List.mem_singleton.mp hq
        exact ⟨e.symm, by simp [hs]⟩
      · simp at hq
  · have hdc : d ≠ c := by
      rintro rfl
      simp [hd] at hdr
    have slot := h'.slots d hdc hdr
    unfold Zone.holdsSlot at slot
    by_cases e : groupOf d = groupOf c
    · rw [e, Zone.setGroup_get_self]
      rw [e] at slot
      exact slot
    · rw [Zone.setGroup_get_other _ _ _ _ e]
      exact slot

theorem Zone.Apart.waitOpen (h : z.Apart c) : (z.waitOpen cfg c a).orderly := by
  rcases Zone.waitOpen_cases cfg c a z with ⟨-, e⟩ | ⟨-, e⟩ <;> rw [e]
  · exact h.orderly_enter rfl
  · exact h.orderly_queue rfl rfl

theorem Zone.Apart.waitClose (h : z.Apart c) : (z.waitClose cfg c).orderly := by
  rcases Zone.waitClose_cases cfg c z with ⟨-, e⟩ | ⟨-, e⟩ <;> rw [e]
  · exact h.orderly_enter rfl
  · exact h.orderly_queue rfl rfl

theorem Zone.Apart.relock (h : z.Apart c) : (z.relock cfg c).orderly := by
  unfold Zone.relock
  split
  · exact h.waitClose
  · exact h.orderly_enter rfl

theorem Zone.Apart.gateWithdrawn (h : z.Apart c) (hs : (z.channels.get c).state.drives = false) (l : LaneNo) :
    (z.gateWithdrawn cfg c l).orderly := by
  have here : z.orderly := h.orderly (by simp [hs])
  unfold Zone.gateWithdrawn
  split
  · exact here
  · exact here
  · exact here
  · split
    · exact here
    · exact h.relock
  · split
    · exact here
    · exact h.relock

theorem Zone.Apart.hold (h : z.Apart c) : (z.hold cfg c a).orderly := by
  unfold Zone.hold
  split
  · dsimp only
    split
    · exact (h.enter _).gateWithdrawn (by simp [ChanState.drives]) _
    · exact h.orderly_enter rfl
  · exact h.relock
  · exact h.orderly_enter rfl
  · split
    · exact h.orderly_enter rfl
    · exact h.relock

/-! ## Drives and grants -/

theorem Zone.orderly.endDrive (h : z.orderly) : (z.endDrive cfg c).orderly := by
  unfold Zone.endDrive
  split
  · dsimp only
    split
    · exact (h.leave c).orderly_enter rfl
    · exact (h.leave c).hold
  · exact (h.leave c).orderly_enter rfl
  · exact h

/-- A drive that begins with a slot held. -/
theorem Zone.Apart.drive (h : z.Apart c) (slot : z.holdsSlot c) : (z.drive cfg c st).orderly := by
  have begun : (z.setChan c (·.begin cfg c st)).orderly := (h.setChan _).orderly (fun _ => slot)
  rcases z.drive_cases cfg c st with e | e <;> rw [e]
  · exact begun
  · exact begun.endDrive

/-- A channel that drives holds a slot and waits in no queue, so it may turn about. -/
theorem Zone.orderly.reverse (h : z.orderly) (hs : (z.channels.get c).state.drives = true) : (z.drive cfg c st).orderly := by
  have hw : (z.channels.get c).state.waits = false := by
    revert hs
    cases (z.channels.get c).state <;> simp [ChanState.drives, ChanState.waits]
  exact (h.apart hw).drive (h.2.2 c hs)

theorem Group.take_keeps_slot {x : Group} {c d : Chan} (room : (x.slot0.isNone || x.slot1.isNone) = true)
    (h : x.slot0 = some d ∨ x.slot1 = some d) : (x.take c).slot0 = some d ∨ (x.take c).slot1 = some d := by
  unfold Group.take
  split
  · next free => rcases h with h | h <;> simp_all
  · rcases h with h | h <;> simp_all

theorem Group.take_gives_slot (x : Group) (c : Chan) : (x.take c).slot0 = some c ∨ (x.take c).slot1 = some c := by
  unfold Group.take
  split <;> simp

theorem Group.take_queue (x : Group) (c : Chan) : (x.take c).queue = x.queue := by
  unfold Group.take
  split <;> rfl

/-- The head of the queue, given its slot, is apart. -/
theorem Zone.orderly.granted {rest : List Chan} (h : z.orderly) (hq : (z.groups.get g).queue = c :: rest)
    (room : ((z.groups.get g).slot0.isNone || (z.groups.get g).slot1.isNone) = true) :
    (z.setGroup g (fun x => { x with queue := rest }.take c)).Apart c ∧
      (z.setGroup g (fun x => { x with queue := rest }.take c)).holdsSlot c := by
  obtain ⟨nodup, waits, slots⟩ := h
  have hc : groupOf c = g := (waits g c (by simp [hq])).1
  have hn : c ∉ rest ∧ rest.Nodup := by simpa [hq] using nodup g
  have queue : ∀ k, ((z.setGroup g (fun x => { x with queue := rest }.take c)).groups.get k).queue =
      if k = g then rest else (z.groups.get k).queue := by
    intro k
    split
    · next e => subst e; rw [Zone.setGroup_get_self, Group.take_queue]
    · next e => rw [Zone.setGroup_get_other _ _ _ _ e]
  have sub : ∀ k, ∀ d ∈ ((z.setGroup g (fun x => { x with queue := rest }.take c)).groups.get k).queue,
      d ∈ (z.groups.get k).queue := by
    intro k d hd
    rw [queue] at hd
    split at hd
    · next e => subst e; simp [hq, hd]
    · exact hd
  refine ⟨⟨fun k => ?_, fun k d hd => waits k d (sub k d hd), fun k hk => ?_, fun d _ hs => ?_⟩, ?_⟩
  · rw [queue]
    split
    · exact hn.2
    · exact nodup k
  · have := (waits k c (sub k c hk)).1
    rw [queue, if_pos (this.symm.trans hc)] at hk
    exact hn.1 hk
  · have held := slots d hs
    unfold Zone.holdsSlot
    by_cases e : groupOf d = g
    · rw [e, Zone.setGroup_get_self]
      rw [e] at held
      exact Group.take_keeps_slot room held
    · rw [Zone.setGroup_get_other _ _ _ _ e]
      exact held
  · unfold Zone.holdsSlot
    rw [hc, Zone.setGroup_get_self]
    exact Group.take_gives_slot _ _

theorem Zone.orderly.grant (h : z.orderly) : (z.grant cfg g).orderly := by
  rcases z.grant_cases cfg g with e | ⟨c, rest, st, hq, room, -, -, e⟩ <;> rw [e]
  · exact h
  · obtain ⟨apart, slot⟩ := h.granted hq room
    exact apart.drive slot

theorem Zone.orderly.grants (h : z.orderly) (n : Nat) : (z.grants cfg g n).orderly := by
  induction n generalizing z with
  | zero => exact h
  | succ n ih => exact ih h.grant

theorem Zone.orderly.settle (h : z.orderly) : (z.settle cfg c).orderly := h.grants 32

end Sys2Proof.Machine
end

section
/-! What an operation of the zone keeps: the arbiters in order (R62, R63), every OFF channel, every channel that a release claim has
set toward RELEASED (R155), and the movers of the lanes. -/

namespace Sys2Proof.Machine

/-- A channel that a release claim has reached: it goes toward RELEASED with its release marker, or is a channel of kind NONE
(R64, R155). -/
def Channel.freed (cfg : Setup) (c : Chan) (ch : Channel) : Prop :=
  ch.state.releasing = true ∧ (ch.release = true ∨ (cfg.kind c = .none ∧ ch.state = .off))

/-- What an operation keeps of the zone; a channel on its way to RELEASED stays so where `E` holds. -/
structure Zone.Keeps (E : Prop) (cfg : Setup) (z z' : Zone) : Prop where
  movers : z.sameMovers z'
  orderly : z.orderly → z'.orderly
  off : z.orderly → ∀ c, (z.channels.get c).state = .off → (z'.channels.get c).state = .off
  freed : E → z.orderly → ∀ c, (z.channels.get c).freed cfg c → (z'.channels.get c).freed cfg c

variable {E : Prop} {cfg : Setup} {c d : Chan} {z z' : Zone} {st : ChanState} {a : Hold} {g : Grp} {ch : Channel}

theorem Zone.Keeps.refl (z : Zone) : z.Keeps E cfg z := ⟨.refl z, id, fun _ _ h => h, fun _ _ _ h => h⟩

theorem Zone.Keeps.trans {z₁ z₂ z₃ : Zone} (h : z₁.Keeps E cfg z₂) (k : z₂.Keeps E cfg z₃) : z₁.Keeps E cfg z₃ :=
  ⟨h.movers.trans k.movers, fun o => k.orderly (h.orderly o), fun o c hc => k.off (h.orderly o) c (h.off o c hc),
    fun e o c hc => k.freed e (h.orderly o) c (h.freed e o c hc)⟩

/-- An operation that changes channel `c` alone. -/
theorem Zone.Keeps.of_chan (movers : z.sameMovers z') (orderly : z.orderly → z'.orderly)
    (other : ∀ d, d ≠ c → z'.channels.get d = z.channels.get d)
    (off : (z.channels.get c).state = .off → (z'.channels.get c).state = .off)
    (freed : E → z.orderly → (z.channels.get c).freed cfg c → (z'.channels.get c).freed cfg c) : z.Keeps E cfg z' := by
  refine ⟨movers, orderly, fun _ d hd => ?_, fun e o d hd => ?_⟩
  · by_cases h : d = c
    · subst h; exact off hd
    · rw [other d h]; exact hd
  · by_cases h : d = c
    · subst h; exact freed e o hd
    · rw [other d h]; exact hd

/-! ## A channel on its way to RELEASED -/

theorem Channel.freed_of_release (hs : ch.state.releasing = true) (hr : ch.release = true) : ch.freed cfg c := ⟨hs, .inl hr⟩

/-- Away from OFF, the release marker stands. -/
theorem Channel.freed.release (h : ch.freed cfg c) (hs : ch.state ≠ .off) : ch.release = true :=
  h.2.resolve_right fun k => hs k.2

theorem Channel.freed.elim {P : Prop} (h : ch.freed cfg c) (hs : ch.state.releasing = false) : P := by
  simp [h.1] at hs

theorem Channel.freed.enter {st : ChanState} (h : ch.freed cfg c) (hs : ch.state ≠ .off) (ht : st.releasing = true) :
    (ch.enter cfg c st).freed cfg c := Channel.freed_of_release ht (h.release hs)

/-! ## Small changes -/

theorem Zone.Keeps.setLane {l : LaneNo} {f : Lane → Lane}
    (h : (f (z.lanes.get l)).state.mover = (z.lanes.get l).state.mover) : z.Keeps E cfg (z.setLane l f) :=
  ⟨Zone.sameMovers_setLane h, id, fun _ _ h => h, fun _ _ _ h => h⟩

/-- A change of an arbiter's protection leaves its slots and its queue. -/
theorem Zone.Keeps.setGroup {f : Group → Group} (h0 : ∀ x, (f x).slot0 = x.slot0) (h1 : ∀ x, (f x).slot1 = x.slot1)
    (hq : ∀ x, (f x).queue = x.queue) : z.Keeps E cfg (z.setGroup g f) := by
  have group : ∀ k, ((z.setGroup g f).groups.get k).slot0 = (z.groups.get k).slot0 ∧
      ((z.setGroup g f).groups.get k).slot1 = (z.groups.get k).slot1 ∧
      ((z.setGroup g f).groups.get k).queue = (z.groups.get k).queue := by
    intro k
    by_cases e : k = g
    · subst e; rw [Zone.setGroup_get_self]; exact ⟨h0 _, h1 _, hq _⟩
    · rw [Zone.setGroup_get_other _ _ _ _ e]; exact ⟨rfl, rfl, rfl⟩
  refine ⟨.of_eq rfl, fun ⟨nodup, waits, slots⟩ => ⟨fun k => ?_, fun k d hd => ?_, fun d hd => ?_⟩, fun _ _ h => h, fun _ _ _ h => h⟩
  · rw [(group k).2.2]; exact nodup k
  · rw [(group k).2.2] at hd; exact waits k d hd
  · rw [(group _).1, (group _).2.1]; exact slots d hd

/-- A change of a channel's record that is neither its state nor its release marker. -/
theorem Zone.Keeps.setChan {f : Channel → Channel} (hs : ∀ ch, (f ch).state = ch.state)
    (hr : ∀ ch, (f ch).release = ch.release) : z.Keeps E cfg (z.setChan c f) := by
  have state : ∀ d, ((z.setChan c f).channels.get d).state = (z.channels.get d).state := by
    intro d
    by_cases e : d = c
    · subst e; rw [Zone.setChan_get_self, hs]
    · rw [Zone.setChan_get_other _ _ _ _ e]
  refine .of_chan (c := c) (.of_eq rfl) (fun ⟨nodup, waits, slots⟩ => ⟨nodup, fun g d hd => ?_, fun d hd => ?_⟩)
    (fun d hd => Zone.setChan_get_other _ _ _ _ hd) (fun h => ?_) (fun _ _ h => ?_)
  · rw [state]; exact waits g d hd
  · rw [state] at hd; exact slots d hd
  · rw [state, h]
  · rw [Zone.setChan_get_self]
    simpa [Channel.freed, hs, hr] using h

/-! ## Grants -/

theorem Zone.endDrive_freed (h : (z.channels.get c).freed cfg c) : ((z.endDrive cfg c).channels.get c).freed cfg c := by
  unfold Zone.endDrive
  split
  · next a hs =>
    have hr : (z.channels.get c).release = true := h.release (by simp [hs])
    dsimp only
    rw [if_pos (by simpa using hr), Zone.enter_get_self]
    exact Channel.freed_of_release rfl hr
  · next hs => exact h.elim (by simp [hs, ChanState.releasing])
  · exact h

theorem Zone.drive_freed (hr : (z.channels.get c).release = true) :
    ((z.drive cfg c (.unlocking a)).channels.get c).freed cfg c := by
  have begun : ((z.setChan c (·.begin cfg c (.unlocking a))).channels.get c).freed cfg c := by
    rw [Zone.setChan_get_self]
    exact Channel.freed_of_release rfl hr
  rcases z.drive_cases cfg c (.unlocking a) with e | e <;> rw [e]
  · exact begun
  · exact Zone.endDrive_freed begun

theorem Zone.grant_keeps : z.Keeps E cfg (z.grant cfg g) := by
  refine ⟨Zone.grant_sameMovers, Zone.orderly.grant, fun o d hd => ?_, fun _ o d hd => ?_⟩
  · rcases z.grant_cases cfg g with e | ⟨c, rest, st, hq, -, -, -, e⟩ <;> rw [e]
    · exact hd
    · have hw := (o.2.1 g c (by simp [hq])).2
      have hdc : d ≠ c := by
        rintro rfl
        simp [hd, ChanState.waits] at hw
      rw [Zone.drive_get_other _ _ _ _ _ hdc]
      exact hd
  · rcases z.grant_cases cfg g with e | ⟨c, rest, st, hq, -, hst, other, e⟩ <;> rw [e]
    · exact hd
    · by_cases hdc : d = c
      · subst hdc
        have hw := (o.2.1 g d (by simp [hq])).2
        have hr : (z.channels.get d).release = true := hd.release (by intro h; simp [h, ChanState.waits] at hw)
        rcases hst with rfl | ⟨a, -, rfl⟩
        · have open_ := other.resolve_right (by simp)
          cases h : (z.channels.get d).state with
          | unlockWait a => exact absurd h (open_ a)
          | lockWait => exact hd.elim (by simp [h, ChanState.releasing])
          | _ => simp [h, ChanState.waits] at hw
        · exact Zone.drive_freed hr
      · rw [Zone.drive_get_other _ _ _ _ _ hdc]
        exact hd

theorem Zone.grants_keeps (n : Nat) : z.Keeps E cfg (z.grants cfg g n) := by
  induction n generalizing z with
  | zero => exact .refl z
  | succ n ih => exact Zone.grant_keeps.trans ih

theorem Zone.settle_keeps : z.Keeps E cfg (z.settle cfg c) := Zone.grants_keeps 32

/-! ## Requests for a drive and holds -/

theorem Zone.waitOpen_freed (hr : (z.channels.get c).release = true) :
    ((z.waitOpen cfg c a).channels.get c).freed cfg c := by
  rcases Zone.waitOpen_cases cfg c a z with ⟨-, e⟩ | ⟨-, e⟩ <;> rw [e]
  · rw [Zone.enter_get_self]; exact Channel.freed_of_release rfl hr
  · rw [Zone.setGroup_channels, Zone.enter_get_self]; exact Channel.freed_of_release rfl hr

/-- A channel that neither waits nor drives requests an opening drive. -/
theorem Zone.waitOpen_keeps (hw : (z.channels.get c).state.waits = false) (ho : (z.channels.get c).state ≠ .off) :
    z.Keeps E cfg (z.waitOpen cfg c a) :=
  .of_chan (c := c) (.of_eq (Zone.waitOpen_lanes _ _ _ _)) (fun o => (o.apart hw).waitOpen)
    (fun _ hd => Zone.waitOpen_get_other _ _ _ _ _ hd) (fun h => absurd h ho) (fun _ _ h => Zone.waitOpen_freed (h.release ho))

/-- A closing drive is requested by a channel that no release claim has reached. -/
theorem Zone.waitClose_keeps (hw : (z.channels.get c).state.waits = false) (hs : E → (z.channels.get c).state.releasing = false)
    (ho : (z.channels.get c).state ≠ .off) : z.Keeps E cfg (z.waitClose cfg c) :=
  .of_chan (c := c) (.of_eq (Zone.waitClose_lanes _ _ _)) (fun o => (o.apart hw).waitClose)
    (fun _ hd => Zone.waitClose_get_other _ _ _ _ hd) (fun h => absurd h ho) (fun e _ h => h.elim (hs e))

theorem Zone.relock_keeps (hw : (z.channels.get c).state.waits = false) (hs : E → (z.channels.get c).state.releasing = false)
    (ho : (z.channels.get c).state ≠ .off) : z.Keeps E cfg (z.relock cfg c) :=
  .of_chan (c := c) (.of_eq (Zone.relock_lanes _ _ _)) (fun o => (o.apart hw).relock)
    (fun _ hd => Zone.relock_get_other _ _ _ _ hd) (fun h => absurd h ho) (fun e _ h => h.elim (hs e))

theorem Zone.hold_keeps (hw : (z.channels.get c).state.waits = false)
    (hs : E → ¬(z.channels.get c).freed cfg c) (ho : (z.channels.get c).state ≠ .off) :
    z.Keeps E cfg (z.hold cfg c a) :=
  .of_chan (c := c) Zone.hold_sameMovers (fun o => (o.apart hw).hold)
    (fun _ hd => Zone.hold_get_other _ _ _ _ _ hd) (fun h => absurd h ho) (fun e _ h => absurd h (hs e))

/-- The channel enters a state that neither waits nor drives. -/
theorem Zone.enter_keeps (hw : (z.channels.get c).state.waits = false) (hd : st.drives = false)
    (ho : (z.channels.get c).state ≠ .off)
    (hs : E → (z.channels.get c).freed cfg c → st.releasing = true) : z.Keeps E cfg (z.enter cfg c st) :=
  .of_chan (c := c) (.of_eq rfl) (fun o => (o.apart hw).orderly_enter hd) (fun _ hd => Zone.enter_get_other _ _ _ _ _ hd)
    (fun h => absurd h ho) (fun e _ h => by rw [Zone.enter_get_self]; exact h.enter ho (hs e h))

/-- A channel that waits or drives leaves its arbiter and enters a state that does not drive. -/
theorem Zone.leave_enter_keeps (hd : st.drives = false) (ho : (z.channels.get c).state ≠ .off)
    (hs : E → (z.channels.get c).freed cfg c → st.releasing = true) : z.Keeps E cfg ((z.leave c).enter cfg c st) :=
  .of_chan (c := c) (.of_eq rfl) (fun o => (o.leave c).orderly_enter hd) (fun _ hd => Zone.enter_get_other _ _ _ _ _ hd)
    (fun h => absurd h ho)
    (fun e _ h => by rw [Zone.enter_get_self, Zone.leave_channels]; exact h.enter ho (hs e h))

theorem Zone.leave_hold_keeps (ho : (z.channels.get c).state ≠ .off) (hs : E → (z.channels.get c).state.releasing = false) :
    z.Keeps E cfg ((z.leave c).hold cfg c a) :=
  .of_chan (c := c) ((Zone.sameMovers.of_eq (Zone.leave_lanes c z)).trans Zone.hold_sameMovers) (fun o => (o.leave c).hold)
    (fun _ hd => Zone.hold_get_other _ _ _ _ _ hd) (fun h => absurd h ho) (fun e _ h => h.elim (hs e))

theorem Zone.endDrive_other_state (hd : (z.channels.get c).state.drives = false) : z.endDrive cfg c = z := by
  unfold Zone.endDrive
  split
  · next h => simp [h, ChanState.drives] at hd
  · next h => simp [h, ChanState.drives] at hd
  · rfl

theorem Zone.endDrive_keeps : z.Keeps E cfg (z.endDrive cfg c) := by
  by_cases h : (z.channels.get c).state.drives = true
  · exact .of_chan (c := c) Zone.endDrive_sameMovers Zone.orderly.endDrive (fun _ hd => Zone.endDrive_get_other _ _ _ _ hd)
      (fun ho => by simp [ho, ChanState.drives] at h) (fun _ _ h => Zone.endDrive_freed h)
  · rw [Zone.endDrive_other_state (by simpa using h)]
    exact .refl z

/-- A drive turns about toward the open end, or toward the closed end where no release claim has reached the channel. -/
theorem Zone.drive_keeps (hd : (z.channels.get c).state.drives = true)
    (hs : E → (∃ a, st = .unlocking a) ∨ ¬(z.channels.get c).freed cfg c) : z.Keeps E cfg (z.drive cfg c st) := by
  have ho : (z.channels.get c).state ≠ .off := by
    intro h
    simp [h, ChanState.drives] at hd
  refine .of_chan (c := c) Zone.drive_sameMovers (fun o => o.reverse hd) (fun _ hd => Zone.drive_get_other _ _ _ _ _ hd)
    (fun h => absurd h ho) (fun e _ h => ?_)
  rcases hs e with ⟨a, rfl⟩ | hf
  · exact Zone.drive_freed (h.release ho)
  · exact absurd h hf

/-- The arrival hold of a channel on its way to withdrawn is written anew. -/
theorem Zone.setArrival_keeps (h : (∃ b, (z.channels.get c).state = .unlockWait b ∧ st = .unlockWait a) ∨
    ∃ b, (z.channels.get c).state = .unlocking b ∧ st = .unlocking a) : z.Keeps E cfg (z.enter cfg c st) := by
  have same : st.waits = (z.channels.get c).state.waits ∧ st.drives = (z.channels.get c).state.drives ∧
      st.releasing = true ∧ (z.channels.get c).state ≠ .off := by
    rcases h with ⟨b, e, rfl⟩ | ⟨b, e, rfl⟩ <;> rw [e] <;> exact ⟨rfl, rfl, rfl, by simp⟩
  obtain ⟨waits, drives, releasing, ho⟩ := same
  refine .of_chan (c := c) (.of_eq rfl) (fun ⟨nodup, wait, slots⟩ => ⟨nodup, fun g d hd => ?_, fun d hd => ?_⟩)
    (fun _ hd => Zone.enter_get_other _ _ _ _ _ hd) (fun h => absurd h ho)
    (fun e _ h => by rw [Zone.enter_get_self]; exact h.enter ho releasing)
  · by_cases e : d = c
    · subst e; rw [Zone.enter_get_self, Channel.enter_state, waits]; exact wait g d hd
    · rw [Zone.enter_get_other _ _ _ _ _ e]; exact wait g d hd
  · by_cases e : d = c
    · subst e; rw [Zone.enter_get_self, Channel.enter_state, drives] at hd; exact slots d hd
    · rw [Zone.enter_get_other _ _ _ _ _ e] at hd; exact slots d hd

/-! ## Claims -/

theorem Zone.openClaim_keeps : z.Keeps E cfg (z.openClaim cfg c) := by
  unfold Zone.openClaim
  split
  · next h => exact (Zone.waitOpen_keeps (by simp [h, ChanState.waits]) (by simp [h])).trans Zone.settle_keeps
  · next b h => exact Zone.setArrival_keeps (.inl ⟨b, h, rfl⟩)
  · next b h => exact Zone.setArrival_keeps (.inr ⟨b, h, rfl⟩)
  · next h =>
    exact (Zone.hold_keeps (by simp [h, ChanState.waits]) (fun _ f => f.elim (by simp [h, ChanState.releasing]))
      (by simp [h])).trans Zone.settle_keeps
  · next h => exact (Zone.leave_hold_keeps (by simp [h]) (by simp [h, ChanState.releasing])).trans Zone.settle_keeps
  · next h => exact (Zone.drive_keeps (by simp [h, ChanState.drives]) (fun _ => .inl ⟨_, rfl⟩)).trans Zone.settle_keeps
  · next h =>
    split
    · exact (Zone.waitOpen_keeps (by simp [h, ChanState.waits]) (by simp [h])).trans Zone.settle_keeps
    · exact .refl z
  · exact .refl z
  · exact .refl z
  · exact .refl z

theorem Zone.relockClaim_keeps : z.Keeps E cfg (z.relockClaim cfg c) := by
  unfold Zone.relockClaim
  dsimp only
  split
  · exact .refl z
  · next hr =>
    have notFreed : (z.channels.get c).state ≠ .off → ¬(z.channels.get c).freed cfg c := fun ho f => hr (f.release ho)
    split
    · exact .refl z
    · next h =>
      exact (Zone.relock_keeps (by simp [h, ChanState.waits]) (by simp [h, ChanState.releasing]) (by simp [h])).trans
        Zone.settle_keeps
    · next b h =>
      split
      · exact Zone.leave_enter_keeps rfl (by simp [h]) (fun _ f => absurd f (notFreed (by simp [h])))
      · refine .of_chan (c := c) (.of_eq rfl) (fun ⟨nodup, wait, slots⟩ => ⟨nodup, fun g d hd => ?_, fun d hd => ?_⟩)
          (fun _ hd => Zone.enter_get_other _ _ _ _ _ hd) (by simp [h]) (fun _ _ f => absurd f (notFreed (by simp [h])))
        · by_cases e : d = c
          · subst e; rw [Zone.enter_get_self]; exact ⟨(wait g d hd).1, rfl⟩
          · rw [Zone.enter_get_other _ _ _ _ _ e]; exact wait g d hd
        · by_cases e : d = c
          · subst e; rw [Zone.enter_get_self] at hd; simp [ChanState.drives] at hd
          · rw [Zone.enter_get_other _ _ _ _ _ e] at hd; exact slots d hd
    · next b h =>
      exact (Zone.drive_keeps (by simp [h, ChanState.drives]) (fun _ => .inr (notFreed (by simp [h])))).trans Zone.settle_keeps
    · next t h =>
      exact Zone.enter_keeps (by simp [h, ChanState.waits]) rfl (by simp [h]) (fun _ f => absurd f (notFreed (by simp [h])))
    · exact .refl z
    · exact .refl z
    · exact .refl z
    · exact .refl z
    · exact .refl z
    · exact .refl z

/-- A channel takes its release marker. -/
theorem Zone.setRelease_keeps : z.Keeps E cfg (z.setChan c (fun ch => { ch with release := true })) := by
  have state : ∀ d, ((z.setChan c (fun ch => { ch with release := true })).channels.get d).state = (z.channels.get d).state := by
    intro d
    by_cases e : d = c
    · subst e; rw [Zone.setChan_get_self]
    · rw [Zone.setChan_get_other _ _ _ _ e]
  refine .of_chan (c := c) (.of_eq rfl) (fun ⟨nodup, waits, slots⟩ => ⟨nodup, fun g d hd => ?_, fun d hd => ?_⟩)
    (fun d hd => Zone.setChan_get_other _ _ _ _ hd) (fun h => ?_) (fun _ _ h => ?_)
  · rw [state]; exact waits g d hd
  · rw [state] at hd; exact slots d hd
  · rw [state, h]
  · rw [Zone.setChan_get_self]; exact Channel.freed_of_release h.1 rfl

/-- What a release claim does to a channel that holds its release marker (R64). -/
theorem Zone.releaseClaim_cases (cfg : Setup) (c : Chan) (z : Zone) :
    (cfg.inUse c = false ∧ z.releaseClaim cfg c = z) ∨
      (cfg.inUse c = true ∧ ∃ z₁ z₂, z₁ = z.setChan c (fun ch => { ch with release := true }) ∧
        z₁.Keeps E cfg z₂ ∧ ((z₂.channels.get c).freed cfg c) ∧
        (z.releaseClaim cfg c = z₂ ∨ z.releaseClaim cfg c = z₂.settle cfg c)) := by
  unfold Zone.releaseClaim
  cases hu : cfg.inUse c with
  | false => exact .inl ⟨rfl, rfl⟩
  | true =>
    refine .inr ⟨rfl, ?_⟩
    simp only [if_true]
    generalize hz : z.setChan c (fun ch => { ch with release := true }) = z₁
    have hr : (z₁.channels.get c).release = true := by rw [← hz, Zone.setChan_get_self]
    have entered : ∀ st : ChanState, st.releasing = true → ((z₁.enter cfg c st).channels.get c).freed cfg c := fun st hs => by
      rw [Zone.enter_get_self]; exact Channel.freed_of_release hs hr
    split
    · next h => exact ⟨z₁, _, rfl, Zone.waitOpen_keeps (by simp [h, ChanState.waits]) (by simp [h]), Zone.waitOpen_freed hr, .inr rfl⟩
    · next h =>
      split
      · exact ⟨z₁, _, rfl, Zone.enter_keeps (by simp [h, ChanState.waits]) rfl (by simp [h]) (fun _ _ => rfl), entered _ rfl, .inl rfl⟩
      · exact ⟨z₁, _, rfl, Zone.waitOpen_keeps (by simp [h, ChanState.waits]) (by simp [h]), Zone.waitOpen_freed hr, .inr rfl⟩
    · next h =>
      refine ⟨z₁, _, rfl, Zone.leave_enter_keeps rfl (by simp [h]) (fun _ _ => rfl), ?_, .inl rfl⟩
      rw [Zone.enter_get_self, Zone.leave_channels]
      exact Channel.freed_of_release rfl hr
    · next h =>
      exact ⟨z₁, _, rfl, Zone.drive_keeps (by simp [h, ChanState.drives]) (fun _ => .inl ⟨_, rfl⟩), Zone.drive_freed hr, .inr rfl⟩
    · next h => exact ⟨z₁, _, rfl, Zone.waitOpen_keeps (by simp [h, ChanState.waits]) (by simp [h]), Zone.waitOpen_freed hr, .inr rfl⟩
    · next t h =>
      have ht : (ChanState.inhibited t.toOpen).releasing = true := by cases t <;> rfl
      exact ⟨z₁, _, rfl, Zone.enter_keeps (by simp [h, ChanState.waits]) rfl (by simp [h]) (fun _ _ => ht), entered _ ht, .inl rfl⟩
    · next h => exact ⟨z₁, _, rfl, .refl z₁, Channel.freed_of_release (by rw [h]; rfl) hr, .inl rfl⟩
    · next h => exact ⟨z₁, _, rfl, .refl z₁, Channel.freed_of_release (by rw [h]; rfl) hr, .inl rfl⟩
    · next h => exact ⟨z₁, _, rfl, .refl z₁, Channel.freed_of_release (by rw [h]; rfl) hr, .inl rfl⟩
    · next h => exact ⟨z₁, _, rfl, .refl z₁, Channel.freed_of_release (by rw [h]; rfl) hr, .inl rfl⟩

theorem Zone.releaseClaim_keeps : z.Keeps E cfg (z.releaseClaim cfg c) := by
  rcases z.releaseClaim_cases (E := E) cfg c with ⟨-, e⟩ | ⟨-, z₁, z₂, rfl, keeps, -, e | e⟩ <;> rw [e]
  · exact .refl z
  · exact Zone.setRelease_keeps.trans keeps
  · exact (Zone.setRelease_keeps.trans keeps).trans Zone.settle_keeps

/-- After its release claim the channel is on its way to RELEASED (R64, R155). -/
theorem Zone.releaseClaim_freed (o : z.orderly) (hn : cfg.kind c = .none → (z.channels.get c).state = .off) :
    ((z.releaseClaim cfg c).channels.get c).freed cfg c := by
  rcases z.releaseClaim_cases (E := True) cfg c with ⟨hu, e⟩ | ⟨-, z₁, z₂, rfl, keeps, freed, e | e⟩ <;> rw [e]
  · have hk : cfg.kind c = .none := by simpa [Setup.inUse] using hu
    exact ⟨by simp [hn hk, ChanState.releasing], .inr ⟨hk, hn hk⟩⟩
  · exact freed
  · exact Zone.settle_keeps.freed trivial (keeps.orderly (Zone.setRelease_keeps (E := True) (cfg := cfg).orderly o)) c freed

end Sys2Proof.Machine
end

section
/-! What doors, protection, recovery and the end of a release keep of the zone. -/

namespace Sys2Proof.Machine

variable {E : Prop} {cfg : Setup} {c d : Chan} {z z' : Zone} {st : ChanState} {a : Hold} {g : Grp} {ch : Channel}

/-! ## One operation for each of several channels -/

/-- An operation that keeps the zone whatever channel it is done for keeps it when done for several. -/
theorem Zone.foldl_keeps {op : Zone → Chan → Zone} (h : ∀ (z : Zone) c, z.Keeps E cfg (op z c)) (cs : List Chan) (z : Zone) :
    z.Keeps E cfg (cs.foldl op z) := by
  induction cs generalizing z with
  | nil => exact .refl z
  | cons c cs ih => exact (h z c).trans (ih _)

/-! ## The end of a release, doors -/

/-- An end-of-release claim takes the release marker, so it keeps no channel on its way to RELEASED (R65). -/
theorem Zone.endRelease_keeps : z.Keeps False cfg (z.endRelease cfg c) := by
  have marker : z.Keeps False cfg (z.setChan c (fun ch => { ch with release := false })) := by
    have state : ∀ d, ((z.setChan c (fun ch => { ch with release := false })).channels.get d).state = (z.channels.get d).state := by
      intro d
      by_cases e : d = c
      · subst e; rw [Zone.setChan_get_self]
      · rw [Zone.setChan_get_other _ _ _ _ e]
    exact ⟨.of_eq rfl, fun ⟨nodup, waits, slots⟩ => ⟨nodup, fun g d hd => by rw [state]; exact waits g d hd,
      fun d hd => by rw [state] at hd; exact slots d hd⟩, fun _ d hd => by rw [state, hd], False.elim⟩
  unfold Zone.endRelease
  split
  · refine marker.trans ?_
    dsimp only
    split
    · next h =>
      exact (Zone.hold_keeps (by rw [h]; rfl) False.elim (by rw [h]; simp)).trans Zone.settle_keeps
    · next b h => exact Zone.setArrival_keeps (.inl ⟨b, h, rfl⟩)
    · next b h => exact Zone.setArrival_keeps (.inr ⟨b, h, rfl⟩)
    · exact .refl _
  · exact .refl z

theorem Zone.doorOpens_keeps : z.Keeps E cfg (z.doorOpens cfg c) := by
  unfold Zone.doorOpens
  refine .trans (Zone.Keeps.setChan (c := c) (f := fun ch => { ch with contact := true }) (fun _ => rfl) (fun _ => rfl)) ?_
  generalize z.setChan c (fun ch => { ch with contact := true }) = z₁
  dsimp only
  split
  · next n h =>
    exact (Zone.enter_keeps (by rw [h]; rfl) rfl (by simp [h]) (fun _ f => f.elim (by rw [h]; rfl))).trans
      (Zone.Keeps.setChan (fun _ => rfl) (fun _ => rfl))
  · exact Zone.Keeps.setChan (fun _ => rfl) (fun _ => rfl)
  · next h => exact Zone.leave_enter_keeps rfl (by simp [h]) (fun _ f => f.elim (by rw [h]; rfl))
  · next h => exact (Zone.drive_keeps (by rw [h]; rfl) (fun _ => .inl ⟨_, rfl⟩)).trans Zone.settle_keeps
  · exact .refl z₁

theorem Zone.doorCloses_keeps : z.Keeps E cfg (z.doorCloses cfg c) := by
  unfold Zone.doorCloses
  refine .trans (Zone.Keeps.setChan (c := c)
    (f := fun ch => { ch with contact := false, doorHeld := none, heldReported := false }) (fun _ => rfl) (fun _ => rfl)) ?_
  generalize z.setChan c (fun ch => { ch with contact := false, doorHeld := none, heldReported := false }) = z₁
  dsimp only
  split
  · next h =>
    exact (Zone.relock_keeps (by rw [h]; rfl) (fun _ => by rw [h]; rfl) (by simp [h])).trans Zone.settle_keeps
  · exact .refl z₁

/-! ## Faults and rails -/

theorem Zone.isolate_keeps (ho : (z.channels.get c).state ≠ .off) : z.Keeps E cfg (z.isolate cfg c) :=
  (Zone.leave_enter_keeps rfl ho (fun _ _ => rfl)).trans Zone.settle_keeps

/-- The target end of a stopped channel is the open one, or none, where the channel was on its way to RELEASED (R74). -/
theorem ChanState.stopped_releasing (kind : ChanKind) {st : ChanState} (h : st.releasing = true) :
    (ChanState.inhibited (st.stopped kind)).releasing = true := by
  cases st with
  | inhibited t => exact h
  | locked => simp [ChanState.releasing] at h
  | openHold => simp [ChanState.releasing] at h
  | lockWait => simp [ChanState.releasing] at h
  | locking => simp [ChanState.releasing] at h
  | _ => rfl

/-- An inhibition reaches one channel after another; the arbiters are in order once no channel of the group waits or drives, so the
channels of the group are followed one by one. -/
structure Zone.Stops (E : Prop) (cfg : Setup) (g : Grp) (z z' : Zone) : Prop where
  lanes : z'.lanes = z.lanes
  groups : z'.groups = z.groups
  other : ∀ d, groupOf d ≠ g → z'.channels.get d = z.channels.get d
  calm : ∀ d, (z.channels.get d).state.waits = false → (z.channels.get d).state.drives = false →
    (z'.channels.get d).state.waits = false ∧ (z'.channels.get d).state.drives = false
  off : ∀ d, (z.channels.get d).state = .off → (z'.channels.get d).state = .off
  freed : E → ∀ d, (z.channels.get d).freed cfg d → (z'.channels.get d).freed cfg d

theorem Zone.Stops.trans {z₁ z₂ z₃ : Zone} (h : z₁.Stops E cfg g z₂) (k : z₂.Stops E cfg g z₃) : z₁.Stops E cfg g z₃ :=
  ⟨k.lanes.trans h.lanes, k.groups.trans h.groups, fun d hd => (k.other d hd).trans (h.other d hd),
    fun d hw hd => k.calm d (h.calm d hw hd).1 (h.calm d hw hd).2, fun d hd => k.off d (h.off d hd),
    fun e d hd => k.freed e d (h.freed e d hd)⟩

theorem Zone.Stops.refl (z : Zone) : z.Stops E cfg g z :=
  ⟨rfl, rfl, fun _ _ => rfl, fun _ hw hd => ⟨hw, hd⟩, fun _ h => h, fun _ _ h => h⟩

/-- One channel of the group enters a state that neither waits nor drives. -/
theorem Zone.Stops.enter (hc : groupOf c = g) (ho : (z.channels.get c).state ≠ .off) (hw : st.waits = false)
    (hd : st.drives = false) (hs : (z.channels.get c).state.releasing = true → st.releasing = true) :
    z.Stops E cfg g (z.enter cfg c st) := by
  refine ⟨rfl, rfl, fun d h => Zone.enter_get_other _ _ _ _ _ (fun e => h (e ▸ hc)), fun d h1 h2 => ?_, fun d h => ?_, fun _ d h => ?_⟩
  · by_cases e : d = c
    · subst e; rw [Zone.enter_get_self]; exact ⟨hw, hd⟩
    · rw [Zone.enter_get_other _ _ _ _ _ e]; exact ⟨h1, h2⟩
  · by_cases e : d = c
    · subst e; exact absurd h ho
    · rw [Zone.enter_get_other _ _ _ _ _ e]; exact h
  · by_cases e : d = c
    · subst e; rw [Zone.enter_get_self]; exact h.enter ho (hs h.1)
    · rw [Zone.enter_get_other _ _ _ _ _ e]; exact h

theorem Zone.inhibit_stops (hc : groupOf c = g) : z.Stops E cfg g (z.inhibit cfg c) := by
  unfold Zone.inhibit
  split
  · exact .refl z
  · next ho => exact .enter hc (fun h => ho h) rfl rfl (ChanState.stopped_releasing _)

theorem Zone.undervolt_stops (hc : groupOf c = g) : z.Stops E cfg g (z.undervolt cfg c) := by
  unfold Zone.undervolt
  split
  · next h => exact .enter hc (by simp [h]) rfl rfl (fun _ => rfl)
  · next h => exact .enter hc (by simp [h]) rfl rfl (by simp [h, ChanState.releasing])
  · next h => exact .enter hc (by simp [h]) rfl rfl (fun _ => rfl)
  · next h => exact .enter hc (by simp [h]) rfl rfl (by simp [h, ChanState.releasing])
  · next h => exact .enter hc (by simp [h]) rfl rfl (fun _ => rfl)
  · exact .refl z

/-- What one channel's inhibition leaves of it: it neither waits nor drives. -/
theorem Zone.inhibit_calm : ((z.inhibit cfg c).channels.get c).state.waits = false ∧
    ((z.inhibit cfg c).channels.get c).state.drives = false := by
  unfold Zone.inhibit
  split
  · next h => rw [h]; exact ⟨rfl, rfl⟩
  · rw [Zone.enter_get_self]; exact ⟨rfl, rfl⟩

theorem Zone.undervolt_calm : ((z.undervolt cfg c).channels.get c).state.waits = false ∧
    ((z.undervolt cfg c).channels.get c).state.drives = false := by
  unfold Zone.undervolt
  split
  case h_6 h1 h2 h3 h4 h5 =>
    cases h : (z.channels.get c).state with
    | unlocking a => exact absurd h (h1 a)
    | locking => exact absurd h h2
    | unlockWait a => exact absurd h (h3 a)
    | lockWait => exact absurd h h4
    | _ => exact ⟨rfl, rfl⟩
  all_goals rw [Zone.enter_get_self]; exact ⟨rfl, rfl⟩

theorem mem_members {g : Grp} {c : Chan} : c ∈ members g ↔ groupOf c = g := by
  simp [members, allChans]

/-- Every channel of the list is stopped, and left neither waiting nor driving. -/
theorem Zone.foldl_stops {op : Zone → Chan → Zone} (stops : ∀ (z : Zone) c, groupOf c = g → z.Stops E cfg g (op z c))
    (calm : ∀ (z : Zone) c, ((op z c).channels.get c).state.waits = false ∧ ((op z c).channels.get c).state.drives = false)
    (cs : List Chan) (hg : ∀ c ∈ cs, groupOf c = g) (z : Zone) :
    z.Stops E cfg g (cs.foldl op z) ∧ ∀ c ∈ cs, ((cs.foldl op z).channels.get c).state.waits = false ∧
      ((cs.foldl op z).channels.get c).state.drives = false := by
  induction cs generalizing z with
  | nil => exact ⟨.refl z, by simp⟩
  | cons c cs ih =>
    obtain ⟨rest, stopped⟩ := ih (fun d hd => hg d (by simp [hd])) (op z c)
    refine ⟨(stops z c (hg c (by simp))).trans rest, fun d hd => ?_⟩
    rcases List.mem_cons.mp hd with rfl | hd
    · exact rest.calm d (calm z d).1 (calm z d).2
    · exact stopped d hd

/-- A group whose arbiter is cleared and whose channels are all stopped is in order. -/
theorem Zone.Keeps.of_stops {f : Group → Group} (clear : ∀ x, (f x).queue = [])
    (h : (z.setGroup g f).Stops E cfg g z')
    (calm : ∀ c ∈ members g, (z'.channels.get c).state.waits = false ∧ (z'.channels.get c).state.drives = false) :
    z.Keeps E cfg z' := by
  have away : ∀ k, k ≠ g → z'.groups.get k = z.groups.get k := fun k hk => by
    rw [h.groups, Zone.setGroup_get_other _ _ _ _ hk]
  have empty : (z'.groups.get g).queue = [] := by rw [h.groups, Zone.setGroup_get_self, clear]
  refine ⟨.of_eq h.lanes, fun ⟨nodup, waits, slots⟩ => ⟨fun k => ?_, fun k d hd => ?_, fun d hd => ?_⟩,
    fun _ d hd => h.off d hd, fun e _ d hd => h.freed e d hd⟩
  · by_cases e : k = g
    · subst e; rw [empty]; exact .nil
    · rw [away k e]; exact nodup k
  · by_cases e : k = g
    · subst e; simp [empty] at hd
    · rw [away k e] at hd
      obtain ⟨hk, hw⟩ := waits k d hd
      exact ⟨hk, by rw [h.other d (by rw [hk]; exact e)]; exact hw⟩
  · by_cases e : groupOf d = g
    · simp [(calm d (mem_members.mpr e)).2] at hd
    · rw [h.other d e] at hd
      rw [away _ e]
      exact slots d hd

theorem Zone.inhibitGroup_keeps : z.Keeps E cfg (z.inhibitGroup cfg g) := by
  obtain ⟨stops, calm⟩ := Zone.foldl_stops (E := E) (cfg := cfg) (g := g) (op := fun z c => z.inhibit cfg c)
    (fun _ _ hc => Zone.inhibit_stops hc) (fun _ _ => Zone.inhibit_calm) (members g) (fun _ => mem_members.mp)
    (z.setGroup g (fun x => { x.clear with latch := true }))
  exact .of_stops (fun _ => rfl) stops calm

theorem Zone.railLow_keeps : z.Keeps E cfg (z.railLow cfg g) := by
  obtain ⟨stops, calm⟩ := Zone.foldl_stops (E := E) (cfg := cfg) (g := g) (op := fun z c => z.undervolt cfg c)
    (fun _ _ hc => Zone.undervolt_stops hc) (fun _ _ => Zone.undervolt_calm) (members g) (fun _ => mem_members.mp)
    (z.setGroup g (fun x => { x.clear with rail := .undervoltage, railCount := 0 }))
  exact .of_stops (fun _ => rfl) stops calm

/-! ## Recovery -/

theorem Zone.resume_keeps : z.Keeps E cfg (z.resume cfg c) := by
  unfold Zone.resume
  dsimp only
  split
  · next b h =>
    split
    · split
      · exact Zone.enter_keeps (by rw [h]; rfl) rfl (by simp [h]) (fun _ _ => rfl)
      · next hr =>
        exact (Zone.hold_keeps (by rw [h]; rfl) (fun _ f => hr (f.release (by simp [h]))) (by simp [h])).trans Zone.settle_keeps
    · exact (Zone.waitOpen_keeps (by rw [h]; rfl) (by simp [h])).trans Zone.settle_keeps
  · next h =>
    split
    · exact Zone.enter_keeps (by rw [h]; rfl) rfl (by simp [h]) (fun _ f => f.elim (by rw [h]; rfl))
    · exact (Zone.waitClose_keeps (by rw [h]; rfl) (fun _ => by rw [h]; rfl) (by simp [h])).trans Zone.settle_keeps
  · next h => exact Zone.enter_keeps (by rw [h]; rfl) rfl (by simp [h]) (fun _ _ => rfl)
  · exact .refl z

theorem Zone.recover_keeps : z.Keeps E cfg (z.recover cfg g) := Zone.foldl_keeps (fun _ _ => Zone.resume_keeps) _ _

/-- A channel that neither waits nor drives is placed by its bolt senses; no release claim has reached it (R67). -/
theorem Zone.place_keeps (hw : (z.channels.get c).state.waits = false) (ho : (z.channels.get c).state ≠ .off)
    (hs : E → ¬(z.channels.get c).freed cfg c) : z.Keeps E cfg (z.place cfg c) := by
  unfold Zone.place
  split
  · exact Zone.enter_keeps hw rfl ho (fun e f => absurd f (hs e))
  · split
    · exact Zone.enter_keeps hw rfl ho (fun e f => absurd f (hs e))
    · exact (Zone.hold_keeps hw hs ho).trans Zone.settle_keeps

theorem Zone.placeFaulted_keeps (h : (z.channels.get c).state = .fault) : z.Keeps E cfg (z.placeFaulted cfg c) := by
  have hw : (z.channels.get c).state.waits = false := by rw [h]; rfl
  unfold Zone.placeFaulted
  dsimp only
  split
  · split
    · exact Zone.enter_keeps hw rfl (by simp [h]) (fun _ _ => rfl)
    · exact (Zone.waitOpen_keeps hw (by simp [h])).trans Zone.settle_keeps
  · next hr => exact Zone.place_keeps hw (by simp [h]) (fun _ f => hr (f.release (by simp [h])))

end Sys2Proof.Machine
end

section
/-! The pieces of an event. Every step is a run of small changes of the state, each with what the spec's laws need to know of it: a
change of one block's records, the one write of the card table, the start and the end of an engagement (R15). The laws are then
proved for each change once. -/

namespace Sys2Proof.Machine

/-! ## What the laws read of lanes, tills and entries -/

/-- The card that an AUTHORISING till has taken. -/
def TillState.payer : TillState → Option CardNo
  | .authorising _ p _ => some p.card
  | _ => none

/-- No lane and no till engages the entry (R15). -/
def Entry.unengaged (e : Entry) : Prop := ∀ k, e.body = .known k → k.engaged = none

/-- The folio of the entry, if it names one, is `allowed` or loaded (R9). -/
def State.folioNamed (s : State) (k : Known) (allowed : Option Nat) : Prop :=
  ∀ slot, k.folio = some slot → allowed = some slot ∨ (tget s.folios slot).isSome = true

/-! ## The changes -/

/-- A change inside an event. `L`, `Z` and `A` say whether what it needs to know of the card table, of the zone and the part's phases,
and of the authority is known. -/
inductive Change (L Z A : Prop) : State → State → Prop
  /-- The blocks that no law reads. -/
  | aside {s t : State} (h : t = { s with
      pending := t.pending, samples := t.samples, free := t.free, pins := t.pins, store := t.store, save := t.save
      retention := t.retention, readers := t.readers, bus := t.bus, deadline := t.deadline, clock := t.clock }) : Change L Z A s t
  | link {s : State} {k : Link} (law : s.link.law → k.law) : Change L Z A s { s with link := k }
  | alarms {s : State} {al : AlarmList} (law : s.alarms.law → al.law) : Change L Z A s { s with alarms := al }
  | journal {s : State} {j : Journal} (law : s.journal.law → j.law) : Change L Z A s { s with journal := j }
  /-- A folio record written: its references stay, and its spent stays within its allowance (R113, R115, R139). -/
  | putFolio {s : State} {slot : Nat} {f : Folio} (place : slot < Config.folioSlots ∨ (tget s.folios slot).isSome = true)
      (refs : f.refs = (tget s.folios slot).elim 0 Folio.refs)
      (bound : (∀ old, tget s.folios slot = some old → old.spent ≤ old.allowance) → f.spent ≤ f.allowance) :
      Change L Z A s { s with folios := tput slot f s.folios }
  /-- A folio to which no entry refers is deleted (R114). -/
  | dropFolio {s : State} {slot : Nat} (refs : ∀ f, tget s.folios slot = some f → f.refs = 0) :
      Change L Z A s { s with folios := tdel slot s.folios }
  | setup {s : State} {cfg : Setup} (kinds : Z → ∀ c, cfg.kind c = s.setup.kind c) : Change L Z A s { s with setup := cfg }
  | mode {s : State} {m : OpMode} (evac : Z → s.evac.state = .evacuation → m = .normal) : Change L Z A s { s with mode := m }
  | evac {s : State} {e : Evac}
      (state : Z → e.state = s.evac.state ∨ e.state = .normal ∨ (e.state = .recovery ∧ s.phase = .running)) :
      Change L Z A s { s with evac := e }
  | phase {s : State} {p : Phase} (runs : Z → (p = .running ↔ s.phase = .running)) : Change L Z A s { s with phase := p }
  | authority {s : State} {a : Authority} (stands : A → a = .standalone → s.authority = .standalone) :
      Change L Z A s { s with authority := a }
  | zone {s : State} {z : Zone} (movers : s.zone.sameMovers z)
      (keeps : Z → s.zone.Keeps (s.evac.state = .evacuation) s.setup z) : Change L Z A s { s with zone := z }
  /-- Tills change, and the charges they wait on stay; a charge is opened in the running part outside evacuation alone. -/
  | tills {s : State} {ts : Vector Till 8} (payers : ∀ t, (ts.get t).state.payer = (s.tills.get t).state.payer)
      (idle : Z → (s.phase = .running ∧ s.evac.state ≠ .evacuation) ∨
        ∀ t, (s.tills.get t).state = .idle → (ts.get t).state = .idle) : Change L Z A s { s with tills := ts }
  /-- A known entry is written again, with its engagement. -/
  | rewrite {s : State} {i : Nat} {card : CardNo} {k k' : Known} (found : tget s.cards i = some ⟨card, .known k⟩)
      (engaged : k'.engaged = k.engaged) (folio : s.folioNamed k' k.folio) :
      Change L Z A s (s.setEntry i (some ⟨card, .known k'⟩))
  /-- A card with no entry gets one, in a way of its bucket that is free or holds an unengaged entry (R7). -/
  | insert {s : State} {i : Nat} {card : CardNo} {k : Known} (absent : lookup s.cards card = none) (way : i ∈ wayIndexes card)
      (free : ∀ e, tget s.cards i = some e → e.unengaged) (engaged : k.engaged = none) (folio : s.folioNamed k none) :
      Change L Z A s (s.setEntry i (some ⟨card, .known k⟩))
  /-- A pending entry is created while the host holds its lease (R10). -/
  | query {s : State} {i : Nat} {card : CardNo} {h : Held} (absent : lookup s.cards card = none) (way : i ∈ wayIndexes card)
      (free : tget s.cards i = none) (online : s.authority ≠ .standalone) :
      Change L Z A s (s.setEntry i (some ⟨card, .pending h⟩))
  /-- A pending entry is filled in place (R11). -/
  | resolve {s : State} {i : Nat} {card : CardNo} {h : Held} {k : Known} (found : tget s.cards i = some ⟨card, .pending h⟩)
      (engaged : k.engaged = none) (folio : s.folioNamed k none) : Change L Z A s (s.setEntry i (some ⟨card, .known k⟩))
  | remove {s : State} {i : Nat} (unengaged : L → ∀ e, tget s.cards i = some e → e.unengaged) :
      Change L Z A s (s.setEntry i none)
  /-- The query hold timers of the pending entries go down. -/
  | hold {s : State} : Change L Z A s { s with cards := s.cards.map (fun x => (x.1, x.2.tick)) }
  /-- A lane takes a card (R92). -/
  | accept {s : State} {l : LaneNo} {m : Movement} {k : Known} (ready : (s.zone.lanes.get l).state.mover = none)
      (known : s.known m.card = some k) (engaged : k.engaged = none) :
      Change L Z A s ((s.onZone (·.setLane l (fun x => { x with state := .released m }))).changeKnown m.card
        (fun k => { k with engaged := some (.movement l) }))
  /-- The movement of a lane, if it holds one, ends, and its card is disengaged (R95, R97). -/
  | alight {s : State} {l : LaneNo} {lanes : Vector Lane 4} {card : CardNo} {f : Known → Known}
      (mover : (s.zone.lanes.get l).state.mover = none ∨ (s.zone.lanes.get l).state.mover = some card)
      (ended : (lanes.get l).state.mover = none)
      (other : ∀ k, k ≠ l → (lanes.get k).state.mover = (s.zone.lanes.get k).state.mover)
      (change : ∀ k, (f k).folio = k.folio ∧ (f k).engaged = if k.engaged = some (.movement l) then none else k.engaged) :
      Change L Z A s ({ s with zone := { s.zone with lanes := lanes } }.changeKnown card f)
  /-- A till refers the charge of a card to the host (R125). -/
  | refer {s : State} {t : TillNo} {c : Charge} {p : Payer} {left : Nat} {k : Known}
      (armed : ∃ c left, (s.tills.get t).state = .armed c left) (known : s.known p.card = some k) (engaged : k.engaged = none)
      (online : s.authority ≠ .standalone) :
      Change L Z A s ((s.setTill t (fun x => { x with state := .authorising c p left })).changeKnown p.card
        (fun k => { k with engaged := some (.charge t) }))
  /-- The charge of a till ends, and the card it took, if it took one, is disengaged (R124). -/
  | settle {s : State} {t : TillNo} {last : Option LastOutcome} {card : CardNo}
      (payer : (s.tills.get t).state.payer = none ∨ (s.tills.get t).state.payer = some card) :
      Change L Z A s ((s.setTill t (fun x => { x with state := .idle, last := last })).disengage card (.charge t))
  /-- A start with no retained collections (R197). -/
  | restart {s : State} {cfg : Setup} {store : SetupStore} {info : StartInfo} : Change L Z A s (s.restarted cfg store info)
  /-- A start that keeps the retained collections (R26, R131, R197). -/
  | keep {s : State} {cfg : Setup} {store : SetupStore} {info : StartInfo} :
      Change L Z A s (State.keep s (s.restarted cfg store info))

variable {L Z A L' Z' A' : Prop}

/-- A change of which more is known is a change of which less is known. -/
theorem Change.mono {s t : State} (hL : L' → L) (hZ : Z' → Z) (hA : A' → A) (h : Change L Z A s t) : Change L' Z' A' s t := by
  cases h with
  | aside h => exact .aside h
  | link law => exact .link law
  | alarms law => exact .alarms law
  | journal law => exact .journal law
  | putFolio place refs bound => exact .putFolio place refs bound
  | dropFolio refs => exact .dropFolio refs
  | setup kinds => exact .setup (kinds ∘ hZ)
  | mode evac => exact .mode (evac ∘ hZ)
  | evac state => exact .evac (state ∘ hZ)
  | phase runs => exact .phase (runs ∘ hZ)
  | authority stands => exact .authority (stands ∘ hA)
  | zone movers keeps => exact .zone movers (keeps ∘ hZ)
  | tills payers idle => exact .tills payers (idle ∘ hZ)
  | rewrite found engaged folio => exact .rewrite found engaged folio
  | insert absent way free engaged folio => exact .insert absent way free engaged folio
  | query absent way free online => exact .query absent way free online
  | resolve found engaged folio => exact .resolve found engaged folio
  | remove unengaged => exact .remove (unengaged ∘ hL)
  | hold => exact .hold
  | accept ready known engaged => exact .accept ready known engaged
  | alight mover ended other change => exact .alight mover ended other change
  | refer armed known engaged online => exact .refer armed known engaged online
  | settle payer => exact .settle payer
  | restart => exact .restart
  | keep => exact .keep

/-- A run of changes. -/
abbrev Steps (L Z A : Prop) : State → State → Prop := Relation.ReflTransGen (Change L Z A)

/-- A property that every change keeps holds after a run. -/
theorem Steps.induct {P : State → Prop} (keeps : ∀ s t, Change L Z A s t → P s → P t) {s t : State} (h : Steps L Z A s t)
    (hs : P s) : P t := by
  induction h with
  | refl => exact hs
  | tail _ step ih => exact keeps _ _ step ih

/-- One operation for each of several things. -/
theorem Steps.foldl {α : Type} {op : State → α → State} (h : ∀ s x, Steps L Z A s (op s x)) (xs : List α) (s : State) :
    Steps L Z A s (xs.foldl op s) := by
  induction xs generalizing s with
  | nil => exact .refl
  | cons x xs ih => exact (h s x).trans (ih _)

end Sys2Proof.Machine
end

section
/-! The laws of the host link, the alarm list and the journal are kept by each operation of theirs (R81, R84, R133, R134, R177, R178,
R180). -/

namespace Sys2Proof.Machine

/-! ## The host link -/

theorem Link.law.notify {k : Link} (h : k.law) (n : Notice) : (k.notify n).law := by
  obtain ⟨queue, busy, notices⟩ := h
  exact ⟨by simpa using queue, by simpa using busy, Link.notify_bound n k notices⟩

theorem Link.law.handUp {k : Link} (h : k.law) (f : Frame) : (k.handUp f).law := by
  obtain ⟨queue, busy, notices⟩ := h
  unfold Link.handUp
  split
  · next room => exact ⟨by simpa using room, busy, notices⟩
  · split
    · next room => exact ⟨queue, by simpa using room, notices⟩
    · exact ⟨queue, busy, notices⟩

theorem Link.law.answer {k : Link} (h : k.law) (f : Frame) (r : Reply) : (k.answer f r).law := by
  obtain ⟨queue, busy, notices⟩ := h
  exact ⟨by simpa using queue, busy, notices⟩

theorem takeAnswered_length {q q' : List QueueEntry} {b : Built} (h : takeAnswered q = some (b, q')) :
    q.length = q'.length + 1 := by
  induction q generalizing b q' with
  | nil => simp [takeAnswered] at h
  | cons e q ih =>
    cases e with
    | answered a =>
      simp only [takeAnswered, Option.some.injEq, Prod.mk.injEq] at h
      rw [← h.2, List.length_cons]
    | waiting f =>
      simp only [takeAnswered, Option.map_eq_some_iff, Prod.mk.injEq] at h
      obtain ⟨⟨b', q''⟩, taken, -, rfl⟩ := h
      rw [List.length_cons, ih taken, List.length_cons]

theorem Link.law.takeNotice {k k' : Link} {f : Frame} (h : k.law) (taken : k.takeNotice = some (f, k')) : k'.law := by
  obtain ⟨queue, busy, notices⟩ := h
  unfold Link.takeNotice at taken
  split at taken
  · simp at taken
  · next n ns hn =>
    simp only [Option.some.injEq, Prod.mk.injEq] at taken
    obtain ⟨-, rfl⟩ := taken
    rw [hn, List.length_cons] at notices
    exact ⟨queue, busy, Nat.le_of_succ_le notices⟩

theorem Link.law.queue_of_taken {k : Link} (h : k.law) {b : Built} {q : List QueueEntry} (e : takeAnswered k.queue = some (b, q)) :
    { k with queue := q }.law := by
  obtain ⟨queue, busy, notices⟩ := h
  rw [takeAnswered_length e] at queue
  exact ⟨Nat.le_of_succ_le queue, busy, notices⟩

theorem Link.law.busy_of_taken {k : Link} (h : k.law) {b : Built} {bs : List Built} (e : k.busy = b :: bs) :
    { k with busy := bs }.law := by
  obtain ⟨queue, busy, notices⟩ := h
  rw [e, List.length_cons] at busy
  exact ⟨queue, Nat.le_of_succ_le busy, notices⟩

theorem Link.law.nextFrame {k k' : Link} {f : Frame} (h : k.law) (next : k.nextFrame = some (f, k')) : k'.law := by
  unfold Link.nextFrame at next
  split at next
  · exact h.takeNotice next
  · split at next
    · next b q e _ =>
      obtain ⟨-, rfl⟩ := Prod.mk.inj (Option.some.inj next)
      exact h.queue_of_taken e
    · next b bs _ e =>
      obtain ⟨-, rfl⟩ := Prod.mk.inj (Option.some.inj next)
      exact h.busy_of_taken e
    · next a q b bs e e' =>
      split at next
      · obtain ⟨-, rfl⟩ := Prod.mk.inj (Option.some.inj next)
        exact h.queue_of_taken e
      · obtain ⟨-, rfl⟩ := Prod.mk.inj (Option.some.inj next)
        exact h.busy_of_taken e'
    · exact h.takeNotice next

theorem Link.law.transmit {k : Link} (h : k.law) : k.transmit.law := by
  unfold Link.transmit
  split
  · split
    · next f k' next => exact (h.nextFrame next : k'.law)
    · exact h
  · exact h

theorem Link.law.leadWith {k : Link} (h : k.law) (ns : List Notice) : (k.leadWith ns).law :=
  ⟨h.1, h.2.1, by simp [Link.leadWith]⟩

/-! ## The alarm list -/

theorem repeatAlarm_alarms (a : Alarm) (now : ShipTime) (rs : List AlarmRecord) :
    (repeatAlarm a now rs).map AlarmRecord.alarm = rs.map AlarmRecord.alarm := by
  rw [repeatAlarm, List.map_map]
  refine List.map_congr_left fun r _ => ?_
  simp only [Function.comp_apply]
  split <;> rfl

theorem AlarmList.law.take {al : AlarmList} (h : al.law) (a : Alarm) (now : ShipTime) : (al.take a now).1.law := by
  obtain ⟨size, nodup, overflow⟩ := h
  rcases AlarmList.take_cases a now al with ⟨r, -, -, e⟩ | ⟨new, room, e⟩ | ⟨-, full, e⟩ <;> rw [e]
  · exact ⟨by simpa [repeatAlarm] using size, by simpa [repeatAlarm_alarms] using nodup, by simpa [repeatAlarm] using overflow⟩
  · refine ⟨by simpa using room, ?_, fun o => absurd (overflow o) room.ne⟩
    rw [List.map_append]
    refine nodup.append (by simp) ?_
    simpa [List.mem_map] using new
  · exact ⟨size, nodup, fun _ => le_antisymm size full⟩

theorem AlarmList.law.keep {al : AlarmList} (h : al.law) (p : AlarmRecord → Bool) : (al.keep p).law := by
  obtain ⟨size, nodup, -⟩ := h
  have fewer : (al.records.filter p).length ≤ Config.alarmPlaces := (List.length_filter_le p _).trans size
  refine ⟨fewer, nodup.sublist ((List.filter_sublist).map _), fun o => ?_⟩
  simp only [AlarmList.keep, Bool.and_eq_true, decide_eq_true_eq] at o
  exact le_antisymm fewer o.2

/-! ## The journal: the sequences as a range -/

/-- The sequence at each place, counted from the newest, is what the law of the journal says: the entries carry a run of sequences. -/
theorem Journal.law_iff {j : Journal} : j.law ↔
    j.entries.length ≤ Config.journalPlaces ∧ 1 ≤ j.next ∧ j.next ≤ Config.lastSequence ∧
      (j.exhausted = true → j.next = Config.lastSequence) ∧
      ∀ k e, j.entries[k]? = some e → e.seq + (j.entries.length - k) = j.next + (if j.exhausted then 1 else 0) := by
  unfold Journal.law
  refine and_congr_right fun _ => and_congr_right fun _ => and_congr_right fun _ => and_congr_right fun _ => ?_
  constructor
  · intro h k e hk
    obtain ⟨lt, rfl⟩ := List.getElem?_eq_some_iff.mp hk
    simpa using h ⟨k, lt⟩
  · intro h k
    simpa using h k.val _ (List.getElem?_eq_getElem k.isLt)

theorem Journal.law.write {j : Journal} (h : j.law) (room : j.full = false) (e : JournalEntry) (seq : e.seq = j.next) :
    (j.write e).law := by
  obtain ⟨size, low, high, exhausted, run⟩ := Journal.law_iff.mp h
  have full := mt (Journal.full_iff j).mpr (by simp [room])
  obtain ⟨places, notExhausted⟩ := not_or.mp full
  have clear : j.exhausted = false := by simpa using notExhausted
  simp only [clear] at run
  have entries : ∀ k x, (j.entries ++ [e])[k]? = some x →
      x.seq + ((j.entries ++ [e]).length - k) = j.next + 1 := by
    intro k x hk
    rw [List.length_append, List.length_singleton]
    rcases Nat.lt_or_ge k j.entries.length with lt | ge
    · rw [List.getElem?_append_left lt] at hk
      have := run k x hk
      simp only [Bool.false_eq_true, if_false, Nat.add_zero] at this
      omega
    · rw [List.getElem?_append_right ge, List.getElem?_singleton] at hk
      split at hk
      · obtain rfl := Option.some.inj hk
        omega
      · simp at hk
  have fits : (j.entries ++ [e]).length ≤ Config.journalPlaces := by
    rw [List.length_append, List.length_singleton]
    exact Nat.lt_of_not_le places
  unfold Journal.write
  split
  · next last => exact Journal.law_iff.mpr ⟨fits, low, high, fun _ => last, fun k x hk => by simpa using entries k x hk⟩
  · next last =>
    exact Journal.law_iff.mpr ⟨fits, by simp, Nat.lt_of_le_of_ne high last, fun o => by simp [clear] at o,
      fun k x hk => by simpa [clear] using entries k x hk⟩

/-- A release drops a run of the oldest entries (R137). -/
theorem filter_eq_drop {α : Type} (p : α → Bool) (l : List α)
    (up : ∀ k x y, l[k]? = some x → l[k + 1]? = some y → p x = true → p y = true) : ∃ n, l.filter p = l.drop n := by
  induction l with
  | nil => exact ⟨0, rfl⟩
  | cons x l ih =>
    obtain ⟨n, hn⟩ := ih fun k y z hy hz => up (k + 1) y z (List.getElem?_cons_succ.trans hy) (List.getElem?_cons_succ.trans hz)
    cases hp : p x with
    | false => exact ⟨n + 1, by rw [List.filter_cons_of_neg (by simp [hp]), hn, List.drop_succ_cons]⟩
    | true =>
      have all : ∀ (k : Nat) (y : α), (x :: l)[k]? = some y → p y = true := by
        intro k
        induction k with
        | zero => intro y hy; simp only [List.getElem?_cons_zero, Option.some.injEq] at hy; rw [← hy, hp]
        | succ k ih' =>
          intro y hy
          have lt : k < (x :: l).length := Nat.lt_of_succ_lt (List.getElem?_eq_some_iff.mp hy).1
          exact up k _ y (List.getElem?_eq_getElem lt) hy (ih' _ (List.getElem?_eq_getElem lt))
      refine ⟨0, ?_⟩
      rw [List.drop_zero, List.filter_eq_self]
      intro y hy
      obtain ⟨k, hk⟩ := List.mem_iff_getElem?.mp hy
      exact all k y hk

theorem Journal.law.release {j : Journal} (h : j.law) (point : Nat) : (j.release point).law := by
  obtain ⟨size, low, high, exhausted, run⟩ := Journal.law_iff.mp h
  obtain ⟨n, hn⟩ := filter_eq_drop (fun e : JournalEntry => decide (point < e.seq)) j.entries (by
    intro k x y hx hy hp
    have rx := run k x hx
    have ry := run (k + 1) y hy
    have := (List.getElem?_eq_some_iff.mp hy).1
    simp only [decide_eq_true_eq] at hp ⊢
    omega)
  have entries : (j.release point).entries = j.entries.drop n := hn
  refine Journal.law_iff.mpr ⟨?_, low, high, exhausted, ?_⟩
  · rw [entries, List.length_drop]
    omega
  · intro k e hk
    rw [entries, List.getElem?_drop] at hk
    have := run _ e hk
    have := (List.getElem?_eq_some_iff.mp hk).1
    rw [entries, List.length_drop]
    show _ = j.next + (if j.exhausted then 1 else 0)
    omega

theorem Journal.law.void {j : Journal} (h : j.law) (seq : Nat) : (j.void seq).law := by
  obtain ⟨size, low, high, exhausted, run⟩ := Journal.law_iff.mp h
  refine Journal.law_iff.mpr ⟨by simpa [Journal.void] using size, low, high, exhausted, fun k e hk => ?_⟩
  simp only [Journal.void, List.getElem?_map, Option.map_eq_some_iff] at hk
  obtain ⟨e', he', rfl⟩ := hk
  have kept : (if e'.seq = seq then { e' with voided := true } else e').seq = e'.seq := by split <;> rfl
  rw [kept, Journal.void, List.length_map]
  exact run k e' he'

end Sys2Proof.Machine
end

section
/-! What the operations of each block come to: each is a run of changes. -/

namespace Sys2Proof.Machine

variable {L Z A : Prop} {s : State}

theorem Change.steps {s t : State} (h : Change L Z A s t) : Steps L Z A s t := .single h

/-! ## Readers, notices and alarms -/

theorem State.setReader_steps (r : ReaderNo) (f : Reader → Reader) : Steps L Z A s (s.setReader r f) := .single (.aside rfl)

theorem State.notify_steps (n : Notice) : Steps L Z A s (s.notify n) := .single (.link fun law => law.notify n)

theorem State.closeDecision_steps (r : ReaderNo) (card : CardNo) (p : Pattern) : Steps L Z A s (s.closeDecision r card p) :=
  State.setReader_steps _ _

theorem State.waitDecision_steps (r : ReaderNo) (card : CardNo) (arrival : ShipTime) (stage : Stage) :
    Steps L Z A s (s.waitDecision r card arrival stage) := State.setReader_steps _ _

theorem State.tap_steps (r : ReaderNo) (card : CardNo) (v : Verdict) (arrival : ShipTime) (queried : Bool) :
    Steps L Z A s (s.tap r card v arrival queried) := State.notify_steps _

theorem State.finish_steps (r : ReaderNo) (card : CardNo) (arrival : ShipTime) (queried : Bool) (v : Verdict) :
    Steps L Z A s (s.finish r card arrival queried v) :=
  (State.tap_steps r card v arrival queried).trans (State.closeDecision_steps _ _ _)

theorem State.raise_steps (a : Alarm) : Steps L Z A s (s.raise a) := by
  unfold State.raise
  split
  · exact (Change.alarms fun law => law.take a s.clock.time).steps.trans (State.notify_steps _)
  · exact .refl

theorem State.close_steps : Steps L Z A s s.close := by
  unfold State.close
  split
  · exact .single (.link fun law => law.transmit)
  · exact .refl

theorem State.relockTest_steps : Steps L Z A s s.relockTest := by
  unfold State.relockTest
  split
  · exact (Change.evac fun _ => .inr (.inl rfl)).steps.trans (State.notify_steps _)
  · exact .refl

theorem State.closeZone_steps : Steps L Z A s s.closeZone := State.relockTest_steps.trans State.close_steps

/-! ## The zone -/

theorem State.onZone_steps {f : Zone → Zone} (h : ∀ E, s.zone.Keeps E s.setup (f s.zone)) : Steps L Z A s (s.onZone f) :=
  .single (.zone (h True).movers fun _ => h _)

theorem State.setLane_steps {l : LaneNo} {f : Lane → Lane}
    (h : (f (s.zone.lanes.get l)).state.mover = (s.zone.lanes.get l).state.mover) :
    Steps L Z A s (s.onZone (·.setLane l f)) := State.onZone_steps fun _ => .setLane h

/-- A change of a channel's record that is neither its state nor its release marker. -/
theorem State.setChan_steps {c : Chan} {f : Channel → Channel}
    (h : ∀ ch, (f ch).state = ch.state ∧ (f ch).release = ch.release := by exact fun _ => ⟨rfl, rfl⟩) :
    Steps L Z A s (s.onZone (·.setChan c f)) :=
  State.onZone_steps fun _ => .setChan (fun ch => (h ch).1) (fun ch => (h ch).2)

/-! ## The card table -/

/-- What a lookup finds is an entry of the card. -/
theorem card_of_lookup {cards : List (Nat × Entry)} {card : CardNo} {i : Nat} {e : Entry}
    (h : lookup cards card = some (i, e)) : e.card = card := by
  obtain ⟨j, -, found⟩ := List.exists_of_findSome?_eq_some h
  cases hj : tget cards j with
  | none => simp [hj] at found
  | some e' =>
    simp only [hj, Option.ite_none_right_eq_some, Option.some.injEq, Prod.mk.injEq] at found
    obtain ⟨hc, -, rfl⟩ := found
    exact hc

/-- The entry that a lookup finds, written again for its card, is found in its place. -/
theorem lookup_tput {cards : List (Nat × Entry)} {card : CardNo} {i : Nat} {e e' : Entry}
    (h : lookup cards card = some (i, e)) (hc : e'.card = card) : lookup (tput i e' cards) card = some (i, e') := by
  unfold lookup at h ⊢
  generalize wayIndexes card = ways at h ⊢
  induction ways with
  | nil => simp at h
  | cons j ways ih =>
    rw [List.findSome?_cons] at h ⊢
    by_cases hj : j = i
    · subst hj
      simp [hc]
    · rw [tget_tput_other i j e' cards hj]
      cases hg : tget cards j with
      | none =>
        simp only [hg] at h ⊢
        exact ih h
      | some x =>
        simp only [hg] at h ⊢
        by_cases hx : x.card = card
        · simp only [hx, if_true, Option.some.injEq, Prod.mk.injEq] at h
          exact absurd h.1 hj
        · simp only [hx, if_false] at h ⊢
          exact ih h

theorem State.known_of_lookup {card d : CardNo} {i : Nat} {k : Known} (h : lookup s.cards card = some (i, ⟨d, .known k⟩)) :
    s.known card = some k := by
  rw [State.known, h]

theorem State.folioNamed_same (k : Known) : s.folioNamed k k.folio := fun _ h => .inl h

/-- The known entry that a lookup finds is written again with its engagement and its folio. -/
theorem State.rewrite_steps {i : Nat} {card d : CardNo} {k k' : Known} (h : lookup s.cards card = some (i, ⟨d, .known k⟩))
    (engaged : k'.engaged = k.engaged) (folio : s.folioNamed k' k.folio) :
    Steps L Z A s (s.setEntry i (some ⟨card, .known k'⟩)) := by
  obtain rfl : d = card := card_of_lookup h
  exact .single (.rewrite (tget_of_lookup h) engaged folio)

theorem State.changeKnown_steps {card : CardNo} {f : Known → Known} (engaged : ∀ k, (f k).engaged = k.engaged)
    (folio : ∀ k, (f k).folio = k.folio) : Steps L Z A s (s.changeKnown card f) := by
  unfold State.changeKnown
  split
  · next i d k h => exact State.rewrite_steps h (engaged k) (by rw [← folio k]; exact State.folioNamed_same _)
  · exact .refl

theorem Entry.unengaged_pending (card : CardNo) (h : Held) : Entry.unengaged ⟨card, .pending h⟩ := fun _ e => by simp at e

theorem Entry.unengaged_known {card : CardNo} {k : Known} (h : k.engaged = none) : Entry.unengaged ⟨card, .known k⟩ := by
  rintro _ ⟨⟩
  exact h

/-! ## Lanes -/

theorem State.acceptLane_steps {l : LaneNo} {card : CardNo} {dir : Dir} {arrival : ShipTime} {k : Known}
    (ready : (s.zone.lanes.get l).state.mover = none) (known : s.known card = some k) (engaged : k.engaged = none) :
    Steps L Z A s (s.acceptLane l card dir arrival) :=
  (Change.accept (m := ⟨card, dir, arrival, none⟩) ready known engaged).steps.trans
    (State.onZone_steps fun _ => Zone.openClaim_keeps)

theorem Lane.countCommit_state (dir : Dir) (x : Lane) : (x.countCommit dir).state = x.state := by cases dir <;> rfl

/-- The lane of a movement leaves it, and its card is committed. -/
theorem State.commitCard_steps {l : LaneNo} {lanes : Vector Lane 4} {card : CardNo} {dir : Dir} {accepted : ShipTime} {evac : Bool}
    (mover : (s.zone.lanes.get l).state.mover = none ∨ (s.zone.lanes.get l).state.mover = some card)
    (ended : (lanes.get l).state.mover = none)
    (other : ∀ k, k ≠ l → (lanes.get k).state.mover = (s.zone.lanes.get k).state.mover) :
    Steps L Z A s ({ s with zone := { s.zone with lanes := lanes } }.commitCard l card dir accepted evac) := by
  unfold State.commitCard
  refine .trans (.trans (.single (.alight mover ended other ?_)) (State.setLane_steps ?_)) (State.notify_steps _)
  · exact fun _ => ⟨rfl, rfl⟩
  · rw [Lane.countCommit_state]

theorem LaneState.ended_mover {st : LaneState} (h : st.movement.isSome = true) : st.ended.mover = none := by
  cases st <;> simp [LaneState.movement] at h <;> rfl

theorem LaneState.mover_of_movement {st : LaneState} {m : Movement} (h : st.movement = some m) : st.mover = some m.card := by
  rw [LaneState.mover, h]; rfl

theorem State.commit_steps {l : LaneNo} {m : Movement} (h : (s.zone.lanes.get l).state.movement = some m) :
    Steps L Z A s (s.commit l m) := by
  unfold State.commit
  refine .trans (State.commitCard_steps (lanes := vmod s.zone.lanes l (fun x => { x with state := x.state.ended }))
    (.inr (LaneState.mover_of_movement h)) ?_ fun k hk => ?_) (State.onZone_steps fun _ => Zone.relockClaim_keeps)
  · rw [vget_vmod_self]
    exact LaneState.ended_mover (by simp [h])
  · rw [vget_vmod_other _ _ _ _ hk]

theorem State.abandon_steps {l : LaneNo} {m : Movement} {cause : AbandonCause} {after : LaneState}
    (h : (s.zone.lanes.get l).state.movement = some m) (ended : after.mover = none) :
    Steps L Z A s (s.abandon l m cause after) := by
  unfold State.abandon
  refine .trans (.trans (.single (.alight (l := l) (card := m.card)
    (lanes := vmod s.zone.lanes l (fun x => { x with state := after, abandoned := satInc x.abandoned }))
    (.inr (LaneState.mover_of_movement h)) ?_ (fun k hk => ?_) (fun k => ?_))) (State.notify_steps _))
    (State.onZone_steps fun _ => Zone.relockClaim_keeps)
  · rw [vget_vmod_self]
    exact ended
  · rw [vget_vmod_other _ _ _ _ hk]
  · split
    · exact ⟨rfl, rfl⟩
    · exact ⟨rfl, rfl⟩

theorem State.abandonMovement_steps (l : LaneNo) (cause : AbandonCause) : Steps L Z A s (s.abandonMovement l cause) := by
  unfold State.abandonMovement
  dsimp only
  split
  · next m h => exact State.abandon_steps h (LaneState.ended_mover (by simp [h]))
  · exact .refl

theorem State.unattributed_steps (l : LaneNo) : Steps L Z A s (s.unattributed l) :=
  (State.setLane_steps rfl).trans (State.raise_steps _)

theorem State.lanePassage_steps (l : LaneNo) : Steps L Z A s (s.lanePassage l) := by
  unfold State.lanePassage
  split
  · next m h => exact State.commit_steps (by rw [h]; rfl)
  · next m h => exact State.commit_steps (by rw [h]; rfl)
  · exact State.unattributed_steps l
  · exact State.unattributed_steps l
  · exact .refl

theorem State.passage_steps (c : Chan) : Steps L Z A s (s.passage c) := by
  unfold State.passage
  split
  · exact .refl
  · exact State.lanePassage_steps _
  · exact .refl

theorem State.evacuateLane_steps (l : LaneNo) : Steps L Z A s (s.evacuateLane l) := by
  unfold State.evacuateLane
  dsimp only
  split
  · split
    · next m h => exact State.abandon_steps h rfl
    · next h =>
      refine State.setLane_steps ?_
      rw [LaneState.mover, LaneState.mover, h]
      rfl
  · exact .refl

theorem State.returnLane_steps (l : LaneNo) : Steps L Z A s (s.returnLane l) := by
  unfold State.returnLane
  split
  · split
    · next h => exact State.setLane_steps (by rw [h]; rfl)
    · next h => exact State.setLane_steps (by rw [h]; rfl)
    · exact .refl
  · exact .refl

theorem State.enterDeadline_steps (d : Deadline) : Steps L Z A s (s.enterDeadline d) :=
  .trans (.single (.aside rfl)) (State.notify_steps _)

theorem State.deadlineTick_steps : Steps L Z A s s.deadlineTick := by
  unfold State.deadlineTick
  split
  · exact .refl
  · exact .refl
  · split
    · exact State.enterDeadline_steps _
    · split
      · exact State.enterDeadline_steps _
      · exact .single (.aside rfl)
  · split
    · exact State.enterDeadline_steps _
    · exact .single (.aside rfl)

/-! ## Tills -/

/-- A till changes, and the charge that it waits on stays. -/
theorem State.setTill_steps {t : TillNo} {f : Till → Till} (payer : (f (s.tills.get t)).state.payer = (s.tills.get t).state.payer)
    (idle : Z → (s.phase = .running ∧ s.evac.state ≠ .evacuation) ∨
      ((s.tills.get t).state = .idle → (f (s.tills.get t)).state = .idle)) : Steps L Z A s (s.setTill t f) := by
  refine .single (.tills (fun u => ?_) fun z => ?_)
  · by_cases h : u = t
    · subst h; rw [vget_vmod_self]; exact payer
    · rw [vget_vmod_other _ _ _ _ h]
  · refine (idle z).imp id fun stays u hu => ?_
    by_cases h : u = t
    · subst h; rw [vget_vmod_self]; exact stays hu
    · rw [vget_vmod_other _ _ _ _ h]; exact hu

/-- A charge ends: the till waited for no card, or for the card that is disengaged. -/
theorem State.endCharge_steps {t : TillNo} {c : Charge} {o : ChargeOutcome} {taken : Option (CardNo × ReaderNo)} {slot : Option Nat}
    {ap : Option Approval}
    (payer : (s.tills.get t).state.payer = none ∨ (s.tills.get t).state.payer = taken.map Prod.fst) :
    Steps L Z A s (s.endCharge t c o taken slot ap) := by
  unfold State.endCharge
  dsimp only
  cases taken with
  | none =>
    have none : (s.tills.get t).state.payer = none := by simpa using payer
    exact (State.setTill_steps (by rw [none]; rfl) fun _ => .inr fun _ => rfl).trans (State.notify_steps _)
  | some x =>
    exact ((Change.settle payer).steps.trans (State.notify_steps _)).trans (State.closeDecision_steps _ _ _)

theorem State.endReferral_steps {t : TillNo} {c : Charge} {p : Payer} {o : ChargeOutcome}
    (payer : (s.tills.get t).state.payer = none ∨ (s.tills.get t).state.payer = some p.card) :
    Steps L Z A s (s.endReferral t c p o) := State.endCharge_steps payer

/-- A tier that draws on the allowance finds room in it (R115). -/
def State.drawsWithin (s : State) (tier : Tier) (slot amount : Nat) : Prop :=
  tier.drawsAllowance = true → ∀ f, tget s.folios slot = some f → amount ≤ f.allowance - f.spent

theorem State.raiseSpent_steps {slot amount : Nat} (room : ∀ f, tget s.folios slot = some f → amount ≤ f.allowance - f.spent) :
    Steps L Z A s { s with folios := changeFolio (fun f => { f with spent := f.spent + amount }) slot s.folios } := by
  unfold changeFolio
  split
  · next f found =>
    refine .single (.putFolio (.inr (by simp [found])) (by simp [found]) fun bound => ?_)
    have := bound f found
    have := room f found
    show f.spent + amount ≤ f.allowance
    omega
  · exact .refl

theorem State.chargeFolio_steps {tier : Tier} {slot amount : Nat} (room : s.drawsWithin tier slot amount) :
    Steps L Z A s (s.chargeFolio tier slot amount) := by
  cases tier with
  | localTier => exact .refl
  | referred => exact .refl
  | standIn => exact State.raiseSpent_steps (room rfl)
  | offline => exact State.raiseSpent_steps (room rfl)

theorem State.approve_steps {t : TillNo} {c : Charge} {card : CardNo} {r : ReaderNo} {slot : Nat} {tier : Tier}
    (payer : (s.tills.get t).state.payer = none ∨ (s.tills.get t).state.payer = some card)
    (room : s.drawsWithin tier slot c.amount) : Steps L Z A s (s.approve t c card r slot tier) := by
  unfold State.approve
  split
  · exact State.endCharge_steps payer
  · next full =>
    have written : ∀ e : JournalEntry, e.seq = s.journal.next →
        Steps L Z A s (({ s with journal := s.journal.write e }.chargeFolio tier slot c.amount).endCharge t c .approved
          (some (card, r)) (some slot) (some ⟨s.journal.next, tier⟩)) := fun e seq =>
      ((Change.journal fun law => law.write (by simpa using full) e seq).steps.trans (State.chargeFolio_steps room)).trans
        (State.endCharge_steps (by rw [State.chargeFolio_tills]; exact payer))
    have written := written ⟨s.journal.next, s.clock.time, !s.clock.valid, slot, card, t, c.amount, tier, c.ref, false⟩ rfl
    dsimp only
    split
    · exact written.trans (State.notify_steps _)
    · exact written

theorem State.refer_steps {t : TillNo} {c c' : Charge} {left : Nat} {card : CardNo} {r : ReaderNo} {arrival : ShipTime}
    {slot threshold : Nat} {k : Known} (armed : (s.tills.get t).state = .armed c' left) (known : s.known card = some k)
    (engaged : k.engaged = none) (online : s.authority ≠ .standalone) :
    Steps L Z A s (s.refer t c card r arrival slot threshold) := by
  unfold State.refer
  exact ((Change.refer (p := ⟨card, r, slot, threshold⟩) ⟨c', left, armed⟩ known engaged online).steps.trans
    (State.notify_steps _)).trans (State.waitDecision_steps _ _ _ _)

theorem State.tier_steps {t : TillNo} {c c' : Charge} {left : Nat} {card : CardNo} {r : ReaderNo} {arrival : ShipTime} {slot : Nat}
    {f : Folio} {k : Known} (armed : (s.tills.get t).state = .armed c' left) (known : s.known card = some k)
    (engaged : k.engaged = none) (found : tget s.folios slot = some f) : Steps L Z A s (s.tier t c card r arrival slot f) := by
  have payer : (s.tills.get t).state.payer = none := by rw [armed]; rfl
  unfold State.tier
  split
  · next n online =>
    split
    · exact State.approve_steps (.inl payer) (by simp [State.drawsWithin, Tier.drawsAllowance])
    · exact State.refer_steps armed known engaged (by simp [online])
  · split
    · next room => exact State.approve_steps (.inl payer) fun _ g hg => by rw [found] at hg; obtain rfl := Option.some.inj hg; exact room
    · exact State.endCharge_steps (.inl payer)

theorem State.takeCard_steps {t : TillNo} {c c' : Charge} {left : Nat} {card : CardNo} {r : ReaderNo} {arrival : ShipTime} {k : Known}
    (armed : (s.tills.get t).state = .armed c' left) (known : s.known card = some k) (engaged : k.engaged = none) :
    Steps L Z A s (s.takeCard t c card r arrival k) := by
  have payer : (s.tills.get t).state.payer = none := by rw [armed]; rfl
  unfold State.takeCard
  split
  · exact State.endCharge_steps (.inl payer)
  · split
    · next slot f found =>
      obtain ⟨slot', -, h⟩ := Option.bind_eq_some_iff.mp found
      obtain ⟨f', hf, e⟩ := Option.map_eq_some_iff.mp h
      obtain ⟨rfl, rfl⟩ := Prod.mk.inj e
      exact State.tier_steps armed known engaged hf
    · exact State.endCharge_steps (.inl payer)

theorem State.approveReferral_steps {t : TillNo} {c : Charge} {p : Payer} (payer : (s.tills.get t).state.payer = some p.card) :
    Steps L Z A s (s.approveReferral t c p) := by
  unfold State.approveReferral
  split
  · exact State.approve_steps (.inr payer) (by simp [State.drawsWithin, Tier.drawsAllowance])
  · exact State.endReferral_steps (.inr payer)

theorem State.standIn_steps (t : TillNo) : Steps L Z A s (s.standIn t) := by
  unfold State.standIn
  split
  · next c p left h =>
    have payer : (s.tills.get t).state.payer = some p.card := by rw [h]; rfl
    split
    · split
      · next f found =>
        split
        · next room =>
          exact State.approve_steps (.inr payer) fun _ g hg => by rw [found] at hg; obtain rfl := Option.some.inj hg; exact room
        · exact State.endReferral_steps (.inr payer)
      · exact State.endReferral_steps (.inr payer)
    · exact State.endReferral_steps (.inr payer)
  · exact .refl

theorem State.dropCharge_steps (t : TillNo) (o : ChargeOutcome) : Steps L Z A s (s.dropCharge t o) := by
  unfold State.dropCharge
  split
  · exact .refl
  · next c left h => exact State.endCharge_steps (.inl (by rw [h]; rfl))
  · next c p left h => exact State.endReferral_steps (.inr (by rw [h]; rfl))

/-! ## Presentations -/

/-- An ACCEPTED entry is not engaged, and its lane holds no movement (R40). -/
theorem State.verdict_accepted {role : Role} {k : Known} (h : s.verdict role k = .accepted) :
    k.engaged = none ∧ ∀ l, role = .laneOut l ∨ role = .laneIn l → (s.zone.lanes.get l).state.mover = none := by
  unfold State.verdict at h
  split at h
  · simp at h
  · next free =>
    refine ⟨by simpa using free, fun l hl => ?_⟩
    have lane : ∀ dir, s.laneVerdict l dir k = .accepted → (s.zone.lanes.get l).state.mover = none := by
      intro dir hv
      unfold State.laneVerdict at hv
      split at hv
      case h_5 ready => rw [ready]; rfl
      all_goals simp at hv
    have held : s.laneHeld l = true → (s.zone.lanes.get l).state.mover = none := by
      unfold State.laneHeld
      split
      · next r hr => intro _; rw [hr]; rfl
      · simp
    split at h
    · simp at h
    · split at h
      · simp at h
      · split at h
        · rcases hl with rfl | rfl
          · simp only [State.evacVerdict] at h
            by_cases hh : s.laneHeld l = true
            · exact held hh
            · simp [hh] at h
          · simp only [State.evacVerdict] at h
            by_cases hh : s.laneHeld l = true
            · exact held hh
            · simp [hh] at h
        · rcases hl with rfl | rfl
          · exact lane .out h
          · exact lane .in h

/-- Check 3: an entry with another verdict than DENIED_BUSY is not engaged (R30). -/
theorem State.verdict_unengaged {role : Role} {k : Known} (h : s.verdict role k ≠ .deniedBusy) : k.engaged = none := by
  unfold State.verdict at h
  split at h
  · exact absurd rfl h
  · next free => simpa using free

theorem State.acceptAt_steps {l : LaneNo} {dir : Dir} {card : CardNo} {arrival : ShipTime} {k : Known}
    (ready : (s.zone.lanes.get l).state.mover = none) (known : s.known card = some k) (engaged : k.engaged = none) :
    Steps L Z A s (s.acceptAt l dir card arrival) := by
  unfold State.acceptAt
  split
  · exact State.commitCard_steps (lanes := s.zone.lanes) (.inl ready) ready fun _ _ => rfl
  · exact State.acceptLane_steps ready known engaged

theorem State.chargeTaken_steps {t : TillNo} {r : ReaderNo} {card : CardNo} {arrival : ShipTime} {queried : Bool} {k : Known}
    (known : s.known card = some k) (engaged : k.engaged = none) :
    Steps L Z A s (s.chargeTaken t r card arrival queried k) := by
  unfold State.chargeTaken
  split
  · next c left armed =>
    exact (State.tap_steps _ _ _ _ _).trans (State.takeCard_steps (s := s.tap r card .chargeTaken arrival queried) armed known engaged)
  · exact State.finish_steps _ _ _ _ _

theorem State.decideKnown_steps {r : ReaderNo} {card : CardNo} {arrival : ShipTime} {queried : Bool} {k : Known}
    (known : s.known card = some k) : Steps L Z A s (s.decideKnown r card arrival queried k) := by
  unfold State.decideKnown
  generalize hv : s.verdict (s.readers.get r).role k = v
  generalize hr : (s.readers.get r).role = role at hv
  unfold State.conclude
  rw [hr]
  split
  · exact (State.finish_steps _ _ _ _ _).trans (State.onZone_steps fun _ => Zone.openClaim_keeps)
  · next l =>
    obtain ⟨engaged, ready⟩ := State.verdict_accepted hv
    exact (State.finish_steps _ _ _ _ _).trans
      (State.acceptAt_steps (s := s.finish r card arrival queried .accepted) (ready l (.inl rfl)) known engaged)
  · next l =>
    obtain ⟨engaged, ready⟩ := State.verdict_accepted hv
    exact (State.finish_steps _ _ _ _ _).trans
      (State.acceptAt_steps (s := s.finish r card arrival queried .accepted) (ready l (.inr rfl)) known engaged)
  · exact State.chargeTaken_steps known (State.verdict_unengaged (hv.trans_ne (by decide)))
  · exact (State.raise_steps _).trans (State.finish_steps _ _ _ _ _)
  · exact State.finish_steps _ _ _ _ _

theorem freeWay_spec {cards : List (Nat × Entry)} {card : CardNo} {i : Nat} (h : freeWay cards card = some i) :
    i ∈ wayIndexes card ∧ tget cards i = none :=
  ⟨List.mem_of_find?_eq_some h, by simpa using List.find?_some h⟩

theorem State.decideUnknown_steps {r : ReaderNo} {card : CardNo} {arrival : ShipTime} (absent : lookup s.cards card = none) :
    Steps L Z A s (s.decideUnknown r card arrival) := by
  unfold State.decideUnknown
  split
  · next online =>
    have online : s.authority ≠ .standalone := by
      intro h
      simp [h, Authority.isOnline] at online
    split
    · next i free =>
      obtain ⟨way, free⟩ := freeWay_spec free
      exact ((Change.query absent way free online).steps.trans (State.waitDecision_steps _ _ _ _)).trans (State.notify_steps _)
    · exact State.finish_steps _ _ _ _ _
  · exact State.finish_steps _ _ _ _ _

theorem State.decidePresentation_steps (r : ReaderNo) (card : CardNo) (arrival : ShipTime) :
    Steps L Z A s (s.decidePresentation r card arrival) := by
  unfold State.decidePresentation
  split
  · exact State.finish_steps _ _ _ _ _
  · split
    · next absent => exact State.decideUnknown_steps absent
    · exact State.finish_steps _ _ _ _ _
    · next found => exact State.decideKnown_steps (State.known_of_lookup found)

theorem State.denyQuery_steps {i : Nat} {card : CardNo} {h : Held} (unengaged : L → ∀ e, tget s.cards i = some e → e.unengaged) :
    Steps L Z A s (s.denyQuery i card h) := (Change.remove unengaged).steps.trans (State.finish_steps _ _ _ _ _)

theorem State.seen_steps (card : CardNo) : Steps L Z A s (s.seen card) :=
  State.changeKnown_steps (fun _ => rfl) (fun _ => rfl)

theorem State.present_steps (r : ReaderNo) (card : CardNo) : Steps L Z A s (s.present r card) := by
  unfold State.present
  dsimp only
  split
  · exact (State.seen_steps card).trans (State.setReader_steps _ _)
  · exact (State.seen_steps card).trans (State.decidePresentation_steps _ _ _)

/-! ## The minute tick at the card table -/

theorem State.agePosition_steps (i : Nat) : Steps L Z A s (s.agePosition i) := by
  unfold State.agePosition
  split
  · next card k found =>
    split
    · next ages =>
      have free : k.engaged = none := by
        simp only [Known.ages, Bool.and_eq_true, Option.isNone_iff_eq_none] at ages
        exact ages.2
      unfold Known.age
      dsimp only
      split
      · exact .single (.remove fun _ e he => by rw [found] at he; obtain rfl := Option.some.inj he; exact Entry.unengaged_known free)
      · exact .single (.rewrite (k' := { k with holder := k.holder.aged }) found rfl (State.folioNamed_same _))
    · exact .refl
  · exact .refl

theorem State.overstayPosition_steps (i : Nat) : Steps L Z A s (s.overstayPosition i) := by
  unfold State.overstayPosition
  split
  · next card k found =>
    split
    · exact (Change.rewrite (k' := { k with holder := k.holder.report }) found rfl (State.folioNamed_same _)).steps.trans
        (State.raise_steps _)
    · exact .refl
  · exact .refl

theorem State.ageCallers_steps : Steps L Z A s s.ageCallers :=
  (Steps.foldl (fun _ i => State.agePosition_steps i) _ _).trans (Steps.foldl (fun _ i => State.overstayPosition_steps i) _ _)

end Sys2Proof.Machine
end

section
/-! What the operations of the channels, the bus, the evacuation monitor, the setup and the starts come to. -/

namespace Sys2Proof.Machine

variable {L Z A : Prop} {s : State}

/-! ## Faults and rails -/

theorem State.applyScope_steps {c : Chan} (ho : (s.zone.channels.get c).state ≠ .off) (sc : Scope) :
    Steps L Z A s (s.applyScope c sc) := by
  cases sc with
  | isolate => exact State.onZone_steps fun _ => Zone.isolate_keeps ho
  | group => exact State.onZone_steps fun _ => Zone.inhibitGroup_keeps

theorem State.driveFault_steps (c : Chan) (k : FaultKind) : Steps L Z A s (s.driveFault c k) := by
  unfold State.driveFault
  split
  · split
    · exact State.abandonMovement_steps _ _
    · exact .refl
  · exact .refl

theorem State.takeFault_steps {c : Chan} (ho : (s.zone.channels.get c).state ≠ .off) (k : FaultKind) :
    Steps L Z A s (s.takeFault c k) := by
  unfold State.takeFault
  refine .trans (.trans (.trans State.setChan_steps (State.notify_steps _))
    (State.applyScope_steps (c := c) ?_ _)) (State.driveFault_steps _ _)
  simpa using ho

theorem State.fault_steps {c : Chan} (ho : (s.zone.channels.get c).state ≠ .off) (k : FaultKind) :
    Steps L Z A s (s.fault c k) := by
  unfold State.fault
  split
  · exact .refl
  · exact State.takeFault_steps ho k

theorem State.recoverGroup_steps (g : Grp) (report : Bool) : Steps L Z A s (s.recoverGroup g report) := by
  unfold State.recoverGroup
  dsimp only
  split
  · exact (State.notify_steps _).trans (State.onZone_steps fun _ => Zone.recover_keeps)
  · exact State.onZone_steps fun _ => Zone.recover_keeps

/-- A change of a group's protection. -/
theorem State.setGroup_steps {g : Grp} {f : Group → Group}
    (h : ∀ x, (f x).slot0 = x.slot0 ∧ (f x).slot1 = x.slot1 ∧ (f x).queue = x.queue := by exact fun _ => ⟨rfl, rfl, rfl⟩) :
    Steps L Z A s (s.onZone (·.setGroup g f)) :=
  State.onZone_steps fun _ => .setGroup (fun x => (h x).1) (fun x => (h x).2.1) (fun x => (h x).2.2)

theorem State.railToGood_steps (g : Grp) : Steps L Z A s (s.railToGood g) := by
  unfold State.railToGood
  have good : Steps L Z A s (s.onZone (·.setGroup g (fun x => { x with rail := .good, railCount := 0, railSettled := true }))) :=
    State.setGroup_steps
  dsimp only
  split
  · exact good
  · exact good.trans (State.recoverGroup_steps _ _)

theorem State.afterClear_steps (c : Chan) : Steps L Z A s (s.afterClear c) := by
  unfold State.afterClear
  have released : Steps L Z A s ((s.onZone (·.setGroup (groupOf c) (fun x => { x with latch := false }))).notify
      (.fault (groupOf c) none .latchReleased)) :=
    .trans State.setGroup_steps (State.notify_steps _)
  dsimp only
  split
  · split
    · split
      · exact released.trans (State.recoverGroup_steps _ _)
      · exact released
    · exact .refl
  · split
    · next h => exact State.onZone_steps fun _ => Zone.placeFaulted_keeps h.1
    · exact .refl

theorem State.clearFault_steps (c : Chan) : Steps L Z A s (s.clearFault c) :=
  .trans State.setChan_steps (State.afterClear_steps c)

/-! ## Senses, doors and inputs -/

theorem State.endDrive_steps (c : Chan) :
    Steps L Z A s (s.onZone (fun z => (z.endDrive s.setup c).settle s.setup c)) :=
  State.onZone_steps fun _ => Zone.endDrive_keeps.trans Zone.settle_keeps

theorem State.withdrawnSense_steps (c : Chan) (asserted : Bool) : Steps L Z A s (s.withdrawnSense c asserted) := by
  unfold State.withdrawnSense
  refine .trans (State.setChan_steps (c := c) (f := fun ch => { ch with withdrawn := asserted })) ?_
  generalize s.onZone (·.setChan c (fun ch => { ch with withdrawn := asserted })) = s₁
  dsimp only
  split
  · split
    · exact State.endDrive_steps c
    · exact .refl
  · next h =>
    split
    · exact State.fault_steps (by simp [h]) _
    · exact .refl
  · exact .refl

theorem State.homeSense_steps (c : Chan) (asserted : Bool) : Steps L Z A s (s.homeSense c asserted) := by
  unfold State.homeSense
  refine .trans (State.setChan_steps (c := c) (f := fun ch => { ch with home := asserted })) ?_
  generalize s.onZone (·.setChan c (fun ch => { ch with home := asserted })) = s₁
  dsimp only
  split
  · split
    · exact State.endDrive_steps c
    · exact .refl
  · next h =>
    split
    · exact State.fault_steps (by simp [h]) _
    · exact .refl
  · exact .refl

theorem State.doorChange_steps (c : Chan) (open_ : Bool) : Steps L Z A s (s.doorChange c open_) := by
  unfold State.doorChange
  split
  · dsimp only
    split
    · exact (State.onZone_steps fun _ => Zone.doorOpens_keeps).trans (State.raise_steps _)
    · exact State.onZone_steps fun _ => Zone.doorOpens_keeps
  · exact State.onZone_steps fun _ => Zone.doorCloses_keeps

theorem State.cabinPulse_steps (c : Chan) : Steps L Z A s (s.cabinPulse c) := by
  unfold State.cabinPulse
  split
  · exact State.raise_steps _
  · exact .refl

theorem State.contactChange_steps (c : Chan) (active : Bool) : Steps L Z A s (s.contactChange c active) := by
  unfold State.contactChange
  refine .trans (State.setChan_steps (c := c) (f := fun ch => { ch with contactQual := none })) ?_
  generalize s.onZone (·.setChan c (fun ch => { ch with contactQual := none })) = s₁
  have set : Steps L Z A s₁ (s₁.onZone (·.setChan c (fun ch => { ch with contact := active }))) :=
    State.setChan_steps
  dsimp only
  split
  · split
    · exact .refl
    · exact State.doorChange_steps c active
  · split
    · exact set.trans (State.cabinPulse_steps c)
    · exact set
  · split
    · exact set.trans (State.passage_steps c)
    · exact set
  · exact .refl

/-! ## The entry to STANDALONE -/

/-- The waits of the host's answers resolve: pending entries are denied and charges are stood in for (R146). -/
theorem pending_of_mem {cards : List (Nat × Entry)} (rising : Rising cards) {x : Nat × CardNo × Held}
    (hx : x ∈ pendingByReader cards) : tget cards x.1 = some ⟨x.2.1, .pending x.2.2⟩ := by
  simp only [pendingByReader, List.mem_flatMap, List.mem_filter, pendingEntries, List.mem_filterMap] at hx
  obtain ⟨r, -, ⟨⟨i, e⟩, he, found⟩, -⟩ := hx
  have get : ∀ {t : List (Nat × Entry)}, Rising t → (i, e) ∈ t → tget t i = some e := by
    intro t
    induction t with
    | nil => simp
    | cons y t ih =>
      intro ht hm
      obtain ⟨first, rest⟩ := List.pairwise_cons.mp ht
      rw [tget_cons]
      rcases List.mem_cons.mp hm with rfl | hm
      · simp
      · rw [if_neg (by have := first _ hm; simp only at this; omega)]
        exact ih rest hm
  cases hb : e.body with
  | known k => simp [hb] at found
  | pending h =>
    simp only [hb, Option.some.injEq] at found
    obtain rfl := found.symm
    obtain ⟨card, body⟩ := e
    simp only at hb
    subst hb
    exact get rising he

/-- The queries of a list are denied one after another: where the table was canonical, each position holds its pending entry or is
free by then. -/
theorem State.denyQueries_steps (qs : List (Nat × CardNo × Held))
    (found : L → Rising s.cards ∧ ∀ x ∈ qs, ∀ e, tget s.cards x.1 = some e → e.unengaged) :
    Steps L Z A s (qs.foldl (fun s x => s.denyQuery x.1 x.2.1 x.2.2) s) := by
  induction qs generalizing s with
  | nil => exact .refl
  | cons q qs ih =>
    refine .trans (State.denyQuery_steps fun l => (found l).2 q (by simp)) (ih fun l => ?_)
    obtain ⟨rising, unengaged⟩ := found l
    refine ⟨rising.tdel _, fun x hx e he => ?_⟩
    change tget (tdel q.1 s.cards) x.1 = some e at he
    by_cases hq : x.1 = q.1
    · rw [hq, tget_tdel_self _ _ rising] at he
      simp at he
    · rw [tget_tdel_other _ _ _ hq] at he
      exact unengaged x (by simp [hx]) e he

theorem State.resolveWaits_steps (lawful : L → Rising s.cards) : Steps L Z A s s.resolveWaits := by
  unfold State.resolveWaits
  refine .trans (State.denyQueries_steps _ fun l => ⟨lawful l, fun x hx e he => ?_⟩) (Steps.foldl (fun _ t => State.standIn_steps t) _ _)
  rw [pending_of_mem (lawful l) hx] at he
  obtain rfl := Option.some.inj he
  exact Entry.unengaged_pending _ _

theorem State.enterStandalone_steps (lawful : L → Rising s.cards) (expired : Bool) :
    Steps L Z False s (s.enterStandalone expired) := by
  unfold State.enterStandalone
  refine .trans (.single (.authority (a := .standalone) False.elim)) ?_
  dsimp only
  split
  · exact (State.notify_steps _).trans (State.resolveWaits_steps lawful)
  · exact State.resolveWaits_steps lawful

/-! ## The reader bus -/

theorem State.busOn_steps : Steps L Z A s s.busOn := by
  obtain ⟨rs, b, h⟩ := s.busOn_frame
  rw [h]
  exact .single (.aside rfl)

theorem State.miss_steps (r : ReaderNo) : Steps L Z A s (s.miss r) := by
  unfold State.miss
  dsimp only
  split
  · exact State.setReader_steps _ _
  · exact (State.setReader_steps _ _).trans (State.raise_steps _)

theorem State.tamper_steps (r : ReaderNo) (active : Bool) : Steps L Z A s (s.tamper r active) := by
  unfold State.tamper
  dsimp only
  split
  · exact (State.setReader_steps _ _).trans (State.raise_steps _)
  · exact State.setReader_steps _ _

theorem State.polled_steps (r : ReaderNo) (f : ReaderFrame) : Steps L Z A s (s.polled r f) := by
  unfold State.polled
  refine .trans (State.setReader_steps r (fun rd => { rd with misses := 0 })) ?_
  dsimp only
  split
  · exact .refl
  · exact State.present_steps _ _
  · split
    · exact State.tamper_steps _ _
    · exact .refl
  · exact .refl
  · exact .refl

theorem State.endPoll_steps (r : ReaderNo) (h : Heard) : Steps L Z A s (s.endPoll r h) := by
  unfold State.endPoll
  refine .trans (State.setReader_steps r (·.count h)) ?_
  dsimp only
  split
  · split
    · exact State.polled_steps _ _
    · exact State.miss_steps _
  · exact .refl

theorem State.judge_steps (r : ReaderNo) (type : Octet) : Steps L Z A s (s.judge r type) := by
  unfold State.judge
  dsimp only
  split
  · exact .single (.aside rfl)
  · split
    · exact .refl
    · exact (State.setReader_steps _ _).trans (State.raise_steps _)

theorem State.offered_steps (r : ReaderNo) (o : Offer) : Steps L Z A s (s.offered r o) := by
  unfold State.offered
  refine .trans (State.setReader_steps r (fun rd => { rd with offered := some o })) ?_
  dsimp only
  split
  · exact State.judge_steps _ _
  · exact .refl

theorem State.endProbe_steps (r : ReaderNo) (h : Heard) : Steps L Z A s (s.endProbe r h) := by
  unfold State.endProbe
  refine .trans (State.setReader_steps r (·.count h)) ?_
  dsimp only
  split
  · exact State.offered_steps _ _
  · exact .refl

theorem State.endAssign_steps (r : ReaderNo) (role : Role) (h : Heard) : Steps L Z A s (s.endAssign r role h) := by
  unfold State.endAssign
  refine .trans (State.setReader_steps r (·.count h)) ?_
  dsimp only
  split
  · split
    · split
      · exact State.setReader_steps _ _
      · exact State.setReader_steps _ _
    · exact State.setReader_steps _ _
  · exact .refl

theorem State.endExchange_steps (x : Exchange) (h : Heard) : Steps L Z A s (s.endExchange x h) := by
  unfold State.endExchange
  refine .trans (.single (.aside (t := { s with bus := { s.bus with exchange := none } }) rfl)) (.trans ?_ State.busOn_steps)
  dsimp only
  split
  · exact State.endPoll_steps _ _
  · exact State.endPoll_steps _ _
  · exact State.endProbe_steps _ _
  · exact State.endAssign_steps _ _ _

/-! ## Taking the working setup into service -/

theorem State.takeRoles_steps : Steps L Z A s s.takeRoles := Steps.foldl (fun _ _ => State.setReader_steps _ _) _ _

theorem Lane.markUnfit_state (unfit : Bool) (x : Lane) : (x.markUnfit unfit).state = x.state := by
  rcases x.markUnfit_cases unfit with ⟨-, e⟩ | ⟨-, -, e⟩ <;> rw [e]
  rfl

theorem State.markUnfit_steps : Steps L Z A s s.markUnfit := by
  unfold State.markUnfit
  refine .trans (Steps.foldl (fun u l => State.setLane_steps ?_) _ _)
    (Steps.foldl (fun u t => State.setTill_steps rfl fun _ => .inr id) _ _)
  rw [Lane.markUnfit_state]

theorem State.clearUnfit_steps : Steps L Z A s s.clearUnfit :=
  (Steps.foldl (fun _ _ => State.setLane_steps rfl) _ _).trans
    (Steps.foldl (fun _ _ => State.setTill_steps rfl fun _ => .inr id) _ _)

/-! ## Evacuation -/

theorem State.leaveForEvacuation_steps : Steps L Z A s s.leaveForEvacuation := by
  unfold State.leaveForEvacuation
  split
  · exact (((Change.mode fun _ _ => rfl).steps.trans State.takeRoles_steps).trans State.markUnfit_steps).trans State.busOn_steps
  · exact .refl

theorem State.entryClaims_steps : Steps L Z A s s.entryClaims :=
  ((Steps.foldl (fun _ _ => State.onZone_steps fun _ => Zone.releaseClaim_keeps) _ _).trans
    (Steps.foldl (fun _ l => State.evacuateLane_steps l) _ _)).trans (Steps.foldl (fun _ t => State.dropCharge_steps t _) _ _)

theorem State.enterEvacuation_steps (cause : EvacCause) : Steps L False A s (s.enterEvacuation cause) := by
  unfold State.enterEvacuation
  exact ((State.leaveForEvacuation_steps.trans (.single (.evac False.elim))).trans (State.notify_steps _)).trans
    State.entryClaims_steps

theorem Steps.foldl_evac {α : Type} {op : State → α → State} (xs : List α) (s : State) (hs : s.evac.state ≠ .evacuation)
    (h : ∀ s : State, s.evac.state ≠ .evacuation → ∀ x, Steps L Z A s (op s x) ∧ (op s x).evac = s.evac) :
    Steps L Z A s (xs.foldl op s) := by
  induction xs generalizing s with
  | nil => exact .refl
  | cons x xs ih =>
    obtain ⟨step, evac⟩ := h s hs x
    exact step.trans (ih _ (by rw [evac]; exact hs))

/-- An end-of-release claim outside EVACUATION (R65). -/
theorem State.endRelease_steps (hs : s.evac.state ≠ .evacuation) (c : Chan) :
    Steps L Z A s (s.onZone (·.endRelease s.setup c)) :=
  .single (.zone Zone.endRelease_keeps.movers fun _ =>
    ⟨Zone.endRelease_keeps.movers, Zone.endRelease_keeps.orderly, Zone.endRelease_keeps.off, fun e => absurd e hs⟩)

/-- An exit leaves EVACUATION before its end-of-release claims (R157). -/
theorem State.exitEvacuation_steps (cause : EvacCause) (running : s.phase = .running) :
    Steps L Z A s (s.exitEvacuation cause) := by
  unfold State.exitEvacuation
  have left : Steps L Z A s { s with evac := { s.evac with state := .recovery } } :=
    .single (.evac fun _ => .inr (.inr ⟨rfl, running⟩))
  have claims : ∀ u : State, u.evac.state ≠ .evacuation →
      Steps L Z A u (allChans.foldl (fun s c => s.onZone (·.endRelease s.setup c)) u) := fun u hu =>
    Steps.foldl_evac _ u hu fun v hv c => ⟨State.endRelease_steps hv c, rfl⟩
  exact .trans (.trans (.trans left (State.notify_steps _)) (claims _ (by exact EvacState.noConfusion)))
    (Steps.foldl (fun _ l => State.returnLane_steps l) _ _)

theorem State.sourceCleared_steps (cause : EvacCause) (running : s.phase = .running) :
    Steps L Z A s (s.sourceCleared cause) := by
  unfold State.sourceCleared
  split
  · exact State.exitEvacuation_steps cause running
  · exact .refl

/-! ## Setup -/

theorem State.onSetup_steps {f : Setup → Setup} (kinds : ∀ cfg c, (f cfg).kind c = cfg.kind c) : Steps L Z A s (s.onSetup f) :=
  .single (.setup fun _ => kinds _)

theorem State.writeLane_steps (x : LaneNo × LaneSetup) : Steps L Z A s (s.writeLane x) := by
  unfold State.writeLane
  have written : Steps L Z A s (s.onSetup (fun cfg => { cfg with lanes := vset cfg.lanes x.1 x.2 })) :=
    State.onSetup_steps fun _ _ => rfl
  dsimp only
  split
  · exact written.trans (State.setLane_steps rfl)
  · exact written

theorem State.maskRail_steps (g : Grp) : Steps L Z A s (s.maskRail g) := by
  unfold State.maskRail
  split
  · exact State.railToGood_steps g
  · exact State.setGroup_steps

theorem State.writePolicy_steps (p : Policy) : Steps L Z A s (s.writePolicy p) := by
  unfold State.writePolicy
  have written : Steps L Z A s (s.onSetup (fun cfg => { cfg with policy := p })) := State.onSetup_steps fun _ _ => rfl
  dsimp only
  split
  · exact written.trans (Steps.foldl (fun _ g => State.maskRail_steps g) _ _)
  · exact written

theorem Zone.place_sameMovers {cfg : Setup} {c : Chan} {z : Zone} : z.sameMovers (z.place cfg c) := by
  unfold Zone.place
  split
  · exact .of_eq rfl
  · split
    · exact .of_eq rfl
    · exact Zone.hold_sameMovers.trans Zone.settle_sameMovers

theorem Zone.reconfigure_sameMovers {cfg : Setup} {pins : Pins} {old : ChanSetup} {c : Chan} {z : Zone} :
    z.sameMovers (z.reconfigure cfg pins old c) := by
  have off : z.sameMovers (z.putOff cfg c) := by
    unfold Zone.putOff
    exact .trans (.of_eq (by simp)) Zone.settle_sameMovers
  unfold Zone.reconfigure
  dsimp only
  split
  · split
    · exact off
    · exact (off.trans (.of_eq (Zone.setChan_lanes _ _ _))).trans Zone.place_sameMovers
  · split
    · exact .of_eq (Zone.setChan_lanes _ _ _)
    · exact .refl z

theorem State.writeChannel_steps (x : Chan × ChanSetup) : Steps L False A s (s.writeChannel x) :=
  .trans (.single (.setup False.elim)) (.single (.zone Zone.reconfigure_sameMovers False.elim))

theorem State.leaveMaintenance_steps : Steps L Z A s s.leaveMaintenance :=
  (((Change.mode fun _ _ => rfl).steps.trans State.takeRoles_steps).trans State.clearUnfit_steps).trans State.busOn_steps

theorem State.enableAlarm_steps (k : AlarmKind) (on : Bool) : Steps L Z A s (s.enableAlarm k on) := by
  unfold State.enableAlarm
  refine .trans (.single (.setup (cfg := { s.setup with alarmOn := vset s.setup.alarmOn k.code on }) fun _ _ => rfl)) ?_
  dsimp only
  split
  · exact .refl
  · exact .single (.alarms fun law => law.keep _)

/-! ## Starts and the end of start-up -/

theorem State.loadStart_steps (kind : StartKind) (kept : Bool) (damage : StoreDamage) : Steps L Z A s (s.loadStart kind kept damage) := by
  unfold State.loadStart
  dsimp only
  split
  · exact .single .keep
  · exact .single .restart

theorem State.restart_steps (tag : Octet) (damaged : Bool) : Steps L Z A s (s.restart tag damaged) := by
  unfold State.restart
  dsimp only
  split
  · exact .single .keep
  · exact .single .restart

theorem Zone.sweep_sameMovers {cfg : Setup} {pins : Pins} {release : Bool} {c : Chan} {z : Zone} :
    z.sameMovers (z.sweep cfg pins release c) := by
  unfold Zone.sweep
  split
  · dsimp only
    split
    · exact (Zone.sameMovers.of_eq rfl).trans (Zone.releaseClaim_keeps (E := True)).movers
    · exact (Zone.sameMovers.of_eq rfl).trans Zone.place_sameMovers
  · exact .refl z

theorem State.sweepAll_steps (release : Bool) : Steps L False A s (s.sweepAll release) :=
  Steps.foldl (fun _ _ => .single (.zone Zone.sweep_sameMovers False.elim)) _ _

theorem State.leadWith_steps (ns : List Notice) : Steps L Z A s { s with link := s.link.leadWith ns } :=
  .single (.link fun law => law.leadWith ns)

/-- The end of start-up settles the evacuation state and the mode (R198). -/
theorem State.settled_steps (e : Evac) (m : OpMode) : Steps L False A s { s with evac := e, mode := m } :=
  .trans (.single (.evac (e := e) False.elim)) (.single (.mode (s := { s with evac := e }) (m := m) False.elim))

theorem State.startClear_steps (info : StartInfo) : Steps L False A s (s.startClear info) := by
  unfold State.startClear
  exact .trans (.trans (State.settled_steps _ _) (State.sweepAll_steps false)) (State.leadWith_steps _)

theorem State.startReleased_steps (info : StartInfo) : Steps L False A s (s.startReleased info) := by
  unfold State.startReleased
  refine .trans (.trans (.trans (State.settled_steps { s.evac with line := true, lineCount := 0, state := .evacuation }
    (s.startMode info)) ?_) (.trans (State.sweepAll_steps true) (Steps.foldl (fun _ l => State.evacuateLane_steps l) _ _)))
    (State.leadWith_steps _)
  dsimp only
  split
  · exact .trans (.single (.mode False.elim)) State.markUnfit_steps
  · exact .refl

end Sys2Proof.Machine
end

section
/-! The requests of the host: what each block does with a request is a run of changes. -/

namespace Sys2Proof.Machine

variable {L Z A : Prop} {s : State} {tag : Octet} {body : List Octet}

/-! ## The checks before a block takes its request -/

theorem framed_steps {sizeOk : Bool} {serve : Serve} (h : Steps L Z A s (serve s).1) :
    Steps L Z A s (framed tag sizeOk serve s).1 := by
  unfold framed
  split
  · exact .refl
  · exact h

theorem zoned_steps {serve : Serve} (h : Steps L Z A s (serve s).1) : Steps L Z A s (zoned serve s).1 :=
  h.trans State.relockTest_steps

theorem withCard_steps {n : Nat} {act : CardNo → Serve} (h : ∀ card, Steps L Z A s (act card s).1) :
    Steps L Z A s (withCard n act s).1 := by
  unfold withCard
  split
  · exact h _
  · exact .refl

theorem structural_steps {α : Type} {record : Option α} {write : α → State → State} (h : ∀ x, Steps L Z A s (write x s)) :
    Steps L Z A s (structural record write s).1 := by
  unfold structural
  split
  · exact .refl
  · split
    · exact .refl
    · split
      · exact .refl
      · exact h _

theorem getRecord_steps {α : Type} {index : Option α} {octets : Setup → α → List Octet} :
    Steps L Z A s (getRecord index octets s).1 := by
  unfold getRecord
  split
  · exact .refl
  · exact .refl

/-! ## Cards -/

/-- The entry that a CARD PUT brings is engaged by nothing (R6). -/
theorem cardPutOf_unengaged {p : CardPut} (h : cardPutOf body = some p) : p.entry.engaged = none := by
  unfold cardPutOf at h
  split at h
  · simp only [bind, Option.bind_eq_some_iff] at h
    obtain ⟨c, -, st, -, pr, -, slot, -, h⟩ := h
    split at h
    · simp at h
    · simp only [Option.bind_eq_some_iff, Option.ite_none_right_eq_some, Option.some.injEq] at h
      obtain ⟨gs, -, -, rfl⟩ := h
      rfl
  · simp at h

theorem earliest_mem {xs : List (Nat × Known)} {x : Nat × Known} (h : earliest xs = some x) : x ∈ xs := by
  induction xs generalizing x with
  | nil => simp [earliest] at h
  | cons y ys ih =>
    unfold earliest at h
    split at h
    · obtain rfl := Option.some.inj h
      simp
    · next z hz =>
      split at h
      · obtain rfl := Option.some.inj h
        exact List.mem_cons_of_mem _ (ih hz)
      · obtain rfl := Option.some.inj h
        simp

/-- The way that an insertion displaces lies in the card's bucket and holds an unengaged entry (R7). -/
theorem displacedWay_spec {cards : List (Nat × Entry)} {card : CardNo} {i : Nat} (h : displacedWay cards card = some i) :
    i ∈ wayIndexes card ∧ ∀ e, tget cards i = some e → e.unengaged := by
  unfold displacedWay at h
  obtain ⟨⟨j, k⟩, hj, rfl⟩ := Option.map_eq_some_iff.mp h
  obtain ⟨w, hw, hd⟩ := List.mem_filterMap.mp (earliest_mem hj)
  unfold displaceable at hd
  split at hd
  · next d k' found =>
    split at hd
    · split at hd
      · next free =>
        obtain ⟨rfl, rfl⟩ := Prod.mk.inj (Option.some.inj hd)
        refine ⟨hw, fun e he => ?_⟩
        rw [found] at he
        obtain rfl := Option.some.inj he
        exact Entry.unengaged_known free.2
      · simp at hd
    · simp at hd
  · simp at hd

theorem State.folioNamed_of_loaded {k : Known} {allowed : Option Nat}
    (h : ¬(k.folio.any (fun slot => (tget s.folios slot).isNone)) = true) : s.folioNamed k allowed := by
  intro slot hs
  simp only [hs, Option.any_some, Bool.not_eq_true, Option.isNone_eq_false_iff] at h
  exact .inr h

theorem State.insertCard_steps {p : CardPut} (absent : lookup s.cards p.card = none) (engaged : p.entry.engaged = none)
    (folio : s.folioNamed p.entry none) : Steps L Z A s (s.insertCard p).1 := by
  unfold State.insertCard
  split
  · next i free =>
    obtain ⟨way, free⟩ := freeWay_spec free
    exact .single (.insert absent way (by simp [free]) engaged folio)
  · split
    · next i displaced =>
      obtain ⟨way, free⟩ := displacedWay_spec displaced
      exact .single (.insert absent way free engaged folio)
    · exact .refl

theorem State.resolve_steps {i : Nat} {d : CardNo} {h : Held} {p : CardPut}
    (found : lookup s.cards p.card = some (i, ⟨d, .pending h⟩)) (engaged : p.entry.engaged = none)
    (folio : s.folioNamed p.entry none) : Steps L Z A s (s.resolve i p h).1 := by
  obtain rfl : d = p.card := card_of_lookup found
  unfold State.resolve
  refine .trans (.single (.resolve (k := { p.entry with lastSeen := h.arrival }) (tget_of_lookup found) engaged folio))
    (State.decideKnown_steps (State.known_of_lookup (i := i) (d := p.card) ?_))
  exact lookup_tput found rfl

theorem State.putCard_steps {p : CardPut} (engaged : p.entry.engaged = none) : Steps L Z A s (s.putCard p).1 := by
  unfold State.putCard
  split
  · exact .refl
  · next loaded =>
    split
    · next absent => exact State.insertCard_steps absent engaged (State.folioNamed_of_loaded loaded)
    · next found => exact State.resolve_steps found engaged (State.folioNamed_of_loaded loaded)
    · next found =>
      split
      · exact .refl
      · exact State.rewrite_steps found rfl (State.folioNamed_of_loaded loaded)

theorem serveCardPut_steps : Steps L Z A s (serveCardPut tag body s).1 := by
  refine framed_steps (zoned_steps ?_)
  split
  · exact .refl
  · next p h => exact State.putCard_steps (cardPutOf_unengaged h)

theorem serveCardGet_steps : Steps L Z A s (serveCardGet tag body s).1 := by
  refine framed_steps (withCard_steps fun card => ?_)
  split
  · exact .refl
  · exact .refl

theorem serveCardDelete_steps : Steps L Z A s (serveCardDelete tag body s).1 := by
  refine framed_steps (withCard_steps fun card => ?_)
  split
  · exact .refl
  · exact .refl
  · next k found =>
    split
    · exact .refl
    · next free =>
      refine .single (.remove fun _ e he => ?_)
      rw [tget_of_lookup found] at he
      obtain rfl := Option.some.inj he
      exact Entry.unengaged_known (by simpa using free)

theorem serveCardStatus_steps : Steps L Z A s (serveCardStatus tag body s).1 := by
  refine framed_steps (withCard_steps fun card => ?_)
  split
  · exact .refl
  · split
    · exact .refl
    · exact .refl
    · next found => exact State.rewrite_steps found rfl (State.folioNamed_same _)

theorem serveCardRefuse_steps : Steps L Z A s (serveCardRefuse tag body s).1 := by
  refine framed_steps (withCard_steps fun card => ?_)
  split
  · next found =>
    refine State.denyQuery_steps fun _ e he => ?_
    rw [tget_of_lookup found] at he
    obtain rfl := Option.some.inj he
    exact Entry.unengaged_pending _ _
  · exact .refl

theorem servePresenceSet_steps : Steps L Z A s (servePresenceSet tag body s).1 := by
  refine framed_steps (withCard_steps fun card => ?_)
  split
  · exact .refl
  · split
    · exact .refl
    · exact .refl
    · next found =>
      split
      · exact .refl
      · exact State.rewrite_steps found rfl (State.folioNamed_same _)

theorem serveTallyGet_steps : Steps L Z A s (serveTallyGet tag body s).1 := framed_steps .refl

theorem serveAshoreList_steps : Steps L Z A s (serveAshoreList tag body s).1 := by
  refine framed_steps ?_
  split
  · split
    · exact .refl
    · split
      · exact .refl
      · exact .refl
  · exact .refl

/-! ## Channels and alarms -/

theorem serveChannelOpen_steps : Steps L Z A s (serveChannelOpen tag body s).1 := by
  refine framed_steps (zoned_steps ?_)
  split
  · split
    · split
      · exact .refl
      · split
        · exact .refl
        · split
          · exact .refl
          · exact State.onZone_steps fun _ => Zone.openClaim_keeps
    · exact .refl
  · exact .refl

theorem serveChannelLockout_steps : Steps L Z A s (serveChannelLockout tag body s).1 := by
  refine framed_steps ?_
  split
  · split
    · exact State.setChan_steps
    · exact .refl
  · exact .refl

theorem serveChannelStatus_steps : Steps L Z A s (serveChannelStatus tag body s).1 := by
  refine framed_steps ?_
  split
  · exact .refl
  · exact .refl

theorem serveFaultRead_steps : Steps L Z A s (serveFaultRead tag body s).1 := by
  refine framed_steps (zoned_steps ?_)
  split
  · split
    · dsimp only
      split
      · exact State.clearFault_steps _
      · exact .refl
    · exact .refl
  · exact .refl

theorem serveAlarmList_steps : Steps L Z A s (serveAlarmList tag body s).1 := by
  refine framed_steps ?_
  dsimp only
  split
  · exact .refl
  · exact .refl

theorem State.clearAlarms_steps (keep : AlarmRecord → Bool) : Steps L Z A s (s.clearAlarms keep).1 :=
  .single (.alarms fun law => law.keep keep)

theorem serveAlarmClear_steps : Steps L Z A s (serveAlarmClear tag body s).1 := by
  refine framed_steps ?_
  split
  · split
    · exact .refl
    · exact State.clearAlarms_steps _
    · split
      · exact .refl
      · split
        · exact State.clearAlarms_steps _
        · exact .refl
  · exact .refl

theorem serveAlarmEnable_steps : Steps L Z A s (serveAlarmEnable tag body s).1 := by
  refine framed_steps ?_
  split
  · split
    · exact State.enableAlarm_steps _ _
    · exact .refl
  · exact .refl

/-! ## Lanes and the deadline -/

theorem LaneState.open_mover (st : LaneState) : st.open.mover = st.mover := by cases st <;> rfl

theorem LaneState.close_mover (st : LaneState) : st.close.mover = st.mover := by cases st <;> rfl

theorem serveLaneOpen_steps : Steps L Z A s (serveLaneOpen tag body s).1 := by
  refine framed_steps ?_
  split
  · exact .refl
  · split
    · exact .refl
    · split
      · exact .refl
      · exact State.setLane_steps (LaneState.open_mover _)

theorem serveLaneClose_steps : Steps L Z A s (serveLaneClose tag body s).1 := by
  refine framed_steps ?_
  split
  · exact .refl
  · split
    · exact .refl
    · exact State.setLane_steps (LaneState.close_mover _)

theorem serveLaneStatus_steps : Steps L Z A s (serveLaneStatus tag body s).1 := by
  refine framed_steps ?_
  split
  · split
    · dsimp only
      split
      · exact State.setLane_steps rfl
      · exact .refl
    · exact .refl
  · exact .refl

theorem serveDeadlineSet_steps : Steps L Z A s (serveDeadlineSet tag body s).1 := by
  refine framed_steps ?_
  split
  · split
    · exact .single (.aside rfl)
    · exact .refl
  · exact .refl

theorem serveDeadlineClear_steps : Steps L Z A s (serveDeadlineClear tag body s).1 := framed_steps (.single (.aside rfl))

theorem serveDeadlineGet_steps : Steps L Z A s (serveDeadlineGet tag body s).1 := framed_steps .refl

/-! ## Folios, tills and the journal -/

theorem serveFolioPut_steps : Steps L Z A s (serveFolioPut tag body s).1 := by
  refine framed_steps ?_
  split
  · split
    · dsimp only
      split
      · next range => exact .single (.putFolio (.inl range.1) rfl fun _ => range.2.2.2)
      · exact .refl
    · exact .refl
  · exact .refl

theorem serveFolioGet_steps : Steps L Z A s (serveFolioGet tag body s).1 := by
  refine framed_steps ?_
  dsimp only
  split
  · exact .refl
  · exact .refl

theorem serveFolioDelete_steps : Steps L Z A s (serveFolioDelete tag body s).1 := by
  refine framed_steps ?_
  dsimp only
  split
  · split
    · exact .refl
    · next f found =>
      split
      · exact .refl
      · next free =>
        refine .single (.dropFolio fun g hg => ?_)
        rw [found] at hg
        obtain rfl := Option.some.inj hg
        omega
  · exact .refl

/-- CHARGE OPEN arms a till in the running part, outside evacuation (R118, R129). -/
theorem serveChargeOpen_steps (running : s.phase = .running) : Steps L Z A s (serveChargeOpen tag body s).1 := by
  refine framed_steps ?_
  split
  · split
    · exact .refl
    · split
      · exact .refl
      · split
        · exact .refl
        · split
          · exact .refl
          · next calm =>
            split
            · exact .refl
            · split
              · exact .refl
              · next idle =>
                refine State.setTill_steps ?_ fun _ => .inl ⟨running, by simpa [State.evacuating] using calm⟩
                revert idle
                cases (s.tills.get _).state <;> simp [TillState.isIdle, TillState.payer]
  · exact .refl

theorem serveChargeCancel_steps : Steps L Z A s (serveChargeCancel tag body s).1 := by
  refine framed_steps ?_
  split
  · exact .refl
  · split
    · exact .refl
    · exact State.dropCharge_steps _ _

theorem serveAuthAnswer_steps : Steps L Z A s (serveAuthAnswer tag body s).1 := by
  refine framed_steps ?_
  split
  · split
    · split
      · next h =>
        split
        · dsimp only
          split
          · exact State.approveReferral_steps (by rw [h]; rfl)
          · exact State.endReferral_steps (.inr (by rw [h]; rfl))
        · exact .refl
      · exact .refl
    · exact .refl
  · exact .refl

theorem serveTillStatus_steps : Steps L Z A s (serveTillStatus tag body s).1 := by
  refine framed_steps ?_
  split
  · exact .refl
  · exact .refl

theorem serveJournalFetch_steps : Steps L Z A s (serveJournalFetch tag body s).1 := by
  refine framed_steps ?_
  split
  · split
    · exact .refl
    · exact .refl
  · exact .refl

theorem serveJournalRelease_steps : Steps L Z A s (serveJournalRelease tag body s).1 := by
  refine framed_steps ?_
  dsimp only
  split
  · exact .refl
  · exact .single (.journal fun law => law.release _)

theorem serveChargeVoid_steps : Steps L Z A s (serveChargeVoid tag body s).1 := by
  refine framed_steps ?_
  dsimp only
  split
  · exact .refl
  · next e _ =>
    split
    · exact .refl
    · have voided : Steps L Z A s { s with journal := s.journal.void (num body) } := .single (.journal fun law => law.void _)
      split
      · next f _ found =>
        refine voided.trans (.single (.putFolio (.inr (by simp [found])) (by simp [found]) fun bound => ?_))
        exact (Nat.sub_le _ _).trans (bound f found)
      · exact voided

/-! ## Authority, clock, status and readers -/

theorem serveLeaseGrant_steps : Steps L Z A s (serveLeaseGrant tag body s).1 := by
  refine framed_steps ?_
  dsimp only
  split
  · exact .single (.authority fun _ h => by simp at h)
  · exact .refl

theorem serveTimeSet_steps : Steps L Z A s (serveTimeSet tag body s).1 := framed_steps (.single (.aside rfl))

theorem serveTimeGet_steps : Steps L Z A s (serveTimeGet tag body s).1 := framed_steps .refl

theorem serveReaderStatus_steps : Steps L Z A s (serveReaderStatus tag body s).1 := by
  refine framed_steps ?_
  split
  · exact .refl
  · exact State.setReader_steps _ _

theorem serveStatus_steps : Steps L Z A s (serveStatus tag body s).1 := framed_steps .refl

theorem serveLinkStatus_steps : Steps L Z A s (serveLinkStatus tag body s).1 := framed_steps (.single (.link id))

/-! ## Evacuation -/

theorem serveEvacuateClear_steps (running : s.phase = .running) : Steps L Z A s (serveEvacuateClear tag body s).1 :=
  framed_steps (((Change.evac (s := s) (e := { s.evac with host := false }) fun _ => .inl rfl).steps.trans
    (State.sourceCleared_steps _ running)).trans State.relockTest_steps)

/-! ## Setup -/

theorem serveSetupReader_steps : Steps L Z A s (serveSetupReader tag body s).1 :=
  framed_steps (structural_steps fun _ => State.onSetup_steps fun _ _ => rfl)

theorem serveSetupLane_steps : Steps L Z A s (serveSetupLane tag body s).1 :=
  framed_steps (structural_steps fun x => State.writeLane_steps x)

theorem serveSetupTill_steps : Steps L Z A s (serveSetupTill tag body s).1 :=
  framed_steps (structural_steps fun _ => State.onSetup_steps fun _ _ => rfl)

theorem serveSetupTiming_steps : Steps L Z A s (serveSetupTiming tag body s).1 := by
  refine framed_steps ?_
  split
  · exact .refl
  · next t _ => exact State.onSetup_steps (f := fun cfg => { cfg with timing := t }) fun _ _ => rfl

theorem serveSetupPolicy_steps : Steps L Z A s (serveSetupPolicy tag body s).1 := by
  refine framed_steps (zoned_steps ?_)
  split
  · exact .refl
  · exact State.writePolicy_steps _

theorem serveSetupSave_steps : Steps L Z A s (serveSetupSave tag body s).1 := by
  refine framed_steps ?_
  split
  · exact .refl
  · exact .single (.aside rfl)

/-- MAINTENANCE is entered outside evacuation alone (R193). -/
theorem serveMaintenanceEnter_steps : Steps L Z A s (serveMaintenanceEnter tag body s).1 := by
  refine framed_steps ?_
  split
  · exact .refl
  · split
    · next still =>
      refine .single (.mode fun _ evac => ?_)
      simp [State.canEnterMaintenance, evac] at still
    · exact .refl

theorem serveMaintenanceLeave_steps : Steps L Z A s (serveMaintenanceLeave tag body s).1 := by
  refine framed_steps ?_
  split
  · exact .refl
  · split
    · exact .refl
    · exact State.leaveMaintenance_steps

end Sys2Proof.Machine
end

section
/-! Every step is a run of changes and of four larger events, whose parts keep the laws together alone: the entry to STANDALONE (R146),
the entry into EVACUATION (R155), a SETUP CHANNEL that is taken (R47), and the end of start-up (R198). -/

namespace Sys2Proof.Machine

/-- The state at the end of start-up (R198). -/
def State.settleStart (info : StartInfo) (lineLow : Bool) (s : State) : State :=
  { (if lineLow then s.startReleased info else s.startClear info) with phase := .running }

/-- A change, or one of the events that some law follows as a whole. -/
inductive Event : State → State → Prop
  | change {s t : State} (h : Change True True True s t) : Event s t
  | standalone {s : State} (expired : Bool) : Event s (s.enterStandalone expired)
  | evacuate {s : State} (cause : EvacCause) (calm : s.evac.state ≠ .evacuation) (running : s.phase = .running) :
      Event s (s.enterEvacuation cause)
  | reconfigure {s : State} (x : Chan × ChanSetup) (maintenance : s.mode = .maintenance) (running : s.phase = .running) :
      Event s (s.writeChannel x)
  | settle {s : State} {info : StartInfo} {n lows : Nat} (lineLow : Bool) (starting : s.phase = .starting info n lows) :
      Event s (s.settleStart info lineLow)

abbrev Events : State → State → Prop := Relation.ReflTransGen Event

variable {L Z A : Prop} {s t : State} {tag : Octet} {body : List Octet}

theorem Steps.events (h : Steps True True True s t) : Events s t := Relation.ReflTransGen.mono (fun _ _ => Event.change) _ _ h

theorem State.settleStart_steps {info : StartInfo} (lineLow : Bool) : Steps L False A s (s.settleStart info lineLow) := by
  unfold State.settleStart
  refine .trans ?_ (.single (.phase False.elim))
  split
  · exact State.startReleased_steps _
  · exact State.startClear_steps _

/-- An event seen as a run of changes, with less known of the zone and of the authority. -/
theorem Event.steps (h : Event s t) (lawful : L → Rising s.cards) : Steps L False False s t := by
  cases h with
  | change h => exact .single (h.mono (fun _ => trivial) False.elim False.elim)
  | standalone expired => exact State.enterStandalone_steps lawful expired
  | evacuate cause => exact State.enterEvacuation_steps cause
  | reconfigure x => exact State.writeChannel_steps x
  | settle lineLow => exact State.settleStart_steps lineLow

/-! ## Requests -/

theorem State.arrive_steps (f : Frame) : Steps L Z A s (s.arrive f) := by
  unfold State.arrive
  split
  · exact .refl
  · exact .single (.link fun law => law.handUp f)

theorem State.carryOut_events {f : Frame} {serve : Serve} (h : Events s (serve s).1) : Events s (s.carryOut f serve) :=
  h.trans (Steps.events (.single (.link fun law => law.answer f _)))

/-- A request is carried out by its block in the running part. -/
theorem State.request_events {f : Frame} {serve : Serve} (h : ∀ u : State, u.phase = .running → Events u (serve u).1) :
    Events s (s.request f serve) := by
  unfold State.request
  refine .trans (State.arrive_steps f).events ?_
  dsimp only
  split
  · next turn => exact (State.carryOut_events (h _ turn.1)).trans State.close_steps.events
  · exact State.close_steps.events

theorem framed_events {sizeOk : Bool} {serve : Serve} (h : Events s (serve s).1) : Events s (framed tag sizeOk serve s).1 := by
  unfold framed
  split
  · exact .refl
  · exact h

theorem zoned_events {serve : Serve} (h : Events s (serve s).1) : Events s (zoned serve s).1 :=
  h.trans State.relockTest_steps.events

theorem serveLeaseEnd_events : Events s (serveLeaseEnd tag body s).1 := by
  refine framed_events ?_
  split
  · exact .refl
  · exact .single (.standalone false)

theorem State.sourceSet_events (cause : EvacCause) (running : s.phase = .running) : Events s (s.sourceSet cause) := by
  unfold State.sourceSet
  split
  · exact .refl
  · next calm => exact .single (.evacuate cause calm running)

theorem serveEvacuateSet_events (running : s.phase = .running) : Events s (serveEvacuateSet tag body s).1 :=
  framed_events (.trans (Steps.events (.single (.evac (s := s) (e := { s.evac with host := true }) fun _ => .inl rfl)))
    (State.sourceSet_events _ running))

theorem serveSetupChannel_events (running : s.phase = .running) : Events s (serveSetupChannel tag body s).1 := by
  refine framed_events (zoned_events ?_)
  unfold structural
  split
  · exact .refl
  · split
    · exact .refl
    · next maintenance =>
      split
      · exact .refl
      · exact .single (.reconfigure _ (by simpa [State.inMaintenance] using maintenance) running)

/-- A RESTART at its turn (R199). -/
theorem State.takeRestart_events (f : Frame) : Events s (s.takeRestart f) := by
  unfold State.takeRestart
  split
  · exact (State.carryOut_events .refl).trans State.close_steps.events
  · split
    · exact (State.carryOut_events .refl).trans State.close_steps.events
    · exact Steps.events (.trans (.single (.aside (t := s.fresh) rfl)) (State.restart_steps _ _))

/-! ## One millisecond -/

theorem State.sample_eq (s : State) : s.sample = { s with pins := s.samples.headD s.pins, samples := s.samples.tail } := by
  unfold State.sample
  split
  · next h => rw [h]; cases s; simp_all
  · next h => rw [h]; rfl

theorem Zone.foldl_setChan (f : Chan → Channel → Channel) (cs : List Chan) (z : Zone) :
    cs.foldl (fun z c => z.setChan c (f c)) z = { z with channels := cs.foldl (fun v c => vmod v c (f c)) z.channels } := by
  induction cs generalizing z with
  | nil => rfl
  | cons c cs ih => rw [List.foldl_cons, ih]; rfl

theorem Zone.foldl_setGroup (f : Grp → Group → Group) (gs : List Grp) (z : Zone) :
    gs.foldl (fun z g => z.setGroup g (f g)) z = { z with groups := gs.foldl (fun v g => vmod v g (f g)) z.groups } := by
  induction gs generalizing z with
  | nil => rfl
  | cons g gs ih => rw [List.foldl_cons, ih]; rfl

theorem Zone.foldl_setLane (f : LaneNo → Lane → Lane) (ls : List LaneNo) (z : Zone) :
    ls.foldl (fun z l => z.setLane l (f l)) z = { z with lanes := ls.foldl (fun v l => vmod v l (f l)) z.lanes } := by
  induction ls generalizing z with
  | nil => rfl
  | cons l ls ih => rw [List.foldl_cons, ih]; rfl

/-- What a millisecond does to each channel, arbiter and lane. -/
theorem Zone.tick_get (cfg : Setup) (pins : Pins) (z : Zone) :
    (∀ c, (z.tick cfg pins).channels.get c = (z.channels.get c).tick cfg pins c) ∧
      (∀ g, (z.tick cfg pins).groups.get g = (z.groups.get g).sample cfg.policy.railMask (pins.railGood.get g)) ∧
      ∀ l, (z.tick cfg pins).lanes.get l = (z.lanes.get l).tick := by
  have tick : z.tick cfg pins =
      { channels := allChans.foldl (fun v c => vmod v c (·.tick cfg pins c)) z.channels
        groups := (List.finRange 4).foldl (fun v g => vmod v g (·.sample cfg.policy.railMask (pins.railGood.get g))) z.groups
        lanes := allLanes.foldl (fun v l => vmod v l Lane.tick) z.lanes } := by
    unfold Zone.tick
    dsimp only
    rw [Zone.foldl_setChan, Zone.foldl_setGroup, Zone.foldl_setLane]
  rw [tick]
  exact ⟨fun c => vget_foldl_vmod _ c _, fun g => vget_foldl_vmod _ g _, fun l => vget_foldl_vmod _ l _⟩

theorem ChanState.tick_same (st : ChanState) : st.tick.waits = st.waits ∧ st.tick.drives = st.drives ∧
    st.tick.releasing = st.releasing ∧ (st.tick = .off ↔ st = .off) := by
  cases st with
  | openHold stage => cases stage <;> exact ⟨rfl, rfl, rfl, by simp [ChanState.tick]⟩
  | _ => exact ⟨rfl, rfl, rfl, Iff.rfl⟩

theorem Group.sample_same (masked good : Bool) (g : Group) : (g.sample masked good).slot0 = g.slot0 ∧
    (g.sample masked good).slot1 = g.slot1 ∧ (g.sample masked good).queue = g.queue := by
  unfold Group.sample
  split
  · exact ⟨rfl, rfl, rfl⟩
  · split <;> exact ⟨rfl, rfl, rfl⟩

theorem Lane.tick_mover (x : Lane) : x.tick.state.mover = x.state.mover := by
  unfold Lane.tick
  cases x.state <;> rfl

theorem Zone.tick_keeps {E : Prop} {cfg : Setup} {pins : Pins} {z : Zone} : z.Keeps E cfg (z.tick cfg pins) := by
  obtain ⟨channels, groups, lanes⟩ := z.tick_get cfg pins
  have state : ∀ c, ((z.tick cfg pins).channels.get c).state = (z.channels.get c).state.tick := fun c => by rw [channels]; rfl
  have group : ∀ g, ((z.tick cfg pins).groups.get g).slot0 = (z.groups.get g).slot0 ∧
      ((z.tick cfg pins).groups.get g).slot1 = (z.groups.get g).slot1 ∧
      ((z.tick cfg pins).groups.get g).queue = (z.groups.get g).queue := fun g => by rw [groups]; exact Group.sample_same _ _ _
  refine ⟨fun l => by rw [lanes, Lane.tick_mover], fun ⟨nodup, waits, slots⟩ => ⟨fun g => ?_, fun g c hc => ?_, fun c hc => ?_⟩,
    fun _ c hc => ?_, fun _ _ c hc => ?_⟩
  · rw [(group g).2.2]; exact nodup g
  · rw [(group g).2.2] at hc
    rw [state, (ChanState.tick_same _).1]
    exact waits g c hc
  · rw [state, (ChanState.tick_same _).2.1] at hc
    rw [(group _).1, (group _).2.1]
    exact slots c hc
  · rw [state, hc]; rfl
  · obtain ⟨releasing, release⟩ := hc
    refine ⟨by rw [state, (ChanState.tick_same _).2.2.1]; exact releasing, ?_⟩
    rw [state, (ChanState.tick_same _).2.2.2, channels]
    exact release

theorem Till.tick_same (x : Till) : x.tick.state.payer = x.state.payer ∧ (x.state = .idle → x.tick.state = .idle) := by
  unfold Till.tick
  cases x.state <;> simp [TillState.payer]

theorem State.tickZone_steps (pins : Pins) : Steps L Z A s { s with zone := s.zone.tick s.setup pins } :=
  State.onZone_steps (f := fun z => z.tick s.setup pins) fun _ => Zone.tick_keeps

theorem State.tickTills_steps : Steps L Z A s { s with tills := allTills.foldl (fun v t => vmod v t Till.tick) s.tills } := by
  have tills : ∀ t, (allTills.foldl (fun v t => vmod v t Till.tick) s.tills).get t = (s.tills.get t).tick :=
    fun t => vget_foldl_vmod _ t _
  exact .single (.tills (fun t => by rw [tills, (Till.tick_same _).1])
    fun _ => .inr fun t ht => by rw [tills]; exact (Till.tick_same _).2 ht)

theorem State.tickPhase_steps (low : Bool) : Steps L Z A s { s with phase := s.phase.sample low } :=
  .single (.phase fun _ => by cases s.phase <;> simp [Phase.sample])

theorem State.tickAuthority_steps : Steps L Z A s { s with authority := s.authority.tick } :=
  .single (.authority fun _ h => by
    cases ha : s.authority with
    | online n => simp [ha, Authority.tick] at h
    | standalone => rfl)

theorem State.tickEvac_steps (low : Bool) : Steps L Z A s { s with evac := s.evac.sample low } := .single (.evac fun _ => .inl rfl)

theorem State.tickLink_steps (ready : Bool) : Steps L Z A s { s with link := s.link.tick ready } := .single (.link id)

theorem State.tick_steps : Steps L Z A s s.tick := by
  unfold State.tick
  rw [State.sample_eq]
  generalize s.samples.headD s.pins = pins
  exact .trans (State.tickZone_steps pins) <| .trans State.tickTills_steps <| .trans (.single .hold) <|
    .trans (State.tickPhase_steps pins.lineLow) <| .trans State.tickAuthority_steps <|
    .trans (State.tickEvac_steps pins.lineLow) <| .trans (State.tickLink_steps pins.hostReady) <| .single (.aside rfl)

/-! ## Every command goes on, as a run of events -/

/-- A request that its block carries out as a run of changes in the running part. -/
theorem State.request_goes {f : Frame} {serve : Serve}
    (h : ∀ u : State, u.phase = .running → Steps True True True u (serve u).1) : Events s (s.request f serve) :=
  State.request_events fun u running => (h u running).events

/-- The event of a channel that is watched closes with the relock test (log entry 13). -/
theorem Steps.closeZone (h : Steps L Z A s t) : Steps L Z A s t.closeZone := h.trans State.closeZone_steps

theorem Steps.close (h : Steps L Z A s t) : Steps L Z A s t.close := h.trans State.close_steps

theorem execRestart_events : ∃ t, execRestart tag body s = .next t ∧ Events s t := by
  refine ⟨_, rfl, .trans (State.arrive_steps ⟨0x38, tag, body⟩).events ?_⟩
  split
  · exact State.takeRestart_events _
  · exact State.close_steps.events

theorem State.dropFrame_steps {f : Link → Link} (h : ∀ k : Link, k.law → (f k).law) : Steps L Z A s (s.dropFrame f) :=
  .single (.link fun law => h _ law)

theorem State.endFrame_steps (got : List Octet) : Steps L Z A s (s.endFrame got) := by
  unfold State.endFrame
  dsimp only
  split
  · split
    · exact .single (.link fun law => Link.law.handUp (k := { s.link with framer := .hunting }) law _)
    · exact .single (.link id)
  · exact State.dropFrame_steps fun _ => id

theorem State.frameOctet_steps (got : List Octet) : Steps L Z A s (s.frameOctet got) := by
  unfold State.frameOctet
  dsimp only
  split
  · exact State.dropFrame_steps fun _ => id
  · split
    · exact State.endFrame_steps got
    · exact .single (.link id)

theorem execHostOctetReceived_steps (o : Octet) : ∃ t, execHostOctetReceived o s = .next t ∧ Steps L Z A s t := by
  refine ⟨_, rfl, ?_⟩
  split
  · split
    · exact .single (.link id)
    · exact .single (.link id)
  · exact (State.frameOctet_steps _).close

theorem execGapTimeout_steps : ∃ t, execGapTimeout s = .next t ∧ Steps L Z A s t := by
  refine ⟨_, rfl, ?_⟩
  split
  · exact .refl
  · exact State.dropFrame_steps fun _ => id

theorem execHostReadyHigh_steps : ∃ t, execHostReadyHigh s = .next t ∧ Steps L Z A s t :=
  ⟨_, rfl, .close (.trans (.single (.link (k := { s.link with hostReady := true }) id)) (.single (.aside rfl)))⟩

theorem execTransmitFrameEnd_steps : ∃ t, execTransmitFrameEnd s = .next t ∧ Steps L Z A s t :=
  ⟨_, rfl, .close (.single (.link id))⟩

theorem execPollExchangeEnd_steps (reply : List Octet) : ∃ t, execPollExchangeEnd reply s = .next t ∧ Steps L Z A s t := by
  refine ⟨_, rfl, ?_⟩
  split
  · split
    · exact (State.endExchange_steps _ _).closeZone
    · exact (State.endExchange_steps _ _).closeZone
    · exact .refl
  · exact .refl

theorem execProbeExchangeEnd_steps (reply : List Octet) : ∃ t, execProbeExchangeEnd reply s = .next t ∧ Steps L Z A s t := by
  refine ⟨_, rfl, ?_⟩
  split
  · split
    · exact (State.endExchange_steps _ _).close
    · exact .refl
  · exact .refl

theorem execAssignExchangeEnd_steps (reply : List Octet) : ∃ t, execAssignExchangeEnd reply s = .next t ∧ Steps L Z A s t := by
  refine ⟨_, rfl, ?_⟩
  split
  · split
    · exact (State.endExchange_steps _ _).close
    · exact .refl
  · exact .refl

theorem execReaderReplyWindow_steps : ∃ t, execReaderReplyWindow s = .next t ∧ Steps L Z A s t := by
  refine ⟨_, rfl, ?_⟩
  split
  · exact (State.endExchange_steps _ _).close
  · exact .refl

theorem execQueryHoldExpiry_steps (card : CardNo) : ∃ t, execQueryHoldExpiry card s = .next t ∧ Steps L Z A s t := by
  refine ⟨_, rfl, ?_⟩
  split
  · next i d h found =>
    refine .close (State.denyQuery_steps fun _ e he => ?_)
    rw [tget_of_lookup found] at he
    obtain rfl := Option.some.inj he
    exact Entry.unengaged_pending _ _
  · exact .refl

/-! ### The events of the channels -/

theorem execBoltWithdrawnSense_steps (c : Chan) (asserted : Bool) :
    ∃ t, execBoltWithdrawnSense c asserted s = .next t ∧ Steps L Z A s t := by
  refine ⟨_, rfl, .trans (.single (.aside (t := { s with pins := { s.pins with withdrawn := vset s.pins.withdrawn c asserted } }) rfl)) ?_⟩
  split
  · exact (State.withdrawnSense_steps _ _).closeZone
  · exact .refl

theorem execBoltHomeSense_steps (c : Chan) (asserted : Bool) :
    ∃ t, execBoltHomeSense c asserted s = .next t ∧ Steps L Z A s t := by
  refine ⟨_, rfl, .trans (.single (.aside (t := { s with pins := { s.pins with home := vset s.pins.home c asserted } }) rfl)) ?_⟩
  split
  · exact (State.homeSense_steps _ _).closeZone
  · exact .refl

theorem execPositionLost_steps (c : Chan) : ∃ t, execPositionLost c s = .next t ∧ Steps L Z A s t := by
  refine ⟨_, rfl, ?_⟩
  split
  · exact .trans (.single (.aside (t := { s with pins := { s.pins with home := vset s.pins.home c false } }) rfl))
      (State.homeSense_steps _ _).closeZone
  · exact .trans (.single (.aside (t := { s with pins := { s.pins with withdrawn := vset s.pins.withdrawn c false } }) rfl))
      (State.withdrawnSense_steps _ _).closeZone
  · exact .refl

theorem execContactQualified_steps (c : Chan) (high : Bool) :
    ∃ t, execContactQualified c high s = .next t ∧ Steps L Z A s t := by
  refine ⟨_, rfl, .trans (.single (.aside (t := { s with pins := { s.pins with contact := vset s.pins.contact c high } }) rfl)) ?_⟩
  split
  · exact (State.contactChange_steps _ _).closeZone
  · exact .refl

theorem execPrivacyQualified_steps (c : Chan) (high : Bool) :
    ∃ t, execPrivacyQualified c high s = .next t ∧ Steps L Z A s t := by
  refine ⟨_, rfl, .trans (.single (.aside (t := { s with pins := { s.pins with privacy := vset s.pins.privacy c high } }) rfl)) ?_⟩
  split
  · exact State.setChan_steps
  · exact .refl

theorem execHoldTimerExpiry_steps (c : Chan) : ∃ t, execHoldTimerExpiry c s = .next t ∧ Steps L Z A s t := by
  refine ⟨_, rfl, ?_⟩
  split
  · next h =>
    exact .closeZone (State.onZone_steps fun _ => (Zone.hold_keeps (by rw [h]; rfl)
      (fun _ f => f.elim (by rw [h]; rfl)) (by simp [h])).trans Zone.settle_keeps)
  · exact .refl

theorem execRelockDelayExpiry_steps (c : Chan) : ∃ t, execRelockDelayExpiry c s = .next t ∧ Steps L Z A s t := by
  refine ⟨_, rfl, ?_⟩
  split
  · next h =>
    exact .closeZone (State.onZone_steps fun _ => (Zone.waitClose_keeps (by rw [h]; rfl)
      (fun _ => by rw [h]; rfl) (by simp [h])).trans Zone.settle_keeps)
  · exact .refl

theorem execDoorHeldExpiry_steps (c : Chan) : ∃ t, execDoorHeldExpiry c s = .next t ∧ Steps L Z A s t := by
  refine ⟨_, rfl, ?_⟩
  split
  · exact .close (.trans State.setChan_steps (State.raise_steps _))
  · exact .refl

theorem execPassageEdge_steps (c : Chan) : ∃ t, execPassageEdge c s = .next t ∧ Steps L Z A s t := by
  refine ⟨_, rfl, ?_⟩
  split
  · exact .closeZone (.trans State.setChan_steps (State.passage_steps c))
  · exact .refl

theorem execPassWindowExpiry_steps (l : LaneNo) : ∃ t, execPassWindowExpiry l s = .next t ∧ Steps L Z A s t := by
  refine ⟨_, rfl, ?_⟩
  split
  · exact (State.abandonMovement_steps _ _).closeZone
  · exact .refl

theorem execDriveTimeout_steps (c : Chan) : ∃ t, execDriveTimeout c s = .next t ∧ Steps L Z A s t := by
  refine ⟨_, rfl, ?_⟩
  split
  · next h => exact .closeZone (.trans State.setChan_steps (State.fault_steps (by simp [h]) _))
  · next h => exact .closeZone (.trans State.setChan_steps (State.fault_steps (by simp [h]) _))
  · exact .refl

theorem execOvercurrentQualified_steps (c : Chan) : ∃ t, execOvercurrentQualified c s = .next t ∧ Steps L Z A s t := by
  refine ⟨_, rfl, ?_⟩
  split
  · next drives =>
    refine .closeZone (State.fault_steps (fun off => ?_) _)
    simp [off, ChanState.drives] at drives
  · exact .refl

theorem execRailUndervoltage_steps (g : Grp) : ∃ t, execRailUndervoltage g s = .next t ∧ Steps L Z A s t := by
  refine ⟨_, rfl, .trans (.single (.aside (t := { s with pins := { s.pins with railGood := vset s.pins.railGood g false } }) rfl)) ?_⟩
  split
  · exact .refl
  · exact Steps.closeZone (Relation.ReflTransGen.trans (State.onZone_steps fun _ => Zone.railLow_keeps) (State.notify_steps _))

theorem execRailGood_steps (g : Grp) : ∃ t, execRailGood g s = .next t ∧ Steps L Z A s t := by
  refine ⟨_, rfl, .trans (.single (.aside (t := { s with pins := { s.pins with railGood := vset s.pins.railGood g true } }) rfl)) ?_⟩
  split
  · exact .refl
  · exact Steps.closeZone (State.railToGood_steps g)

/-! ### The events of tills, clock and lines -/

theorem execArmTimerExpiry_steps (t : TillNo) : ∃ u, execArmTimerExpiry t s = .next u ∧ Steps L Z A s u := by
  refine ⟨_, rfl, ?_⟩
  split
  · exact (State.dropCharge_steps _ _).close
  · exact .refl

theorem execAnswerTimerExpiry_steps (t : TillNo) : ∃ u, execAnswerTimerExpiry t s = .next u ∧ Steps L Z A s u := by
  refine ⟨_, rfl, ?_⟩
  split
  · exact (State.standIn_steps _).close
  · exact .refl

theorem execMinuteTick_steps : ∃ t, execMinuteTick s = .next t ∧ Steps L Z A s t :=
  ⟨_, rfl, .close (.trans (.single (.aside (t := { s with clock := { s.clock with minuteMs := 0 } }) rfl))
    (State.ageCallers_steps.trans State.deadlineTick_steps))⟩

theorem execDeadlineExpired_steps : ∃ t, execDeadlineExpired s = .next t ∧ Steps L Z A s t := by
  refine ⟨_, rfl, ?_⟩
  split
  · exact State.deadlineTick_steps.close
  · exact .refl

theorem execSetupSaveEnd_steps (readsBack : Bool) : ∃ t, execSetupSaveEnd readsBack s = .next t ∧ Steps L Z A s t := by
  refine ⟨_, rfl, ?_⟩
  split
  · exact .close (.trans (.single (.aside rfl)) (State.notify_steps _))
  · exact .refl

theorem execLeaseExpiry_events : ∃ t, execLeaseExpiry s = .next t ∧ Events s t := by
  refine ⟨_, rfl, ?_⟩
  split
  · exact .trans (.single (.standalone true)) State.close_steps.events
  · exact .refl

theorem State.lineQualified_steps (v : Bool) : Steps L Z A s (s.lineQualified v) :=
  .trans (.single (.evac (e := { s.evac with line := v, lineCount := 0 }) fun _ => .inl rfl)) (.single (.aside rfl))

theorem execEvacuationLineAsserted_events : ∃ t, execEvacuationLineAsserted s = .next t ∧ Events s t := by
  refine ⟨_, rfl, ?_⟩
  split
  · exact .refl
  · next h =>
    have running : s.phase = .running := by simpa using (not_or.mp h).2
    exact .trans (State.lineQualified_steps true).events
      (.trans (State.sourceSet_events (s := s.lineQualified true) _ running) State.closeZone_steps.events)

theorem execEvacuationLineCleared_events : ∃ t, execEvacuationLineCleared s = .next t ∧ Events s t := by
  refine ⟨_, rfl, ?_⟩
  split
  · exact .refl
  · next h =>
    have running : s.phase = .running := by simpa using (not_or.mp h).2
    exact .trans (State.lineQualified_steps false).events
      (.trans (State.sourceCleared_steps (s := s.lineQualified false) _ running).events State.closeZone_steps.events)

theorem execStartUpEnd_events (lineLow : Bool) : ∃ t, execStartUpEnd lineLow s = .next t ∧ Events s t := by
  refine ⟨_, rfl, ?_⟩
  split
  · exact .refl
  · next info n lows starting =>
    exact .trans (.single (.settle lineLow starting)) (State.busOn_steps.close).events

/-- Every command answers a next state, which a run of events reaches. -/
theorem exec_events (i : Instr) (s : State) : ∃ t, exec i s = .next t ∧ Events s t := by
  have of_steps : ∀ {o : Out}, (∃ t, o = .next t ∧ Steps True True True s t) → ∃ t, o = .next t ∧ Events s t :=
    fun ⟨t, ho, h⟩ => ⟨t, ho, h.events⟩
  cases i with
  | cardPut tag body => exact ⟨_, rfl, State.request_goes fun _ _ => serveCardPut_steps⟩
  | cardGet tag body => exact ⟨_, rfl, State.request_goes fun _ _ => serveCardGet_steps⟩
  | cardDelete tag body => exact ⟨_, rfl, State.request_goes fun _ _ => serveCardDelete_steps⟩
  | cardStatus tag body => exact ⟨_, rfl, State.request_goes fun _ _ => serveCardStatus_steps⟩
  | cardRefuse tag body => exact ⟨_, rfl, State.request_goes fun _ _ => serveCardRefuse_steps⟩
  | presenceSet tag body => exact ⟨_, rfl, State.request_goes fun _ _ => servePresenceSet_steps⟩
  | tallyGet tag body => exact ⟨_, rfl, State.request_goes fun _ _ => serveTallyGet_steps⟩
  | ashoreList tag body => exact ⟨_, rfl, State.request_goes fun _ _ => serveAshoreList_steps⟩
  | channelOpen tag body => exact ⟨_, rfl, State.request_goes fun _ _ => serveChannelOpen_steps⟩
  | channelLockout tag body => exact ⟨_, rfl, State.request_goes fun _ _ => serveChannelLockout_steps⟩
  | channelStatus tag body => exact ⟨_, rfl, State.request_goes fun _ _ => serveChannelStatus_steps⟩
  | faultRead tag body => exact ⟨_, rfl, State.request_goes fun _ _ => serveFaultRead_steps⟩
  | alarmList tag body => exact ⟨_, rfl, State.request_goes fun _ _ => serveAlarmList_steps⟩
  | alarmClear tag body => exact ⟨_, rfl, State.request_goes fun _ _ => serveAlarmClear_steps⟩
  | alarmEnable tag body => exact ⟨_, rfl, State.request_goes fun _ _ => serveAlarmEnable_steps⟩
  | laneOpen tag body => exact ⟨_, rfl, State.request_goes fun _ _ => serveLaneOpen_steps⟩
  | laneClose tag body => exact ⟨_, rfl, State.request_goes fun _ _ => serveLaneClose_steps⟩
  | laneStatus tag body => exact ⟨_, rfl, State.request_goes fun _ _ => serveLaneStatus_steps⟩
  | deadlineSet tag body => exact ⟨_, rfl, State.request_goes fun _ _ => serveDeadlineSet_steps⟩
  | deadlineClear tag body => exact ⟨_, rfl, State.request_goes fun _ _ => serveDeadlineClear_steps⟩
  | deadlineGet tag body => exact ⟨_, rfl, State.request_goes fun _ _ => serveDeadlineGet_steps⟩
  | folioPut tag body => exact ⟨_, rfl, State.request_goes fun _ _ => serveFolioPut_steps⟩
  | folioGet tag body => exact ⟨_, rfl, State.request_goes fun _ _ => serveFolioGet_steps⟩
  | folioDelete tag body => exact ⟨_, rfl, State.request_goes fun _ _ => serveFolioDelete_steps⟩
  | chargeOpen tag body => exact ⟨_, rfl, State.request_goes fun _ running => serveChargeOpen_steps running⟩
  | chargeCancel tag body => exact ⟨_, rfl, State.request_goes fun _ _ => serveChargeCancel_steps⟩
  | authAnswer tag body => exact ⟨_, rfl, State.request_goes fun _ _ => serveAuthAnswer_steps⟩
  | tillStatus tag body => exact ⟨_, rfl, State.request_goes fun _ _ => serveTillStatus_steps⟩
  | journalFetch tag body => exact ⟨_, rfl, State.request_goes fun _ _ => serveJournalFetch_steps⟩
  | journalRelease tag body => exact ⟨_, rfl, State.request_goes fun _ _ => serveJournalRelease_steps⟩
  | chargeVoid tag body => exact ⟨_, rfl, State.request_goes fun _ _ => serveChargeVoid_steps⟩
  | leaseGrant tag body => exact ⟨_, rfl, State.request_goes fun _ _ => serveLeaseGrant_steps⟩
  | leaseEnd tag body => exact ⟨_, rfl, State.request_events fun _ _ => serveLeaseEnd_events⟩
  | timeSet tag body => exact ⟨_, rfl, State.request_goes fun _ _ => serveTimeSet_steps⟩
  | timeGet tag body => exact ⟨_, rfl, State.request_goes fun _ _ => serveTimeGet_steps⟩
  | evacuateSet tag body => exact ⟨_, rfl, State.request_events fun _ running => serveEvacuateSet_events running⟩
  | evacuateClear tag body => exact ⟨_, rfl, State.request_goes fun _ running => serveEvacuateClear_steps running⟩
  | readerStatus tag body => exact ⟨_, rfl, State.request_goes fun _ _ => serveReaderStatus_steps⟩
  | status tag body => exact ⟨_, rfl, State.request_goes fun _ _ => serveStatus_steps⟩
  | linkStatus tag body => exact ⟨_, rfl, State.request_goes fun _ _ => serveLinkStatus_steps⟩
  | setupReader tag body => exact ⟨_, rfl, State.request_goes fun _ _ => serveSetupReader_steps⟩
  | setupChannel tag body => exact ⟨_, rfl, State.request_events fun _ running => serveSetupChannel_events running⟩
  | setupLane tag body => exact ⟨_, rfl, State.request_goes fun _ _ => serveSetupLane_steps⟩
  | setupTill tag body => exact ⟨_, rfl, State.request_goes fun _ _ => serveSetupTill_steps⟩
  | setupTiming tag body => exact ⟨_, rfl, State.request_goes fun _ _ => serveSetupTiming_steps⟩
  | setupPolicy tag body => exact ⟨_, rfl, State.request_goes fun _ _ => serveSetupPolicy_steps⟩
  | setupReaderGet tag body => exact ⟨_, rfl, State.request_goes fun _ _ => framed_steps getRecord_steps⟩
  | setupChannelGet tag body => exact ⟨_, rfl, State.request_goes fun _ _ => framed_steps getRecord_steps⟩
  | setupLaneGet tag body => exact ⟨_, rfl, State.request_goes fun _ _ => framed_steps getRecord_steps⟩
  | setupTillGet tag body => exact ⟨_, rfl, State.request_goes fun _ _ => framed_steps getRecord_steps⟩
  | setupTimingGet tag body => exact ⟨_, rfl, State.request_goes fun _ _ => framed_steps getRecord_steps⟩
  | setupPolicyGet tag body => exact ⟨_, rfl, State.request_goes fun _ _ => framed_steps getRecord_steps⟩
  | setupSave tag body => exact ⟨_, rfl, State.request_goes fun _ _ => serveSetupSave_steps⟩
  | maintenanceEnter tag body => exact ⟨_, rfl, State.request_goes fun _ _ => serveMaintenanceEnter_steps⟩
  | maintenanceLeave tag body => exact ⟨_, rfl, State.request_goes fun _ _ => serveMaintenanceLeave_steps⟩
  | restart tag body => exact execRestart_events
  | unknownKind kind tag body => exact ⟨_, rfl, State.request_goes fun _ _ => .refl⟩
  | hostOctetReceived octet => exact of_steps (execHostOctetReceived_steps octet)
  | gapTimeout => exact of_steps execGapTimeout_steps
  | hostReadyHigh => exact of_steps execHostReadyHigh_steps
  | transmitFrameEnd => exact of_steps execTransmitFrameEnd_steps
  | pollExchangeEnd reply => exact of_steps (execPollExchangeEnd_steps reply)
  | probeExchangeEnd reply => exact of_steps (execProbeExchangeEnd_steps reply)
  | assignExchangeEnd reply => exact of_steps (execAssignExchangeEnd_steps reply)
  | readerReplyWindow => exact of_steps execReaderReplyWindow_steps
  | queryHoldExpiry card => exact of_steps (execQueryHoldExpiry_steps card)
  | repeatTimerExpiry reader => exact of_steps ⟨_, rfl, State.setReader_steps _ _⟩
  | boltWithdrawnSense c asserted => exact of_steps (execBoltWithdrawnSense_steps c asserted)
  | boltHomeSense c asserted => exact of_steps (execBoltHomeSense_steps c asserted)
  | holdTimerExpiry c => exact of_steps (execHoldTimerExpiry_steps c)
  | relockDelayExpiry c => exact of_steps (execRelockDelayExpiry_steps c)
  | doorHeldExpiry c => exact of_steps (execDoorHeldExpiry_steps c)
  | contactQualified c high => exact of_steps (execContactQualified_steps c high)
  | privacyQualified c high => exact of_steps (execPrivacyQualified_steps c high)
  | passageEdge c => exact of_steps (execPassageEdge_steps c)
  | passWindowExpiry lane => exact of_steps (execPassWindowExpiry_steps lane)
  | driveTimeout c => exact of_steps (execDriveTimeout_steps c)
  | overcurrentQualified c => exact of_steps (execOvercurrentQualified_steps c)
  | positionLost c => exact of_steps (execPositionLost_steps c)
  | railUndervoltage g => exact of_steps (execRailUndervoltage_steps g)
  | railGood g => exact of_steps (execRailGood_steps g)
  | armTimerExpiry till => exact of_steps (execArmTimerExpiry_steps till)
  | answerTimerExpiry till => exact of_steps (execAnswerTimerExpiry_steps till)
  | leaseExpiry => exact execLeaseExpiry_events
  | shipTimeAdvance => exact of_steps ⟨_, rfl, .single (.aside rfl)⟩
  | minuteTick => exact of_steps execMinuteTick_steps
  | deadlineExpired => exact of_steps execDeadlineExpired_steps
  | evacuationLineAsserted => exact execEvacuationLineAsserted_events
  | evacuationLineCleared => exact execEvacuationLineCleared_events
  | setupSaveEnd readsBack => exact of_steps (execSetupSaveEnd_steps readsBack)
  | powerUp damage => exact of_steps ⟨_, rfl, State.loadStart_steps _ _ _⟩
  | resetInput damage retentionDamaged => exact of_steps ⟨_, rfl, State.loadStart_steps _ _ _⟩
  | mainSupplyLoss damage retentionDamaged => exact of_steps ⟨_, rfl, State.loadStart_steps _ _ _⟩
  | retentionSupplyLoss => exact of_steps ⟨_, rfl, .single (.aside rfl)⟩
  | startUpEnd lineLow => exact execStartUpEnd_events lineLow

/-- Every step answers a next state, which a run of events reaches. -/
theorem step_events (s : State) : ∃ t, step s = .next t ∧ Events s t := by
  unfold step
  split
  · next i rest _ =>
    obtain ⟨t, ht, events⟩ := exec_events i { s with pending := rest }
    exact ⟨t, ht, .trans (Steps.events (.single (.aside rfl))) events⟩
  · unfold idle
    split
    · next i _ =>
      obtain ⟨t, ht, events⟩ := exec_events i s.fresh
      exact ⟨t, ht, .trans (Steps.events (.single (.aside rfl))) events⟩
    · exact ⟨_, rfl, State.tick_steps.events⟩

/-- A law that every event keeps holds after a step. -/
theorem step_induct {P : State → Prop} (keeps : ∀ s t, Event s t → P s → P t) {s t : State} (h : step s = .next t) (hs : P s) :
    P t := by
  obtain ⟨u, hu, events⟩ := step_events s
  obtain rfl := Host.Outcome.next.inj (h.symm.trans hu)
  clear h hu
  induction events with
  | refl => exact hs
  | tail _ event ih => exact keeps _ _ event ih

end Sys2Proof.Machine
end

section
/-! The laws of journal, alarm list and host link (R81, R84, R133, R134, R177, R178, R180), and what holds of the step itself. -/

namespace Sys2Proof.Machine

variable {L Z A : Prop} {s t : State}

/-! ## What a change of a known entry leaves alone -/

section
variable (card : CardNo) (f : Known → Known) (s : State)

@[simp] theorem State.changeKnown_link : (s.changeKnown card f).link = s.link := by
  obtain ⟨_, _, _, h, -⟩ := State.changeKnown_frame card f s
  rw [h]

@[simp] theorem State.changeKnown_alarms : (s.changeKnown card f).alarms = s.alarms := by
  obtain ⟨_, _, _, h, -⟩ := State.changeKnown_frame card f s
  rw [h]

@[simp] theorem State.changeKnown_journal : (s.changeKnown card f).journal = s.journal := by
  obtain ⟨_, _, _, h, -⟩ := State.changeKnown_frame card f s
  rw [h]

@[simp] theorem State.changeKnown_authority : (s.changeKnown card f).authority = s.authority := by
  obtain ⟨_, _, _, h, -⟩ := State.changeKnown_frame card f s
  rw [h]

@[simp] theorem State.changeKnown_tills : (s.changeKnown card f).tills = s.tills := by
  obtain ⟨_, _, _, h, -⟩ := State.changeKnown_frame card f s
  rw [h]

@[simp] theorem State.changeKnown_zone : (s.changeKnown card f).zone = s.zone := by
  obtain ⟨_, _, _, h, -⟩ := State.changeKnown_frame card f s
  rw [h]

@[simp] theorem State.changeKnown_setup : (s.changeKnown card f).setup = s.setup := by
  obtain ⟨_, _, _, h, -⟩ := State.changeKnown_frame card f s
  rw [h]

@[simp] theorem State.changeKnown_phase : (s.changeKnown card f).phase = s.phase := by
  obtain ⟨_, _, _, h, -⟩ := State.changeKnown_frame card f s
  rw [h]

@[simp] theorem State.changeKnown_mode : (s.changeKnown card f).mode = s.mode := by
  obtain ⟨_, _, _, h, -⟩ := State.changeKnown_frame card f s
  rw [h]

@[simp] theorem State.changeKnown_evac : (s.changeKnown card f).evac = s.evac := by
  obtain ⟨_, _, _, h, -⟩ := State.changeKnown_frame card f s
  rw [h]

end

/-! ## The capacities -/

theorem Journal.law_reset : State.reset.journal.law := by
  simp [Journal.law, State.reset, Config.lastSequence]

theorem AlarmList.law_reset : State.reset.alarms.law := by simp [AlarmList.law, State.reset]

/-- What a change does to the journal keeps its law. -/
theorem Change.journal_law (h : Change L Z A s t) (law : s.journal.law) : t.journal.law := by
  cases h with
  | aside h => rw [h]; exact law
  | journal keeps => exact keeps law
  | restart => exact Journal.law_reset
  | accept | alight | refer | settle => simpa [State.disengage] using law
  | _ => exact law

/-- What a change does to the alarm list keeps its law. -/
theorem Change.alarms_law (h : Change L Z A s t) (law : s.alarms.law) : t.alarms.law := by
  cases h with
  | aside h => rw [h]; exact law
  | alarms keeps => exact keeps law
  | restart | keep => exact AlarmList.law_reset
  | accept | alight | refer | settle => simpa [State.disengage] using law
  | _ => exact law

/-- What a change does to the host link keeps its law. -/
theorem Change.link_law (h : Change L Z A s t) (law : s.link.law) : t.link.law := by
  cases h with
  | aside h => rw [h]; exact law
  | link keeps => exact keeps law
  | restart | keep => exact ⟨Nat.zero_le _, Nat.zero_le _, Nat.zero_le _⟩
  | accept | alight | refer | settle => simpa [State.disengage] using law
  | _ => exact law

/-- Every event is a run of changes, of which nothing of the table, the zone or the authority is known. -/
theorem Event.changes (h : Event s t) : Steps False False False s t := h.steps False.elim

theorem step_keeps {P : State → Prop} (keeps : ∀ s t, Change False False False s t → P s → P t) (h : step s = .next t)
    (hs : P s) : P t :=
  step_induct (fun _ _ event law => event.changes.induct keeps law) h hs

end Sys2Proof.Machine

namespace Sys2Proof.Steps
open Sys2Proof.Machine

/-- Settles O11: each change keeps each of the three laws. -/
theorem everyStepKeepsTheCapacities : Obligations.EveryStepKeepsTheCapacities := by
  intro s t h
  exact ⟨step_keeps (P := fun u => u.journal.law) (fun _ _ change => change.journal_law) h,
    step_keeps (P := fun u => u.alarms.law) (fun _ _ change => change.alarms_law) h,
    step_keeps (P := fun u => u.link.law) (fun _ _ change => change.link_law) h⟩

/-- Settles O3: every command has a next state. -/
theorem everyStepGoesOn : Obligations.EveryStepGoesOn := by
  intro s
  obtain ⟨t, next, -⟩ := step_events s
  exact ⟨t, next⟩

/-- Settles O1. -/
theorem stepRunsTheFrontCommand : Obligations.StepRunsTheFrontCommand := fun _ _ _ => rfl

end Sys2Proof.Steps
end

section
/-! The law of the card table (R5): a table read by position, what a lookup finds in a lawful table, and the law kept by every change. -/

namespace Sys2Proof.Machine

/-! ## A canonical table, read by position -/

theorem mem_of_tget {α : Type} {t : List (Nat × α)} {i : Nat} {x : α} (h : tget t i = some x) : (i, x) ∈ t := by
  induction t with
  | nil => simp at h
  | cons y t ih =>
    rw [tget_cons] at h
    split at h
    · next hy =>
      obtain rfl := Option.some.inj h
      simp [← hy]
    · exact List.mem_cons_of_mem _ (ih h)

theorem Rising.tget_of_mem {α : Type} {t : List (Nat × α)} (h : Rising t) {i : Nat} {x : α} (hm : (i, x) ∈ t) :
    tget t i = some x := by
  induction t with
  | nil => simp at hm
  | cons y t ih =>
    obtain ⟨first, rest⟩ := List.pairwise_cons.mp h
    rw [tget_cons]
    rcases List.mem_cons.mp hm with rfl | hm
    · simp
    · rw [if_neg (first _ hm).ne]
      exact ih rest hm

theorem Rising.mem_iff {α : Type} {t : List (Nat × α)} (h : Rising t) {i : Nat} {x : α} : (i, x) ∈ t ↔ tget t i = some x :=
  ⟨h.tget_of_mem, mem_of_tget⟩

theorem tget_map {α β : Type} (f : Nat × α → β) (t : List (Nat × α)) (i : Nat) :
    tget (t.map (fun x => (x.1, f x))) i = (tget t i).map (fun a => f (i, a)) := by
  induction t with
  | nil => rfl
  | cons y t ih =>
    rw [List.map_cons, tget_cons, tget_cons, ih]
    split
    · next hy => rw [← hy]; rfl
    · rfl

theorem Rising.map {α β : Type} {t : List (Nat × α)} (h : Rising t) (f : Nat × α → β) :
    Rising (t.map (fun x => (x.1, f x))) := List.pairwise_map.mpr h

theorem Rising.filterMap {α β : Type} {t : List (Nat × α)} (h : Rising t) (f : α → Option β) :
    Rising (t.filterMap (fun x => (f x.2).map (fun b => (x.1, b)))) := by
  refine List.pairwise_filterMap.mpr (h.imp ?_)
  rintro a a' lt b hb b' hb'
  obtain ⟨_, -, rfl⟩ := Option.map_eq_some_iff.mp hb
  obtain ⟨_, -, rfl⟩ := Option.map_eq_some_iff.mp hb'
  exact lt

theorem Rising.tget_filterMap {α β : Type} {t : List (Nat × α)} (h : Rising t) (f : α → Option β) (i : Nat) :
    tget (t.filterMap (fun x => (f x.2).map (fun b => (x.1, b)))) i = (tget t i).bind f := by
  ext b
  rw [← (h.filterMap f).mem_iff, List.mem_filterMap, Option.bind_eq_some_iff]
  constructor
  · rintro ⟨⟨j, a⟩, hm, hb⟩
    obtain ⟨b', hb', e⟩ := Option.map_eq_some_iff.mp hb
    obtain ⟨rfl, rfl⟩ := Prod.mk.inj e
    exact ⟨a, h.mem_iff.mp hm, hb'⟩
  · rintro ⟨a, ha, hb⟩
    exact ⟨(i, a), h.mem_iff.mpr ha, by rw [hb]; rfl⟩

/-! ## The law, by position -/

/-- Every entry stands in the bucket of its card number, and no card number has two entries (R5). -/
def placed (cards : List (Nat × Entry)) : Prop :=
  (∀ i e, tget cards i = some e → i ∈ wayIndexes e.card) ∧
    ∀ i j e e', tget cards i = some e → tget cards j = some e' → e.card = e'.card → i = j

theorem mem_wayIndexes {i : Nat} {card : CardNo} : i ∈ wayIndexes card ↔ i / Config.ways = bucket card := by
  simp only [wayIndexes, List.mem_cons, List.not_mem_nil, or_false, Config.ways]
  omega

theorem State.tablesLaw_iff {s : State} : s.tablesLaw ↔ Rising s.cards ∧ Rising s.folios ∧ placed s.cards ∧
    ∀ slot f, tget s.folios slot = some f → slot < Config.folioSlots := by
  unfold State.tablesLaw placed
  constructor
  · rintro ⟨hc, hf, buckets, cards, slots⟩
    exact ⟨hc, hf, ⟨fun i e he => mem_wayIndexes.mpr (buckets _ (mem_of_tget he)),
      fun i j e e' he he' h => cards _ (mem_of_tget he) _ (mem_of_tget he') h⟩, fun slot f h => slots _ (mem_of_tget h)⟩
  · rintro ⟨hc, hf, ⟨buckets, cards⟩, slots⟩
    exact ⟨hc, hf, fun x hx => mem_wayIndexes.mp (buckets _ _ (hc.tget_of_mem hx)),
      fun x hx y hy h => cards _ _ _ _ (hc.tget_of_mem hx) (hc.tget_of_mem hy) h, fun x hx => slots _ _ (hf.tget_of_mem hx)⟩

section
variable {cards : List (Nat × Entry)} {card : CardNo} {i : Nat} {e : Entry}

/-- A card number that the lookup does not find has no entry in its bucket. -/
theorem absent_of_lookup (h : lookup cards card = none) (hi : i ∈ wayIndexes card) (he : tget cards i = some e) : e.card ≠ card := by
  intro hc
  have := List.findSome?_eq_none_iff.mp h i hi
  simp [he, hc] at this

/-- In a lawful table a lookup finds the entry of the card. -/
theorem placed.lookup (h : placed cards) (he : tget cards i = some e) : lookup cards e.card = some (i, e) := by
  obtain ⟨buckets, unique⟩ := h
  rcases found : Machine.lookup cards e.card with _ | ⟨j, e'⟩
  · exact absurd rfl (absent_of_lookup found (buckets i e he) he)
  · obtain rfl := unique _ _ _ _ he (tget_of_lookup found) (card_of_lookup found).symm
    rw [he.symm.trans (tget_of_lookup found) |> Option.some.inj]

theorem placed.absent (h : placed cards) (none : Machine.lookup cards card = none) (he : tget cards i = some e) :
    e.card ≠ card := by
  rintro rfl
  rw [h.lookup he] at none
  cases none

/-- In a lawful table the known entry of a card is the one that stands in it. -/
theorem State.known_iff {s : State} (h : placed s.cards) {card : CardNo} {k : Known} :
    s.known card = some k ↔ ∃ i, tget s.cards i = some ⟨card, .known k⟩ := by
  constructor
  · intro hk
    unfold State.known at hk
    split at hk
    · next i d k' found =>
      obtain rfl := Option.some.inj hk
      obtain rfl : d = card := card_of_lookup found
      exact ⟨i, tget_of_lookup found⟩
    · cases hk
  · rintro ⟨i, hi⟩
    exact State.known_of_lookup (h.lookup (e := ⟨card, .known k⟩) hi)

/-! ## The law kept -/

/-- An entry written for its card, where no other position holds one. -/
theorem placed.write (h : placed cards) {e : Entry} (way : i ∈ wayIndexes e.card)
    (other : ∀ j e', j ≠ i → tget cards j = some e' → e'.card ≠ e.card) : placed (tput i e cards) := by
  obtain ⟨buckets, unique⟩ := h
  have get : ∀ {j x}, tget (tput i e cards) j = some x → (j = i ∧ x = e) ∨ (j ≠ i ∧ tget cards j = some x) := by
    intro j x hx
    by_cases hj : j = i
    · subst hj
      rw [tget_tput_self] at hx
      exact .inl ⟨rfl, (Option.some.inj hx).symm⟩
    · rw [tget_tput_other _ _ _ _ hj] at hx
      exact .inr ⟨hj, hx⟩
  refine ⟨fun j x hx => ?_, fun j k x y hx hy same => ?_⟩
  · rcases get hx with ⟨rfl, rfl⟩ | ⟨-, hx⟩
    · exact way
    · exact buckets j x hx
  · rcases get hx with ⟨rfl, rfl⟩ | ⟨hj, old⟩ <;> rcases get hy with ⟨rfl, rfl⟩ | ⟨hk, old'⟩
    · rfl
    · exact absurd same.symm (other _ _ hk old')
    · exact absurd same (other _ _ hj old)
    · exact unique _ _ _ _ old old' same

/-- Fewer entries, or entries with another body, in their places. -/
theorem placed.of_fewer {cards' : List (Nat × Entry)} (h : placed cards)
    (fewer : ∀ i e', tget cards' i = some e' → ∃ e, tget cards i = some e ∧ e.card = e'.card) : placed cards' := by
  obtain ⟨buckets, unique⟩ := h
  refine ⟨fun i e' he' => ?_, fun i j e e' he he' same => ?_⟩
  · obtain ⟨e, he, hc⟩ := fewer i e' he'
    rw [← hc]
    exact buckets i e he
  · obtain ⟨x, hx, hxc⟩ := fewer i e he
    obtain ⟨y, hy, hyc⟩ := fewer j e' he'
    exact unique i j x y hx hy (by rw [hxc, hyc, same])

end

/-! ## The folio table -/

@[simp] theorem tget_changeFolio (f : Folio → Folio) (slot k : Nat) (fs : List (Nat × Folio)) :
    tget (changeFolio f slot fs) k = if k = slot then (tget fs k).map f else tget fs k := by
  unfold changeFolio
  split
  · next x hx =>
    split
    · next hk => rw [hk, tget_tput_self, hx]; rfl
    · next hk => rw [tget_tput_other _ _ _ _ hk]
  · next hx =>
    split
    · next hk => rw [hk, hx]; rfl
    · rfl

/-- A folio record after its references have moved: the reference of the old slot lost and that of the new one gained (R9). -/
theorem tget_moveRef (old new : Option Nat) (k : Nat) (fs : List (Nat × Folio)) :
    tget (moveRef old new fs) k = (tget fs k).map (fun f =>
      if old = new then f
      else { f with refs := f.refs - (if old = some k then 1 else 0) + (if new = some k then 1 else 0) }) := by
  unfold moveRef
  split
  · simp
  · next hne =>
    cases old with
    | none =>
      cases new with
      | none => exact absurd rfl hne
      | some j =>
        simp only [tget_changeFolio, Option.some.injEq]
        by_cases hj : k = j
        · subst hj; simp
        · simp [hj, Ne.symm hj]
    | some i =>
      cases new with
      | none =>
        simp only [tget_changeFolio, Option.some.injEq]
        by_cases hi : k = i
        · subst hi; simp
        · simp [hi, Ne.symm hi]
      | some j =>
        have hij : i ≠ j := fun e => hne (by rw [e])
        simp only [tget_changeFolio, Option.some.injEq]
        by_cases hi : k = i
        · subst hi; simp [hij, hij.symm]
        · by_cases hj : k = j
          · subst hj; simp [hi, Ne.symm hi]
          · simp [hi, hj, Ne.symm hi, Ne.symm hj]

theorem tget_moveRef_isSome (old new : Option Nat) (k : Nat) (fs : List (Nat × Folio)) :
    (tget (moveRef old new fs) k).isSome = (tget fs k).isSome := by
  rw [tget_moveRef, Option.isSome_map]

/-! ## Each change keeps the law -/

variable {L Z A : Prop} {s t : State}

/-- The one write of the card table keeps the law of the tables where it keeps the entries in their places. -/
theorem State.tablesLaw_setEntry {i : Nat} {e : Option Entry} (law : s.tablesLaw) (cards : placed (twrite i e s.cards)) :
    (s.setEntry i e).tablesLaw := by
  obtain ⟨hc, hf, -, slots⟩ := State.tablesLaw_iff.mp law
  refine State.tablesLaw_iff.mpr ⟨hc.twrite i e, hf.moveRef _ _, cards, fun slot f hf' => ?_⟩
  have : (tget s.folios slot).isSome := by
    rw [← tget_moveRef_isSome]
    exact Option.isSome_of_eq_some hf'
  obtain ⟨f', hf'⟩ := Option.isSome_iff_exists.mp this
  exact slots slot f' hf'

theorem State.tablesLaw_setEntry_some {i : Nat} {e : Entry} (law : s.tablesLaw) (way : i ∈ wayIndexes e.card)
    (other : ∀ j e', j ≠ i → tget s.cards j = some e' → e'.card ≠ e.card) : (s.setEntry i (some e)).tablesLaw := by
  obtain ⟨-, -, cards, -⟩ := State.tablesLaw_iff.mp law
  exact State.tablesLaw_setEntry law (cards.write way other)

/-- The entry of a card written again in its place. -/
theorem State.tablesLaw_setEntry_again {i : Nat} {e e' : Entry} (law : s.tablesLaw) (found : tget s.cards i = some e)
    (card : e'.card = e.card) : (s.setEntry i (some e')).tablesLaw := by
  obtain ⟨-, -, ⟨buckets, unique⟩, -⟩ := State.tablesLaw_iff.mp law
  refine State.tablesLaw_setEntry_some law (by rw [card]; exact buckets _ _ found) fun j x hj hx same => ?_
  exact hj (unique _ _ _ _ hx found (by rw [same, card]))

/-- The first entry of a card, in a way of its bucket. -/
theorem State.tablesLaw_setEntry_new {i : Nat} {e : Entry} (law : s.tablesLaw) (absent : lookup s.cards e.card = none)
    (way : i ∈ wayIndexes e.card) : (s.setEntry i (some e)).tablesLaw := by
  obtain ⟨-, -, cards, -⟩ := State.tablesLaw_iff.mp law
  exact State.tablesLaw_setEntry_some law way fun _ _ _ hx => cards.absent absent hx

theorem State.tablesLaw_setEntry_none {i : Nat} (law : s.tablesLaw) : (s.setEntry i none).tablesLaw := by
  obtain ⟨hc, -, cards, -⟩ := State.tablesLaw_iff.mp law
  refine State.tablesLaw_setEntry law (cards.of_fewer fun j e' he' => ⟨e', ?_, rfl⟩)
  by_cases hj : j = i
  · subst hj
    rw [tget_twrite_self _ _ _ hc] at he'
    cases he'
  · rwa [tget_twrite_other _ _ _ _ hj] at he'

theorem State.tablesLaw_changeKnown {card : CardNo} {f : Known → Known} (law : s.tablesLaw) :
    (s.changeKnown card f).tablesLaw := by
  unfold State.changeKnown
  split
  · next i d k found => exact State.tablesLaw_setEntry_again law (tget_of_lookup found) (card_of_lookup found).symm
  · exact law

theorem State.tablesLaw_reset : State.reset.tablesLaw := by simp [State.tablesLaw, State.reset]

theorem keptCards_tget {cards : List (Nat × Entry)} (h : Rising cards) (i : Nat) :
    tget (keptCards cards) i = (tget cards i).bind Entry.kept := h.tget_filterMap Entry.kept i

theorem keptCards_rising {cards : List (Nat × Entry)} (h : Rising cards) : Rising (keptCards cards) := h.filterMap Entry.kept

theorem keptFolios_tget (cards : List (Nat × Entry)) (folios : List (Nat × Folio)) (slot : Nat) :
    tget (keptFolios cards folios) slot = (tget folios slot).map (fun f => { f with refs := refsTo cards slot }) :=
  tget_map (fun x : Nat × Folio => ({ x.2 with refs := refsTo cards x.1 } : Folio)) folios slot

theorem keptFolios_rising {cards : List (Nat × Entry)} {folios : List (Nat × Folio)} (h : Rising folios) :
    Rising (keptFolios cards folios) := h.map (fun x => { x.2 with refs := refsTo cards x.1 })

theorem Entry.kept_card {e e' : Entry} (h : e.kept = some e') : e'.card = e.card := by
  unfold Entry.kept at h
  split at h
  · obtain rfl := Option.some.inj h
    rfl
  · cases h

theorem Change.tablesLaw (h : Change L Z A s t) (law : s.tablesLaw) : t.tablesLaw := by
  cases h with
  | aside h => rw [h]; exact law
  | putFolio place =>
    obtain ⟨hc, hf, cards, slots⟩ := State.tablesLaw_iff.mp law
    refine State.tablesLaw_iff.mpr ⟨hc, hf.tput _ _, cards, fun k x hx => ?_⟩
    rcases mem_tput _ _ _ _ (mem_of_tget hx) with h | h
    · obtain ⟨rfl, -⟩ := Prod.mk.inj h
      rcases place with place | place
      · exact place
      · obtain ⟨old, hold⟩ := Option.isSome_iff_exists.mp place
        exact slots _ old hold
    · exact slots _ _ (hf.tget_of_mem h)
  | dropFolio =>
    obtain ⟨hc, hf, cards, slots⟩ := State.tablesLaw_iff.mp law
    exact State.tablesLaw_iff.mpr ⟨hc, hf.tdel _, cards, fun k x hx => slots k x (hf.tget_of_mem (mem_tdel _ _ _ (mem_of_tget hx)))⟩
  | rewrite found => exact State.tablesLaw_setEntry_again law found rfl
  | insert absent way => exact State.tablesLaw_setEntry_new law absent way
  | query absent way => exact State.tablesLaw_setEntry_new law absent way
  | resolve found => exact State.tablesLaw_setEntry_again law found rfl
  | remove => exact State.tablesLaw_setEntry_none law
  | hold =>
    obtain ⟨hc, hf, cards, slots⟩ := State.tablesLaw_iff.mp law
    refine State.tablesLaw_iff.mpr ⟨hc.map (fun x => x.2.tick), hf, cards.of_fewer fun i e' he' => ?_, slots⟩
    obtain ⟨e, he, rfl⟩ := Option.map_eq_some_iff.mp ((tget_map (fun x => x.2.tick) s.cards i).symm.trans he')
    exact ⟨e, he, rfl⟩
  | accept | refer => exact State.tablesLaw_changeKnown law
  | alight => exact State.tablesLaw_changeKnown (s := { s with zone := _ }) law
  | settle => exact State.tablesLaw_changeKnown law
  | restart => exact State.tablesLaw_reset
  | keep =>
    obtain ⟨hc, hf, cards, slots⟩ := State.tablesLaw_iff.mp law
    refine State.tablesLaw_iff.mpr ⟨keptCards_rising hc, keptFolios_rising hf, cards.of_fewer fun i e' he' => ?_, fun slot f hf' => ?_⟩
    · obtain ⟨e, he, kept⟩ := Option.bind_eq_some_iff.mp ((keptCards_tget hc i).symm.trans he')
      exact ⟨e, he, (Entry.kept_card kept).symm⟩
    · obtain ⟨f', h, -⟩ := Option.map_eq_some_iff.mp ((keptFolios_tget _ _ slot).symm.trans hf')
      exact slots slot f' h
  | _ => exact law

/-- An event on lawful tables leaves them lawful, as a run of changes whose removals are known to free no engaged entry. -/
theorem Event.lawful_steps (h : Event s t) (law : s.tablesLaw) : Steps True False False s t :=
  h.steps fun _ => law.1

theorem Event.tablesLaw (h : Event s t) (law : s.tablesLaw) : t.tablesLaw :=
  (h.lawful_steps law).induct (P := State.tablesLaw) (fun _ _ change => change.tablesLaw) law

theorem step_keeps_of_tables {P : State → Prop} (keeps : ∀ s t, Change True False False s t → s.tablesLaw → P s → P t)
    (h : step s = .next t) (hs : s.tablesLaw ∧ P s) : t.tablesLaw ∧ P t :=
  step_induct (P := fun u => u.tablesLaw ∧ P u) (fun _ _ event ⟨law, hp⟩ => (event.lawful_steps law).induct (P := fun u => u.tablesLaw ∧ P u)
    (fun _ _ change ⟨law, hp⟩ => ⟨change.tablesLaw law, keeps _ _ change law hp⟩) ⟨law, hp⟩) h hs

end Sys2Proof.Machine

namespace Sys2Proof.Steps
open Sys2Proof.Machine

/-- Settles O7: each change keeps the entries in their places. -/
theorem everyStepKeepsTheTablesLaw : Obligations.EveryStepKeepsTheTablesLaw := by
  intro s t law h
  exact step_keeps (fun _ _ change => change.tablesLaw) h law

end Sys2Proof.Steps
end

section
/-! The laws of the tally (R20) and of the folios (R9, R112, R115): what the one write of the card table counts, and the laws kept by
every change. -/

namespace Sys2Proof.Machine

/-! ## Counting a table -/

/-- Whether the value at a position, if there is one, counts. -/
def tells {α : Type} (p : α → Bool) (x : Option α) : Nat := if x.any p then 1 else 0

@[simp] theorem tells_none {α : Type} (p : α → Bool) : tells p none = 0 := rfl

theorem tells_some {α : Type} (p : α → Bool) (x : α) : tells p (some x) = if p x then 1 else 0 := rfl

section
variable {α : Type} {t : List (Nat × α)} (p : α → Bool) (i : Nat)

theorem countP_cons_tells (y : Nat × α) (t : List (Nat × α)) :
    (y :: t).countP (fun x => p x.2) = t.countP (fun x => p x.2) + tells p (some y.2) := List.countP_cons

theorem countP_tput (h : Rising t) (x : α) :
    (tput i x t).countP (fun y => p y.2) + tells p (tget t i) = t.countP (fun y => p y.2) + tells p (some x) := by
  induction t with
  | nil => simp [tput, tells_some]
  | cons y t ih =>
    obtain ⟨first, rest⟩ := List.pairwise_cons.mp h
    rw [tget_cons]
    unfold tput
    split
    · simp only [countP_cons_tells]
      omega
    · split
      · next lt =>
        have absent : tget t i = none := tget_none_of_lt i t fun z hz => Nat.lt_trans lt (first z hz)
        simp only [countP_cons_tells, absent, tells_none, Nat.add_zero]
      · have := ih rest
        simp only [countP_cons_tells]
        omega

theorem countP_tdel : (tdel i t).countP (fun y => p y.2) + tells p (tget t i) = t.countP (fun y => p y.2) := by
  induction t with
  | nil => rfl
  | cons y t ih =>
    rw [tget_cons]
    unfold tdel
    split
    · rw [countP_cons_tells]
    · simp only [countP_cons_tells]
      omega

/-- What a write of a position counts: the old value lost and the new one gained. -/
theorem countP_twrite (h : Rising t) (x : Option α) :
    (twrite i x t).countP (fun y => p y.2) + tells p (tget t i) = t.countP (fun y => p y.2) + tells p x := by
  cases x with
  | none => exact countP_tdel p i
  | some x => exact countP_tput p i h x

theorem tells_le_countP : tells p (tget t i) ≤ t.countP (fun y => p y.2) := by
  rw [← countP_tdel p i]
  exact Nat.le_add_left _ _

end

/-! ## The tally -/

theorem Tally.ext_count {t t' : Tally} (h : ∀ c p, t.count c p = t'.count c p) : t = t' := by
  cases t
  cases t'
  simp only [Tally.mk.injEq]
  exact ⟨h .guest .aboard, h .guest .ashore, h .crew .aboard, h .crew .ashore, h .caller .aboard, h .caller .ashore⟩

theorem Tally.count_change (f : Nat → Nat) (t : Tally) (c c' : Category) (p p' : Presence) :
    (t.change f c p).count c' p' = if (c, p) = (c', p') then f (t.count c' p') else t.count c' p' := by
  cases c <;> cases p <;> cases c' <;> cases p' <;> rfl

/-- A count after an entry has moved in the tally: the old place lost and the new one gained (R20). -/
theorem Tally.count_move (old new : Option (Category × Presence)) (t : Tally) (c : Category) (p : Presence) :
    (t.move old new).count c p =
      if old = new then t.count c p
      else t.count c p - (if old = some (c, p) then 1 else 0) + (if new = some (c, p) then 1 else 0) := by
  unfold Tally.move
  split
  · rfl
  · next hne =>
    cases old with
    | none =>
      cases new with
      | none => exact absurd rfl hne
      | some n =>
        simp only [Tally.count_change, Option.some.injEq]
        split <;> simp
    | some o =>
      cases new with
      | none =>
        simp only [Tally.count_change, Option.some.injEq]
        split <;> simp
      | some n =>
        have hon : o ≠ n := fun e => hne (by rw [e])
        simp only [Tally.count_change, Option.some.injEq]
        by_cases hn : n = (c, p)
        · subst hn; simp [hon]
        · by_cases ho : o = (c, p)
          · subst ho; simp [hn]
          · simp [hn, ho]

/-- The entry stands in a count of the tally. -/
def Entry.countsIn (c : Category) (p : Presence) (e : Entry) : Bool := e.tallied = some (c, p)

theorem count_recountTally (cards : List (Nat × Entry)) (c : Category) (p : Presence) :
    (recountTally cards).count c p = cards.countP (fun x => x.2.countsIn c p) := by
  have fold : ∀ t : Tally, (cards.foldl (fun t x => t.move none x.2.tallied) t).count c p =
      t.count c p + cards.countP (fun x => x.2.countsIn c p) := by
    induction cards with
    | nil => exact fun _ => rfl
    | cons x cards ih =>
      intro t
      rw [List.foldl_cons, ih, Tally.count_move, List.countP_cons]
      cases hx : x.2.tallied with
      | none => simp [Entry.countsIn, hx]
      | some n => simp only [Entry.countsIn, hx, reduceCtorEq, if_false, Nat.sub_zero, decide_eq_true_eq]; omega
  have none : (⟨0, 0, 0, 0, 0, 0⟩ : Tally).count c p = 0 := by cases c <;> cases p <;> rfl
  rw [recountTally, fold, none, Nat.zero_add]

theorem State.tallyLaw_iff {s : State} :
    s.tallyLaw ↔ ∀ c p, s.tally.count c p = s.cards.countP (fun x => x.2.countsIn c p) := by
  unfold State.tallyLaw
  constructor
  · intro h c p
    rw [h, count_recountTally]
  · intro h
    exact Tally.ext_count fun c p => by rw [h, count_recountTally]

theorem tells_countsIn (c : Category) (p : Presence) (x : Option Entry) :
    tells (Entry.countsIn c p) x = if x.bind Entry.tallied = some (c, p) then 1 else 0 := by
  cases x with
  | none => rfl
  | some e => simp [tells, Entry.countsIn]

/-- The one write of the card table keeps the tally with it. -/
theorem State.tallyLaw_setEntry {s : State} {i : Nat} {e : Option Entry} (rising : Rising s.cards) (law : s.tallyLaw) :
    (s.setEntry i e).tallyLaw := by
  rw [State.tallyLaw_iff] at law ⊢
  intro c p
  have write := countP_twrite (Entry.countsIn c p) i rising e
  have old := tells_le_countP (t := s.cards) (Entry.countsIn c p) i
  simp only [tells_countsIn] at write old
  simp only [State.setEntry, Tally.count_move, law]
  split
  · next same =>
    rw [same] at write
    omega
  · omega

variable {L Z A : Prop} {s t : State}

theorem State.tallyLaw_changeKnown {card : CardNo} {f : Known → Known} (rising : Rising s.cards) (law : s.tallyLaw) :
    (s.changeKnown card f).tallyLaw := by
  unfold State.changeKnown
  split
  · exact State.tallyLaw_setEntry rising law
  · exact law

theorem Entry.tick_tallied (e : Entry) : e.tick.tallied = e.tallied := by
  obtain ⟨card, k | h⟩ := e <;> rfl

theorem Change.tallyLaw (h : Change L Z A s t) (rising : Rising s.cards) (law : s.tallyLaw) : t.tallyLaw := by
  cases h with
  | aside h => rw [h]; exact law
  | rewrite | insert | query | resolve | remove => exact State.tallyLaw_setEntry rising law
  | hold =>
    rw [State.tallyLaw_iff] at law ⊢
    intro c p
    rw [List.countP_map]
    simpa only [Function.comp_def, Entry.countsIn, Entry.tick_tallied] using law c p
  | accept | refer | alight | settle => exact State.tallyLaw_changeKnown rising law
  | restart => rfl
  | keep => rfl
  | _ => exact law

/-! ## The folios -/

/-- The entry names the folio slot. -/
def Entry.names (slot : Nat) (e : Entry) : Bool := e.folio = some slot

theorem tells_names (slot : Nat) (x : Option Entry) :
    tells (Entry.names slot) x = if x.bind Entry.folio = some slot then 1 else 0 := by
  cases x with
  | none => rfl
  | some e => simp [tells, Entry.names]

theorem refsTo_eq (cards : List (Nat × Entry)) (slot : Nat) : refsTo cards slot = cards.countP (fun x => x.2.names slot) := rfl

/-- The law of the folios, read by position. -/
theorem State.folioLaw_iff (law : s.tablesLaw) : s.folioLaw ↔
    (∀ slot f, tget s.folios slot = some f → f.refs = refsTo s.cards slot ∧ f.spent ≤ f.allowance) ∧
      ∀ i e slot, tget s.cards i = some e → e.folio = some slot → (tget s.folios slot).isSome := by
  obtain ⟨hc, hf, -, -⟩ := State.tablesLaw_iff.mp law
  unfold State.folioLaw
  exact ⟨fun ⟨records, named⟩ => ⟨fun slot f h => records _ (mem_of_tget h), fun i e slot he => named _ (mem_of_tget he) slot⟩,
    fun ⟨records, named⟩ => ⟨fun x hx => records _ _ (hf.tget_of_mem hx), fun x hx slot => named _ _ slot (hc.tget_of_mem hx)⟩⟩

/-- The one write of the card table keeps the folio references with it, when the entry written names no EMPTY slot. -/
theorem State.folioLaw_setEntry {i : Nat} {e : Option Entry} (tables : s.tablesLaw) (tables' : (s.setEntry i e).tablesLaw)
    (law : s.folioLaw) (loaded : ∀ slot, e.bind Entry.folio = some slot → (tget s.folios slot).isSome) :
    (s.setEntry i e).folioLaw := by
  obtain ⟨records, named⟩ := (State.folioLaw_iff tables).mp law
  obtain ⟨rising, -, -, -⟩ := State.tablesLaw_iff.mp tables
  refine (State.folioLaw_iff tables').mpr ⟨fun slot f hf => ?_, fun j x slot hx hs => ?_⟩
  · have write := countP_twrite (Entry.names slot) i rising e
    have old := tells_le_countP (t := s.cards) (Entry.names slot) i
    simp only [tells_names, ← refsTo_eq] at write old
    simp only [State.setEntry, tget_moveRef, Option.map_eq_some_iff] at hf
    obtain ⟨f', hf', rfl⟩ := hf
    obtain ⟨refs, bound⟩ := records slot f' hf'
    show _ = refsTo (twrite i e s.cards) slot ∧ _
    split
    · next same =>
      rw [same] at write
      exact ⟨by omega, bound⟩
    · exact ⟨by simp only [refs]; omega, bound⟩
  · simp only [State.setEntry, tget_moveRef_isSome]
    rw [State.setEntry_tget _ _ _ _ rising] at hx
    split at hx
    · exact loaded slot (by rw [hx]; exact hs)
    · exact named j x slot hx hs

theorem State.folioLaw_changeKnown {card : CardNo} {f : Known → Known} (tables : s.tablesLaw) (law : s.folioLaw)
    (folio : ∀ k, (f k).folio = k.folio) : (s.changeKnown card f).folioLaw := by
  obtain ⟨-, named⟩ := (State.folioLaw_iff tables).mp law
  unfold State.changeKnown
  split
  · next i d k found =>
    have after := State.tablesLaw_setEntry_again tables (e' := ⟨card, .known (f k)⟩) (tget_of_lookup found)
      (card_of_lookup found).symm
    refine State.folioLaw_setEntry tables after law fun slot hs => ?_
    exact named i _ slot (tget_of_lookup found) ((folio k).symm.trans hs)
  · exact law

theorem State.folioLaw_setEntry_known {i : Nat} {card : CardNo} {k : Known} {allowed : Option Nat} (tables : s.tablesLaw)
    (tables' : (s.setEntry i (some ⟨card, .known k⟩)).tablesLaw) (law : s.folioLaw) (folio : s.folioNamed k allowed)
    (loaded : ∀ slot, allowed = some slot → (tget s.folios slot).isSome) :
    (s.setEntry i (some ⟨card, .known k⟩)).folioLaw := by
  refine State.folioLaw_setEntry tables tables' law fun slot hs => ?_
  rcases folio slot hs with h | h
  · exact loaded slot h
  · exact h

theorem Entry.tick_folio (e : Entry) : e.tick.folio = e.folio := by
  obtain ⟨card, k | h⟩ := e <;> rfl

theorem Entry.kept_folio {e e' : Entry} (h : e.kept = some e') : e'.folio = e.folio := by
  obtain ⟨card, k | q⟩ := e
  · obtain rfl := Option.some.inj h
    rfl
  · cases h

theorem Change.folioLaw (h : Change L Z A s t) (tables : s.tablesLaw) (law : s.folioLaw) : t.folioLaw := by
  have after := h.tablesLaw tables
  obtain ⟨records, named⟩ := (State.folioLaw_iff tables).mp law
  cases h with
  | aside h => rw [h]; exact law
  | putFolio place refs bound =>
    rename_i slot f
    refine (State.folioLaw_iff after).mpr ⟨fun k x hx => ?_, fun i e k he hk => ?_⟩
    · by_cases hk : k = slot
      · subst hk
        simp only [tget_tput_self, Option.some.injEq] at hx
        subst hx
        refine ⟨?_, bound fun old h => (records _ _ h).2⟩
        rw [refs]
        cases ho : tget s.folios k with
        | some old => exact (records _ _ ho).1
        | none =>
          refine (List.countP_eq_zero.mpr fun x hx => ?_).symm
          intro hs
          have := named _ _ k (tables.1.tget_of_mem hx) (by simpa using hs)
          simp [ho] at this
      · simp only [tget_tput_other _ _ _ _ hk] at hx
        exact records _ _ hx
    · by_cases hs : k = slot
      · subst hs
        simp
      · simp only [tget_tput_other _ _ _ _ hs]
        exact named i e k he hk
  | dropFolio refs =>
    rename_i slot
    obtain ⟨-, hf, -, -⟩ := State.tablesLaw_iff.mp tables
    refine (State.folioLaw_iff after).mpr ⟨fun k x hx => records k x (hf.tget_of_mem (mem_tdel _ _ _ (mem_of_tget hx))),
      fun i e k he hk => ?_⟩
    by_cases hs : k = slot
    · subst hs
      obtain ⟨f, hf⟩ := Option.isSome_iff_exists.mp (named i e k he hk)
      have none : refsTo s.cards k = 0 := (records k f hf).1 ▸ refs f hf
      exact absurd (by simpa using hk) (List.countP_eq_zero.mp none (i, e) (mem_of_tget he))
    · simp only [tget_tdel_other _ _ _ hs]
      exact named i e k he hk
  | rewrite found _ folio =>
    exact State.folioLaw_setEntry_known tables after law folio fun slot h => named _ _ slot found h
  | insert _ _ _ _ folio => exact State.folioLaw_setEntry_known tables after law folio fun slot h => by cases h
  | resolve _ _ folio => exact State.folioLaw_setEntry_known tables after law folio fun slot h => by cases h
  | query => exact State.folioLaw_setEntry tables after law fun slot h => by cases h
  | remove => exact State.folioLaw_setEntry tables after law fun slot h => by cases h
  | hold =>
    refine (State.folioLaw_iff after).mpr ⟨fun slot f hf => ?_, fun i e slot he hs => ?_⟩
    · have same : refsTo (s.cards.map fun x => (x.1, x.2.tick)) slot = refsTo s.cards slot := by
        rw [refsTo, refsTo, List.countP_map]
        simp only [Function.comp_def, Entry.tick_folio]
      rw [same]
      exact records slot f hf
    · obtain ⟨e', he', rfl⟩ := Option.map_eq_some_iff.mp ((tget_map (fun x => x.2.tick) s.cards i).symm.trans he)
      exact named i e' slot he' ((Entry.tick_folio e').symm.trans hs)
  | accept | refer => exact State.folioLaw_changeKnown tables law fun _ => rfl
  | alight _ _ _ change => exact State.folioLaw_changeKnown (s := { s with zone := _ }) tables law fun k => (change k).1
  | settle => exact State.folioLaw_changeKnown tables law fun k => by split <;> rfl
  | restart => simp [State.folioLaw, State.restarted, State.reset]
  | keep =>
    obtain ⟨rising, -, -, -⟩ := State.tablesLaw_iff.mp tables
    refine (State.folioLaw_iff after).mpr ⟨fun slot f hf => ?_, fun i e slot he hs => ?_⟩
    · obtain ⟨f', hf', rfl⟩ := Option.map_eq_some_iff.mp ((keptFolios_tget _ _ slot).symm.trans hf)
      exact ⟨rfl, (records slot f' hf').2⟩
    · obtain ⟨e', he', kept⟩ := Option.bind_eq_some_iff.mp ((keptCards_tget rising i).symm.trans he)
      have loaded := named i e' slot he' ((Entry.kept_folio kept).symm.trans hs)
      show (tget (keptFolios _ _) slot).isSome
      rw [keptFolios_tget, Option.isSome_map]
      exact loaded
  | _ => exact law

end Sys2Proof.Machine

namespace Sys2Proof.Steps
open Sys2Proof.Machine

/-- Settles O8: each change keeps the counts of the entries. -/
theorem everyStepKeepsTheTallyLaw : Obligations.EveryStepKeepsTheTallyLaw := by
  intro s t law h
  exact (step_keeps_of_tables (fun _ _ change tables => change.tallyLaw tables.1) h law).2

/-- Settles O9: each change keeps the references and the bounds of the folios. -/
theorem everyStepKeepsTheFolioLaw : Obligations.EveryStepKeepsTheFolioLaw := by
  intro s t law h
  exact (step_keeps_of_tables (fun _ _ change tables => change.folioLaw tables) h law).2

end Sys2Proof.Steps
end

section
/-! The law of engagements (R15): what a lane or a till claims of a card, what the entries say of it, and the two in step through every
change. -/

namespace Sys2Proof.Machine

/-- The card that a lane moves or a till refers. -/
def State.claimant (s : State) : Engagement → Option CardNo
  | .movement l => (s.zone.lanes.get l).state.mover
  | .charge t => (s.tills.get t).state.payer

/-- The card has a known entry with the engagement. -/
def State.engages (s : State) (card : CardNo) (e : Engagement) : Prop := ∃ k, s.known card = some k ∧ k.engaged = some e

theorem TillState.payer_eq_some {st : TillState} {card : CardNo} :
    st.payer = some card ↔ ∃ c p left, st = .authorising c p left ∧ p.card = card := by
  cases st with
  | authorising c p left => simp [TillState.payer]
  | _ => simp [TillState.payer]

theorem LaneState.mover_eq_some {st : LaneState} {card : CardNo} :
    st.mover = some card ↔ ∃ m, st.movement = some m ∧ m.card = card := Option.map_eq_some_iff

/-- The law of engagements, as the claims on cards and the engagements of their entries in step. -/
theorem State.engagementLaw_iff {s : State} : s.engagementLaw ↔ ∀ e card, s.claimant e = some card ↔ s.engages card e := by
  constructor
  · rintro ⟨lanes, tills, entries⟩ e card
    cases e with
    | movement l =>
      refine LaneState.mover_eq_some.trans ⟨?_, fun ⟨k, hk, he⟩ => (entries card k hk).1 l he⟩
      rintro ⟨m, hm, rfl⟩
      exact lanes l m hm
    | charge t =>
      refine TillState.payer_eq_some.trans ⟨?_, fun ⟨k, hk, he⟩ => (entries card k hk).2 t he⟩
      rintro ⟨c, p, left, hc, rfl⟩
      exact tills t c p left hc
  · intro h
    refine ⟨fun l m hm => (h (.movement l) m.card).mp (LaneState.mover_eq_some.mpr ⟨m, hm, rfl⟩),
      fun t c p left hc => (h (.charge t) p.card).mp (TillState.payer_eq_some.mpr ⟨c, p, left, hc, rfl⟩),
      fun card k hk => ⟨fun l he => LaneState.mover_eq_some.mp ((h (.movement l) card).mpr ⟨k, hk, he⟩),
        fun t he => TillState.payer_eq_some.mp ((h (.charge t) card).mpr ⟨k, hk, he⟩)⟩⟩

variable {L Z A : Prop} {s t : State} {card d : CardNo} {e : Engagement}

/-- A change of neither the claims nor the engagements keeps the law. -/
theorem State.engagementLaw_of_same (law : s.engagementLaw) (claims : ∀ e, t.claimant e = s.claimant e)
    (entries : ∀ card e, t.engages card e ↔ s.engages card e) : t.engagementLaw := by
  rw [State.engagementLaw_iff] at law ⊢
  intro e card
  rw [claims, entries, law]

/-! ## Entries -/

/-- The position holds a known entry of the card with the engagement. -/
def engagedAt (x : Option Entry) (card : CardNo) (e : Engagement) : Prop := ∃ k, x = some ⟨card, .known k⟩ ∧ k.engaged = some e

theorem State.engages_iff (law : placed s.cards) : s.engages card e ↔ ∃ i, engagedAt (tget s.cards i) card e := by
  unfold State.engages engagedAt
  simp only [State.known_iff law]
  exact ⟨fun ⟨k, ⟨i, hi⟩, he⟩ => ⟨i, k, hi, he⟩, fun ⟨i, k, hi, he⟩ => ⟨k, ⟨i, hi⟩, he⟩⟩

theorem not_engagedAt_of_unengaged {x : Option Entry} (h : ∀ e, x = some e → e.unengaged) : ¬engagedAt x card e := by
  rintro ⟨k, hx, he⟩
  rw [h _ hx k rfl] at he
  cases he

theorem engagedAt_known {k : Known} : engagedAt (some ⟨d, .known k⟩) card e ↔ d = card ∧ k.engaged = some e := by
  simp [engagedAt, and_assoc]

/-- An entry written with the engagement that stood in its place keeps the law. -/
theorem State.engagementLaw_setEntry {i : Nat} {x : Option Entry} (tables : s.tablesLaw) (tables' : (s.setEntry i x).tablesLaw)
    (law : s.engagementLaw) (same : ∀ card e, engagedAt x card e ↔ engagedAt (tget s.cards i) card e) :
    (s.setEntry i x).engagementLaw := by
  obtain ⟨rising, -, cards, -⟩ := State.tablesLaw_iff.mp tables
  obtain ⟨-, -, cards', -⟩ := State.tablesLaw_iff.mp tables'
  refine State.engagementLaw_of_same law (fun e => by cases e <;> rfl) fun card e => ?_
  rw [State.engages_iff cards', State.engages_iff cards]
  refine exists_congr fun j => ?_
  rw [State.setEntry_tget _ _ _ _ rising]
  split
  · next hj => rw [hj, same]
  · exact Iff.rfl

/-- An entry that is engaged by nothing, written where none was engaged. -/
theorem State.engagementLaw_setEntry_unengaged {i : Nat} {x : Option Entry} (tables : s.tablesLaw)
    (tables' : (s.setEntry i x).tablesLaw) (law : s.engagementLaw) (old : ∀ e, tget s.cards i = some e → e.unengaged)
    (new : ∀ e, x = some e → e.unengaged) : (s.setEntry i x).engagementLaw :=
  State.engagementLaw_setEntry tables tables' law fun _ _ =>
    iff_of_false (not_engagedAt_of_unengaged new) (not_engagedAt_of_unengaged old)

/-- What is known of each card after a change of one card's entry. -/
theorem State.known_changeKnown {f : Known → Known} (tables : s.tablesLaw) :
    (s.changeKnown card f).known d = (s.known d).map (if d = card then f else id) := by
  obtain ⟨-, -, cards, -⟩ := State.tablesLaw_iff.mp tables
  obtain ⟨-, -, cards', -⟩ := State.tablesLaw_iff.mp (State.tablesLaw_changeKnown (card := card) (f := f) tables)
  by_cases hk : ∃ i k, lookup s.cards card = some (i, ⟨card, .known k⟩)
  · obtain ⟨i, k, found⟩ := hk
    have after : s.changeKnown card f = s.setEntry i (some ⟨card, .known (f k)⟩) := by rw [State.changeKnown, found]
    rw [after] at cards' ⊢
    have get : ∀ j, tget (s.setEntry i (some ⟨card, .known (f k)⟩)).cards j =
        if j = i then some ⟨card, .known (f k)⟩ else tget s.cards j := fun j => State.setEntry_tget i j _ s tables.1
    ext k'
    rw [State.known_iff cards', Option.map_eq_some_iff]
    simp only [State.known_iff cards, get]
    by_cases hd : d = card
    · subst hd
      have known := State.known_of_lookup found
      simp only [if_true]
      constructor
      · rintro ⟨j, hj⟩
        split at hj
        · simp only [Option.some.injEq, Entry.mk.injEq, EntryBody.known.injEq, true_and] at hj
          exact ⟨k, ⟨i, tget_of_lookup found⟩, hj⟩
        · next hne => exact absurd (cards.2 _ _ _ _ hj (tget_of_lookup found) rfl) hne
      · rintro ⟨k₀, hk₀, rfl⟩
        obtain rfl : k = k₀ := Option.some.inj (known.symm.trans ((State.known_iff cards).mpr hk₀))
        exact ⟨i, if_pos rfl⟩
    · simp only [hd, if_false, id]
      constructor
      · rintro ⟨j, hj⟩
        split at hj
        · simp only [Option.some.injEq, Entry.mk.injEq] at hj
          exact absurd hj.1.symm hd
        · exact ⟨k', ⟨j, hj⟩, rfl⟩
      · rintro ⟨k₀, ⟨j, hj⟩, rfl⟩
        refine ⟨j, ?_⟩
        rw [if_neg, hj]
        rintro rfl
        have := (tget_of_lookup found).symm.trans hj
        simp only [Option.some.injEq, Entry.mk.injEq] at this
        exact hd this.1.symm
  · have after : s.changeKnown card f = s := by
      unfold State.changeKnown
      split
      · next i c k found =>
        obtain rfl : c = card := card_of_lookup found
        exact absurd ⟨i, k, found⟩ hk
      · rfl
    rw [after]
    cases hd : s.known d with
    | none => rfl
    | some k =>
      obtain ⟨i, hi⟩ := (State.known_iff cards).mp hd
      have hne : d ≠ card := by
        rintro rfl
        exact hk ⟨i, k, cards.lookup (e := ⟨d, .known k⟩) hi⟩
      simp [hne]

/-! ## The start and the end of an engagement -/

@[simp] theorem State.claimant_changeKnown (f : Known → Known) : (s.changeKnown card f).claimant e = s.claimant e := by
  cases e <;> simp [State.claimant]

/-- A claim on a card that nothing engages, and the engagement of its entry. -/
theorem State.engagementLaw_engage {k : Known} (tables : t.tablesLaw) (cards : t.cards = s.cards) (law : s.engagementLaw)
    (known : s.known card = some k) (free : k.engaged = none) (claim : t.claimant e = some card) (unclaimed : s.claimant e = none)
    (other : ∀ e', e' ≠ e → t.claimant e' = s.claimant e') :
    (t.changeKnown card (fun k => { k with engaged := some e })).engagementLaw := by
  rw [State.engagementLaw_iff] at law ⊢
  have knowns : ∀ d, t.known d = s.known d := fun d => by rw [State.known, State.known, cards]
  intro e' d
  simp only [State.claimant_changeKnown, State.engages, State.known_changeKnown tables, knowns]
  have before : s.claimant e' = some d ↔ s.engages d e' := law e' d
  have nobody : ¬s.engages card e' := by
    rintro ⟨k', hk', he'⟩
    rw [known, Option.some.injEq] at hk'
    rw [← hk', free] at he'
    cases he'
  by_cases hd : d = card
  · subst hd
    simp only [known, if_true, Option.map_some, Option.some.injEq, exists_eq_left']
    by_cases he : e' = e
    · subst he
      simp [claim]
    · rw [other e' he, before]
      exact iff_of_false nobody (Ne.symm he)
  · simp only [hd, if_false, Option.map_id, id]
    by_cases he : e' = e
    · subst he
      rw [claim]
      refine iff_of_false (fun h => hd (Option.some.inj h).symm) fun h => ?_
      have := before.mpr h
      rw [unclaimed] at this
      cases this
    · rw [other e' he]
      exact before

/-- A claim that ends, and the engagement that it was. -/
theorem State.engagementLaw_disengage {f : Known → Known} (tables : t.tablesLaw) (cards : t.cards = s.cards) (law : s.engagementLaw)
    (claim : s.claimant e = none ∨ s.claimant e = some card) (ended : t.claimant e = none)
    (other : ∀ e', e' ≠ e → t.claimant e' = s.claimant e')
    (change : ∀ k, (f k).engaged = if k.engaged = some e then none else k.engaged) : (t.changeKnown card f).engagementLaw := by
  rw [State.engagementLaw_iff] at law ⊢
  have knowns : ∀ d, t.known d = s.known d := fun d => by rw [State.known, State.known, cards]
  intro e' d
  simp only [State.claimant_changeKnown, State.engages, State.known_changeKnown tables, knowns]
  have before : s.claimant e' = some d ↔ s.engages d e' := law e' d
  by_cases hd : d = card
  · subst hd
    have kept : (∃ k, (s.known d).map f = some k ∧ k.engaged = some e') ↔ e' ≠ e ∧ s.engages d e' := by
      cases hk : s.known d with
      | none => simp [State.engages, hk]
      | some k =>
        simp only [State.engages, hk, Option.map_some, Option.some.injEq, exists_eq_left', change]
        split
        · next he => simp only [he, reduceCtorEq, Option.some.injEq, false_iff]; exact fun h => h.1 h.2.symm
        · next he => exact ⟨fun h => ⟨fun h' => he (h' ▸ h), h⟩, fun h => h.2⟩
    simp only [if_true]
    rw [kept]
    by_cases he : e' = e
    · subst he
      simp [ended]
    · rw [other e' he, before]
      exact (and_iff_right he).symm
  · simp only [hd, if_false, Option.map_id, id]
    by_cases he : e' = e
    · subst he
      rw [ended]
      refine iff_of_false (fun h => by cases h) fun h => ?_
      have := before.mpr h
      rcases claim with claim | claim
      · rw [claim] at this
        cases this
      · exact hd (Option.some.inj (this.symm.trans claim))
    · rw [other e' he]
      exact before

/-! ## Each change keeps the law -/

/-- No lane moves a card and no till refers one, and no entry is engaged. -/
theorem State.engagementLaw_of_none (claims : ∀ e, s.claimant e = none) (cards : placed s.cards)
    (entries : ∀ i e, tget s.cards i = some e → e.unengaged) : s.engagementLaw := by
  refine State.engagementLaw_iff.mpr fun e card => ?_
  rw [claims, State.engages_iff cards]
  refine iff_of_false (fun h => by cases h) ?_
  rintro ⟨i, h⟩
  exact not_engagedAt_of_unengaged (fun e he => entries i e he) h

theorem State.claimant_of_reset (lanes : s.zone.lanes = State.reset.zone.lanes) (tills : s.tills = State.reset.tills)
    (e : Engagement) : s.claimant e = none := by
  cases e with
  | movement l => simp [State.claimant, lanes, State.reset, Vector.get_eq_getElem, Lane.reset, LaneState.mover, LaneState.movement]
  | charge t => simp [State.claimant, tills, State.reset, Vector.get_eq_getElem, Till.reset, TillState.payer]

/-- The zone after a start: every channel OFF, every queue empty (R67). -/
theorem State.restarted_zone (cfg : Setup) (store : SetupStore) (info : StartInfo) (s : State) :
    ∃ gs, (s.restarted cfg store info).zone = { State.reset.zone with groups := gs } ∧ ∀ g, (gs.get g).queue = [] :=
  ⟨_, Zone.foldl_setGroup (fun _ g => { g with rail := if cfg.policy.railMask then .good else .undervoltage }) _ _, fun g => by
    rw [vget_foldl_vmod]
    simp [State.reset, Vector.get_eq_getElem, Group.reset]⟩

/-- A kept start changes the lockouts of the channels alone (R67). -/
theorem State.keep_zone (old s : State) : ∃ cs, (State.keep old s).zone = { s.zone with channels := cs } ∧
    ∀ c, cs.get c = { s.zone.channels.get c with lockout := (old.zone.channels.get c).lockout } :=
  ⟨_, Zone.foldl_setChan (fun c ch => { ch with lockout := (old.zone.channels.get c).lockout }) _ _, fun c => vget_foldl_vmod _ c _⟩

theorem State.restarted_lanes (cfg : Setup) (store : SetupStore) (info : StartInfo) (s : State) :
    (s.restarted cfg store info).zone.lanes = State.reset.zone.lanes := by
  obtain ⟨gs, zone, -⟩ := s.restarted_zone cfg store info
  rw [zone]

theorem State.keep_lanes (old s : State) : (State.keep old s).zone.lanes = s.zone.lanes := by
  obtain ⟨cs, zone, -⟩ := State.keep_zone old s
  rw [zone]

theorem Change.engagementLaw (h : Change True Z A s t) (tables : s.tablesLaw) (law : s.engagementLaw) : t.engagementLaw := by
  have after := h.tablesLaw tables
  obtain ⟨rising, -, cards, -⟩ := State.tablesLaw_iff.mp tables
  cases h with
  | aside h => rw [h]; exact law
  | zone movers =>
    refine State.engagementLaw_of_same law (fun e => ?_) fun _ _ => Iff.rfl
    cases e with
    | movement l => exact movers l
    | charge => rfl
  | tills payers =>
    refine State.engagementLaw_of_same law (fun e => ?_) fun _ _ => Iff.rfl
    cases e with
    | movement => rfl
    | charge t => exact payers t
  | rewrite found engaged =>
    refine State.engagementLaw_setEntry tables after law fun card e => ?_
    rw [found, engagedAt_known, engagedAt_known, engaged]
  | insert _ _ free engaged =>
    exact State.engagementLaw_setEntry_unengaged tables after law free (by rintro e ⟨⟩; exact Entry.unengaged_known engaged)
  | query _ _ free =>
    exact State.engagementLaw_setEntry_unengaged tables after law (fun e he => by rw [free] at he; cases he)
      (by rintro e ⟨⟩; exact Entry.unengaged_pending _ _)
  | resolve found engaged =>
    exact State.engagementLaw_setEntry_unengaged tables after law
      (fun e he => by rw [found] at he; cases he; exact Entry.unengaged_pending _ _)
      (by rintro e ⟨⟩; exact Entry.unengaged_known engaged)
  | remove unengaged =>
    exact State.engagementLaw_setEntry_unengaged tables after law (unengaged trivial) (fun e he => by cases he)
  | hold =>
    obtain ⟨-, -, cards', -⟩ := State.tablesLaw_iff.mp after
    refine State.engagementLaw_of_same law (fun e => by cases e <;> rfl) fun card e => ?_
    rw [State.engages_iff cards', State.engages_iff cards]
    refine exists_congr fun i => ?_
    show engagedAt (tget (s.cards.map fun x => (x.1, x.2.tick)) i) card e ↔ _
    rw [tget_map (fun x => x.2.tick) s.cards i]
    rcases tget s.cards i with _ | ⟨d, k | h⟩
    · exact Iff.rfl
    · exact Iff.rfl
    · simp [engagedAt, Entry.tick]
  | accept ready known engaged =>
    rename_i l m k
    refine State.engagementLaw_engage (s := s) tables rfl law known engaged ?_ ready fun e he => ?_
    · simp [State.claimant, State.onZone, Zone.setLane, LaneState.mover, LaneState.movement]
    · cases e with
      | movement l' =>
        have : l' ≠ l := fun h => he (by rw [h])
        simp [State.claimant, State.onZone, Zone.setLane, vget_vmod_other _ _ _ _ this]
      | charge => rfl
  | alight mover ended other change =>
    refine State.engagementLaw_disengage (s := s) (t := { s with zone := _ }) (e := .movement _) tables rfl law mover ended (fun e he => ?_)
      fun k => (change k).2
    cases e with
    | movement l' => exact other l' fun h => he (by rw [h])
    | charge => rfl
  | refer armed known engaged online =>
    rename_i t c p left k
    refine State.engagementLaw_engage (s := s) tables rfl law known engaged ?_ ?_ fun e he => ?_
    · simp [State.claimant, State.setTill, TillState.payer]
    · obtain ⟨c', left', h⟩ := armed
      simp [State.claimant, h, TillState.payer]
    · cases e with
      | movement => rfl
      | charge t' =>
        have : t' ≠ t := fun h => he (by rw [h])
        simp [State.claimant, State.setTill, vget_vmod_other _ _ _ _ this]
  | settle payer =>
    rename_i t last card
    refine State.engagementLaw_disengage (s := s) (e := .charge t) tables rfl law payer ?_ (fun e he => ?_) fun k => by split <;> rfl
    · simp [State.claimant, State.setTill, TillState.payer]
    · cases e with
      | movement => rfl
      | charge t' =>
        have : t' ≠ t := fun h => he (by rw [h])
        simp [State.claimant, State.setTill, vget_vmod_other _ _ _ _ this]
  | restart =>
    obtain ⟨-, -, cards', -⟩ := State.tablesLaw_iff.mp after
    exact State.engagementLaw_of_none (State.claimant_of_reset (State.restarted_lanes _ _ _ s) rfl) cards' fun i e he => by cases he
  | keep =>
    obtain ⟨-, -, cards', -⟩ := State.tablesLaw_iff.mp after
    refine State.engagementLaw_of_none (State.claimant_of_reset ((State.keep_lanes _ _).trans (State.restarted_lanes _ _ _ s)) rfl)
      cards' fun i e he => ?_
    obtain ⟨⟨d, k | q⟩, -, kept⟩ := Option.bind_eq_some_iff.mp ((keptCards_tget rising i).symm.trans he)
    · cases kept
      exact Entry.unengaged_known rfl
    · cases kept
  | _ => exact law

end Sys2Proof.Machine

namespace Sys2Proof.Steps
open Sys2Proof.Machine

/-- Settles O10: each change keeps the claims and the engagements in step. -/
theorem everyStepKeepsTheEngagementLaw : Obligations.EveryStepKeepsTheEngagementLaw := by
  intro s t law h
  exact (step_keeps_of_tables (fun _ _ change => change.engagementLaw) h law).2

end Sys2Proof.Steps
end

section
/-! The law of STANDALONE (R14, R146): no pending entry and no till AUTHORISING, from the entry to STANDALONE on. -/

namespace Sys2Proof.Machine

variable {L Z A : Prop} {s t : State}

/-- No entry is pending. -/
def noPending (cards : List (Nat × Entry)) : Prop := ∀ i card h, tget cards i ≠ some ⟨card, .pending h⟩

/-- No till waits for the host. -/
def State.noReferral (s : State) : Prop := ∀ t, (s.tills.get t).state.payer = none

theorem mem_pendingEntries {cards : List (Nat × Entry)} (rising : Rising cards) {i : Nat} {card : CardNo} {h : Held} :
    (i, card, h) ∈ pendingEntries cards ↔ tget cards i = some ⟨card, .pending h⟩ := by
  rw [← rising.mem_iff, pendingEntries, List.mem_filterMap]
  constructor
  · rintro ⟨⟨j, d, k | h'⟩, hx, e⟩
    · cases e
    · cases e
      exact hx
  · exact fun hx => ⟨_, hx, rfl⟩

theorem pendingEntries_eq_nil {cards : List (Nat × Entry)} (rising : Rising cards) :
    pendingEntries cards = [] ↔ noPending cards := by
  rw [List.eq_nil_iff_forall_not_mem]
  exact ⟨fun h i card hd he => h (i, card, hd) ((mem_pendingEntries rising).mpr he),
    fun h ⟨i, card, hd⟩ hx => h i card hd ((mem_pendingEntries rising).mp hx)⟩

theorem TillState.isAuthorising_eq_false {st : TillState} : st.isAuthorising = false ↔ st.payer = none := by
  cases st <;> simp [TillState.isAuthorising, TillState.payer]

/-- The law of STANDALONE, read by position. -/
theorem State.standaloneLaw_iff (rising : Rising s.cards) :
    s.standaloneLaw ↔ (s.authority = .standalone → noPending s.cards) ∧ (s.authority = .standalone → s.noReferral) := by
  unfold State.standaloneLaw State.noReferral
  simp only [pendingEntries_eq_nil rising, TillState.isAuthorising_eq_false]
  exact forall_and

/-! ## Each change keeps the law -/

theorem noPending_setEntry {i : Nat} {x : Option Entry} (rising : Rising s.cards) (h : noPending s.cards)
    (new : ∀ card p, x ≠ some ⟨card, .pending p⟩) : noPending (s.setEntry i x).cards := by
  intro j card p hj
  rw [State.setEntry_tget _ _ _ _ rising] at hj
  split at hj
  · exact new card p hj
  · exact h j card p hj

theorem noPending_changeKnown {card : CardNo} {f : Known → Known} (rising : Rising s.cards) (h : noPending s.cards) :
    noPending (s.changeKnown card f).cards := by
  unfold State.changeKnown
  split
  · exact noPending_setEntry rising h fun _ _ e => by cases e
  · exact h

theorem noPending_kept {cards : List (Nat × Entry)} (rising : Rising cards) : noPending (keptCards cards) := by
  intro i card p h
  obtain ⟨⟨d, k | q⟩, -, kept⟩ := Option.bind_eq_some_iff.mp ((keptCards_tget rising i).symm.trans h)
  · cases kept
  · cases kept

theorem Change.noPending (h : Change L Z True s t) (rising : Rising s.cards)
    (law : s.authority = .standalone → noPending s.cards) : t.authority = .standalone → noPending t.cards := by
  cases h with
  | aside h => rw [h]; exact law
  | authority stands => exact fun now => law (stands trivial now)
  | rewrite | insert | resolve | remove => exact fun now => noPending_setEntry rising (law now) fun _ _ e => by cases e
  | query _ _ _ online => exact fun now => absurd now online
  | hold =>
    intro now i card p hi
    obtain ⟨⟨d, k | q⟩, hx, e⟩ := Option.map_eq_some_iff.mp ((tget_map (fun x => x.2.tick) s.cards i).symm.trans hi)
    · cases e
    · exact law now i d q hx
  | accept | refer | alight | settle =>
    exact fun now => noPending_changeKnown rising (law (by simpa [State.disengage] using now))
  | restart => exact fun _ _ _ _ h => by cases h
  | keep => exact fun _ => noPending_kept rising
  | _ => exact law

theorem State.noReferral_reset (tills : s.tills = State.reset.tills) : s.noReferral := by
  intro t
  simp [tills, State.reset, Vector.get_eq_getElem, Till.reset, TillState.payer]

theorem Change.noReferral (h : Change L Z True s t) (law : s.authority = .standalone → s.noReferral) :
    t.authority = .standalone → t.noReferral := by
  cases h with
  | aside h => rw [h]; exact law
  | authority stands => exact fun now => law (stands trivial now)
  | tills payers => exact fun now t => (payers t).trans (law now t)
  | refer _ _ _ online => exact fun now => absurd (by simpa using now) online
  | accept | alight =>
    intro now u
    rw [State.changeKnown_tills]
    exact law (by simpa using now) u
  | settle =>
    rename_i t last card payer
    intro now u
    rw [State.disengage_tills]
    by_cases hu : u = t
    · subst hu
      simp [State.setTill, TillState.payer]
    · simp only [State.setTill, vget_vmod_other _ _ _ _ hu]
      exact law (by simpa [State.disengage] using now) u
  | restart | keep => exact fun _ => State.noReferral_reset rfl
  | _ => exact law

/-! ## The entry to STANDALONE -/

theorem State.endCharge_payer (t u : TillNo) (c : Charge) (o : ChargeOutcome) (taken : Option (CardNo × ReaderNo))
    (slot : Option Nat) (ap : Option Approval) :
    ((s.endCharge t c o taken slot ap).tills.get u).state.payer = if u = t then none else (s.tills.get u).state.payer := by
  rw [State.endCharge_tills]
  split
  · next h => rw [h, vget_vmod_self]; rfl
  · next h => rw [vget_vmod_other _ _ _ _ h]

theorem State.approve_payer (t u : TillNo) (c : Charge) (card : CardNo) (r : ReaderNo) (slot : Nat) (tier : Tier) :
    ((s.approve t c card r slot tier).tills.get u).state.payer = if u = t then none else (s.tills.get u).state.payer := by
  unfold State.approve
  split
  · exact State.endCharge_payer ..
  · have ended : ∀ j : Journal, ((({ s with journal := j }.chargeFolio tier slot c.amount).endCharge t c .approved
        (some (card, r)) (some slot) (some ⟨s.journal.next, tier⟩)).tills.get u).state.payer =
        if u = t then none else (s.tills.get u).state.payer := fun j => by
      rw [State.endCharge_payer, State.chargeFolio_tills]
    dsimp only
    split
    · rw [State.notify_tills, ended]
    · rw [ended]

/-- The part stands in: its till waits no longer, and every other till stays (R128). -/
theorem State.standIn_payer (t u : TillNo) :
    ((s.standIn t).tills.get u).state.payer = if u = t then none else (s.tills.get u).state.payer := by
  unfold State.standIn
  split
  · split
    · split
      · split
        · exact State.approve_payer ..
        · exact State.endCharge_payer ..
      · exact State.endCharge_payer ..
    · exact State.endCharge_payer ..
  · next notAuthorising =>
    split
    · next h =>
      subst h
      cases hs : (s.tills.get u).state with
      | authorising c p left => exact absurd hs (notAuthorising c p left)
      | _ => rfl
    · rfl

theorem State.standIns_payer (ts : List TillNo) (s : State) (u : TillNo) :
    ((ts.foldl (fun s t => s.standIn t) s).tills.get u).state.payer = if u ∈ ts then none else (s.tills.get u).state.payer := by
  induction ts generalizing s with
  | nil => simp
  | cons t ts ih =>
    rw [List.foldl_cons, ih, State.standIn_payer]
    by_cases hu : u = t <;> simp [hu]

theorem State.denyQueries_tills (qs : List (Nat × CardNo × Held)) (s : State) :
    (qs.foldl (fun s x => s.denyQuery x.1 x.2.1 x.2.2) s).tills = s.tills := by
  induction qs generalizing s with
  | nil => rfl
  | cons q qs ih =>
    rw [List.foldl_cons, ih]
    rfl

/-- What the card table holds when the queries of a list are denied: nothing new, and nothing at their positions. -/
theorem State.denyQueries_tget {qs : List (Nat × CardNo × Held)} (rising : Rising s.cards) {i : Nat} {e : Entry}
    (h : tget (qs.foldl (fun s x => s.denyQuery x.1 x.2.1 x.2.2) s).cards i = some e) :
    tget s.cards i = some e ∧ ∀ x ∈ qs, x.1 ≠ i := by
  induction qs generalizing s with
  | nil => exact ⟨h, by simp⟩
  | cons q qs ih =>
    obtain ⟨found, others⟩ := ih (s := s.denyQuery q.1 q.2.1 q.2.2) (rising.tdel _) h
    change tget (tdel q.1 s.cards) i = some e at found
    by_cases hq : i = q.1
    · rw [hq, tget_tdel_self _ _ rising] at found
      cases found
    · rw [tget_tdel_other _ _ _ hq] at found
      exact ⟨found, List.forall_mem_cons.mpr ⟨Ne.symm hq, others⟩⟩

theorem mem_pendingByReader {cards : List (Nat × Entry)} {x : Nat × CardNo × Held} (h : x ∈ pendingEntries cards) :
    x ∈ pendingByReader cards := by
  refine List.mem_flatMap.mpr ⟨x.2.2.reader, List.mem_finRange _, ?_⟩
  simpa using h

/-- Once every query is denied, no entry is pending. -/
theorem State.denyQueries_noPending (rising : Rising s.cards) :
    noPending ((pendingByReader s.cards).foldl (fun s x => s.denyQuery x.1 x.2.1 x.2.2) s).cards := by
  intro i card p h
  obtain ⟨found, others⟩ := State.denyQueries_tget rising h
  exact others _ (mem_pendingByReader ((mem_pendingEntries rising).mpr found)) rfl

theorem State.resolveWaits_noReferral : s.resolveWaits.noReferral := by
  intro u
  rw [State.resolveWaits, State.standIns_payer, State.denyQueries_tills]
  split
  · rfl
  · next h =>
    rw [← TillState.isAuthorising_eq_false]
    simpa [State.authorisingTills, allTills] using h

theorem Steps.noPending (h : Steps True False True s t) (tables : s.tablesLaw)
    (law : s.authority = .standalone → noPending s.cards) : t.authority = .standalone → noPending t.cards :=
  (h.induct (P := fun u => u.tablesLaw ∧ (u.authority = .standalone → Machine.noPending u.cards))
    (fun _ _ change ⟨tables, law⟩ => ⟨change.tablesLaw tables, change.noPending tables.1 law⟩) ⟨tables, law⟩).2

theorem State.resolveWaits_noPending (tables : s.tablesLaw) :
    s.resolveWaits.authority = .standalone → noPending s.resolveWaits.cards := by
  have denied : Steps True False True s ((pendingByReader s.cards).foldl (fun s x => s.denyQuery x.1 x.2.1 x.2.2) s) :=
    State.denyQueries_steps _ fun _ => ⟨tables.1, fun x hx e he => by
      rw [pending_of_mem tables.1 hx] at he
      obtain rfl := Option.some.inj he
      exact Entry.unengaged_pending _ _⟩
  have tables' := denied.induct (P := State.tablesLaw) (fun _ _ change => change.tablesLaw) tables
  exact Steps.noPending (Steps.foldl (fun _ t => State.standIn_steps t) _ _) tables' fun _ => State.denyQueries_noPending tables.1

theorem State.standaloneLaw_enterStandalone (tables : s.tablesLaw) (expired : Bool) : (s.enterStandalone expired).standaloneLaw := by
  have tables' := (Event.standalone (s := s) expired).tablesLaw tables
  refine (State.standaloneLaw_iff tables'.1).mpr ?_
  unfold State.enterStandalone
  dsimp only
  split
  · exact ⟨State.resolveWaits_noPending (s := State.notify _ { s with authority := .standalone }) tables,
      fun _ => State.resolveWaits_noReferral⟩
  · exact ⟨State.resolveWaits_noPending (s := { s with authority := .standalone }) tables, fun _ => State.resolveWaits_noReferral⟩

theorem Steps.standaloneLaw (h : Steps True False True s t) (tables : s.tablesLaw) (law : s.standaloneLaw) :
    t.standaloneLaw :=
  (h.induct (P := fun u => u.tablesLaw ∧ u.standaloneLaw) (fun u v change ⟨tables, law⟩ => by
    have tables' := change.tablesLaw tables
    obtain ⟨cards, tills⟩ := (State.standaloneLaw_iff tables.1).mp law
    exact ⟨tables', (State.standaloneLaw_iff tables'.1).mpr ⟨change.noPending tables.1 cards, change.noReferral tills⟩⟩)
    ⟨tables, law⟩).2

theorem Event.standaloneLaw (h : Event s t) (tables : s.tablesLaw) (law : s.standaloneLaw) : t.standaloneLaw := by
  cases h with
  | change h => exact Steps.standaloneLaw (.single (h.mono (fun _ => trivial) False.elim fun _ => trivial)) tables law
  | standalone expired => exact State.standaloneLaw_enterStandalone tables expired
  | evacuate cause => exact Steps.standaloneLaw (State.enterEvacuation_steps cause) tables law
  | reconfigure x => exact Steps.standaloneLaw (State.writeChannel_steps x) tables law
  | settle lineLow => exact Steps.standaloneLaw (State.settleStart_steps lineLow) tables law

end Sys2Proof.Machine

namespace Sys2Proof.Steps
open Sys2Proof.Machine

/-- Settles O12: each change keeps the law, and the entry to STANDALONE resolves every wait. -/
theorem everyStepKeepsTheStandaloneLaw : Obligations.EveryStepKeepsTheStandaloneLaw := by
  intro s t law h
  exact (step_induct (P := fun u => u.tablesLaw ∧ u.standaloneLaw)
    (fun _ _ event ⟨tables, law⟩ => ⟨event.tablesLaw tables, event.standaloneLaw tables law⟩) h law).2

end Sys2Proof.Steps
end

section
/-! The zone through a SETUP CHANNEL, the sweep of start-up, and the claims of an entry into EVACUATION: what becomes of the channel
itself, and what the others keep (R47, R64, R67, R155). -/

namespace Sys2Proof.Machine

variable {cfg : Setup} {pins : Pins} {c d : Chan} {z z' : Zone} {release : Bool}

/-! ## An operation that settles one channel -/

/-- What an operation that settles channel `c` keeps of the arbiters and of the other channels. -/
structure Zone.Settles (cfg : Setup) (c : Chan) (z z' : Zone) : Prop where
  orderly : z.orderly → z'.orderly
  off : z.orderly → ∀ d, d ≠ c → (z.channels.get d).state = .off → (z'.channels.get d).state = .off
  freed : z.orderly → ∀ d, d ≠ c → (z.channels.get d).freed cfg d → (z'.channels.get d).freed cfg d

theorem Zone.Settles.trans {z₁ z₂ z₃ : Zone} (h : z₁.Settles cfg c z₂) (k : z₂.Settles cfg c z₃) : z₁.Settles cfg c z₃ :=
  ⟨fun o => k.orderly (h.orderly o), fun o d hd hs => k.off (h.orderly o) d hd (h.off o d hd hs),
    fun o d hd hs => k.freed (h.orderly o) d hd (h.freed o d hd hs)⟩

theorem Zone.Keeps.settles (h : z.Keeps True cfg z') : z.Settles cfg c z' :=
  ⟨h.orderly, fun o d _ => h.off o d, fun o d _ => h.freed trivial o d⟩

theorem Zone.Settles.of_other (orderly : z.orderly → z'.orderly) (other : ∀ d, d ≠ c → z'.channels.get d = z.channels.get d) :
    z.Settles cfg c z' :=
  ⟨orderly, fun _ d hd hs => by rw [other d hd]; exact hs, fun _ d hd hs => by rw [other d hd]; exact hs⟩

/-- The privacy and the qualifiers of a channel stopped (R47). -/
theorem Zone.unqualify_keeps : z.Keeps True cfg (z.setChan c (fun ch =>
    { ch with privacy := false, contactQual := none, privacyQual := none })) := Zone.Keeps.setChan (fun _ => rfl) (fun _ => rfl)

theorem Zone.requalify_keeps : z.Keeps True cfg (z.setChan c (·.requalify cfg pins c)) :=
  Zone.Keeps.setChan (fun _ => rfl) (fun _ => rfl)

theorem Zone.putOff_settles : z.Settles cfg c (z.putOff cfg c) := by
  unfold Zone.putOff
  refine .trans (.trans (.of_other (fun o => (o.leave c).orderly_enter rfl) fun d hd => ?_)
    Zone.unqualify_keeps.settles) Zone.settle_keeps.settles
  rw [Zone.enter_get_other _ _ _ _ _ hd, Zone.leave_channels]

theorem Zone.putOff_off (o : z.orderly) : ((z.putOff cfg c).channels.get c).state = .off := by
  unfold Zone.putOff
  have entered : ((z.leave c).enter cfg c .off).orderly := (o.leave c).orderly_enter rfl
  refine (Zone.settle_keeps (E := True) (cfg := cfg)).off ?_ c ?_
  · exact (Zone.unqualify_keeps (cfg := cfg)).orderly entered
  · rw [Zone.setChan_get_self, Zone.enter_get_self, Channel.enter_state]

/-- A channel that waits for no slot is placed (R67). -/
theorem Zone.place_settles (calm : (z.channels.get c).state.waits = false) : z.Settles cfg c (z.place cfg c) := by
  have enter : ∀ st : ChanState, st.drives = false → z.Settles cfg c (z.enter cfg c st) := fun st hs =>
    .of_other (fun o => (o.apart calm).orderly_enter hs) fun d hd => Zone.enter_get_other _ _ _ _ _ hd
  unfold Zone.place
  split
  · exact enter _ rfl
  · split
    · exact enter _ rfl
    · exact .trans (.of_other (fun o => (o.apart calm).hold) fun d hd => Zone.hold_get_other _ _ _ _ _ hd)
        Zone.settle_keeps.settles

theorem Channel.readInputs_state (ch : Channel) : (ch.readInputs cfg pins c).state = ch.state := rfl

theorem Zone.readInputs_keeps : z.Keeps True cfg (z.setChan c (·.readInputs cfg pins c)) := Zone.Keeps.setChan (fun _ => rfl) (fun _ => rfl)

/-! ## SETUP CHANNEL (R47) -/

theorem Zone.reconfigure_settles {old : ChanSetup} (o : z.orderly) : z.Settles cfg c (z.reconfigure cfg pins old c) := by
  unfold Zone.reconfigure
  dsimp only
  split
  · split
    · exact Zone.putOff_settles
    · refine .trans (.trans Zone.putOff_settles Zone.readInputs_keeps.settles) (Zone.place_settles ?_)
      rw [Zone.setChan_get_self, Channel.readInputs_state, Zone.putOff_off o]
      rfl
  · split
    · exact Zone.requalify_keeps.settles
    · exact (Zone.Keeps.refl z).settles

/-- A channel that is, or comes to be, of kind NONE is OFF (R47). -/
theorem Zone.reconfigure_off {old : ChanSetup} (o : z.orderly) (isNone : (cfg.channels.get c).kind = .none)
    (was : old.kind = .none → (z.channels.get c).state = .off) :
    ((z.reconfigure cfg pins old c).channels.get c).state = .off := by
  unfold Zone.reconfigure
  dsimp only
  split
  · simpa only [isNone, if_true] using Zone.putOff_off o
  · next same =>
    rw [if_neg (by simp [isNone])]
    exact was (by simpa [isNone, eq_comm] using same)

/-! ## The sweep of start-up (R67) -/

theorem Zone.sweep_settles (off : (z.channels.get c).state = .off) : z.Settles cfg c (z.sweep cfg pins release c) := by
  have calm : ((z.setChan c (·.readInputs cfg pins c)).channels.get c).state.waits = false := by
    rw [Zone.setChan_get_self, Channel.readInputs_state, off]
    rfl
  unfold Zone.sweep
  split
  · refine .trans (Zone.readInputs_keeps (pins := pins) (c := c)).settles ?_
    dsimp only
    split
    · refine .trans (.of_other (fun o => (o.apart calm).orderly_enter ?_) fun d hd => Zone.enter_get_other _ _ _ _ _ hd)
        Zone.releaseClaim_keeps.settles
      split <;> rfl
    · exact Zone.place_settles calm
  · exact (Zone.Keeps.refl z).settles

/-- A channel of kind NONE has no part in the sweep. -/
theorem Zone.sweep_none (isNone : cfg.kind c = .none) : z.sweep cfg pins release c = z := if_neg (by simp [Setup.inUse, isNone])

/-- A released sweep sets its channel on its way to RELEASED. -/
theorem Zone.sweep_freed (o : z.orderly) (off : (z.channels.get c).state = .off) :
    ((z.sweep cfg pins true c).channels.get c).freed cfg c := by
  by_cases hk : cfg.kind c = .none
  · rw [Zone.sweep_none hk]
    exact ⟨by rw [off]; rfl, .inr ⟨hk, off⟩⟩
  · have calm : ((z.setChan c (·.readInputs cfg pins c)).channels.get c).state.waits = false := by
      rw [Zone.setChan_get_self, Channel.readInputs_state, off]
      rfl
    unfold Zone.sweep
    rw [if_pos (by simpa [Setup.inUse] using hk), if_pos rfl]
    refine Zone.releaseClaim_freed ?_ fun h => absurd h hk
    refine ((Zone.readInputs_keeps (cfg := cfg).orderly o).apart calm).orderly_enter ?_
    split <;> rfl

/-- What a sweep of a list of OFF channels leaves. -/
structure Zone.Swept (cfg : Setup) (release : Bool) (cs : List Chan) (z z' : Zone) : Prop where
  orderly : z'.orderly
  off : ∀ d, d ∉ cs ∨ cfg.kind d = .none → (z.channels.get d).state = .off → (z'.channels.get d).state = .off
  freed : release = true → ∀ d, d ∈ cs ∨ (z.channels.get d).freed cfg d → (z'.channels.get d).freed cfg d

theorem Zone.foldl_swept (cs : List Chan) (z : Zone) (nodup : cs.Nodup) (o : z.orderly)
    (off : ∀ d ∈ cs, (z.channels.get d).state = .off) :
    z.Swept cfg release cs (cs.foldl (fun z c => z.sweep cfg pins release c) z) := by
  induction cs generalizing z with
  | nil => exact ⟨o, fun _ _ h => h, fun _ _ h => h.resolve_left List.not_mem_nil⟩
  | cons c cs ih =>
    obtain ⟨new, nodup⟩ := List.nodup_cons.mp nodup
    have offc : (z.channels.get c).state = .off := off c (by simp)
    have here : z.Settles cfg c (z.sweep cfg pins release c) := Zone.sweep_settles offc
    have rest := ih (z.sweep cfg pins release c) nodup (here.orderly o) fun d hd =>
      here.off o d (fun e => new (e ▸ hd)) (off d (by simp [hd]))
    refine ⟨rest.orderly, fun d hd hs => ?_, fun hr d hd => ?_⟩
    · by_cases hdc : d = c
      · subst hdc
        have none : cfg.kind d = .none := hd.resolve_left (by simp)
        exact rest.off d (.inr none) (by rw [Zone.sweep_none none]; exact hs)
      · exact rest.off d (hd.imp (fun h => fun h' => h (by simp [h'])) id) (here.off o d hdc hs)
    · refine rest.freed hr d ?_
      by_cases hdc : d = c
      · subst hdc
        subst hr
        exact .inr (Zone.sweep_freed o offc)
      · exact hd.imp (fun h => (List.mem_cons.mp h).resolve_left hdc) (here.freed o d hdc)

/-- The sweep writes the zone alone. -/
theorem State.sweepAll_eq (release : Bool) (s : State) :
    s.sweepAll release = { s with zone := allChans.foldl (fun z c => z.sweep s.setup s.pins release c) s.zone } := by
  have fold : ∀ (cs : List Chan) (z : Zone), cs.foldl (fun s c => s.onZone (·.sweep s.setup s.pins release c)) { s with zone := z } =
      { s with zone := cs.foldl (fun z c => z.sweep s.setup s.pins release c) z } := by
    intro cs
    induction cs with
    | nil => exact fun _ => rfl
    | cons c cs ih => exact fun z => ih _
  exact fold allChans s.zone

/-! ## The release claims of an entry (R155) -/

/-- Release claims of a list of channels set each of them on its way to RELEASED. -/
theorem Zone.foldl_releaseClaim (cs : List Chan) (z : Zone) (o : z.orderly)
    (none : ∀ d, cfg.kind d = .none → (z.channels.get d).state = .off) :
    z.Keeps True cfg (cs.foldl (fun z c => z.releaseClaim cfg c) z) ∧
      ∀ d ∈ cs, ((cs.foldl (fun z c => z.releaseClaim cfg c) z).channels.get d).freed cfg d := by
  induction cs generalizing z with
  | nil => exact ⟨.refl z, by simp⟩
  | cons c cs ih =>
    have here : z.Keeps True cfg (z.releaseClaim cfg c) := Zone.releaseClaim_keeps
    obtain ⟨keeps, freed⟩ := ih _ (here.orderly o) fun d hd => here.off o d (none d hd)
    refine ⟨here.trans keeps, List.forall_mem_cons.mpr ⟨?_, freed⟩⟩
    exact keeps.freed trivial (here.orderly o) c (Zone.releaseClaim_freed o (none c))

theorem State.releaseClaims_eq (s : State) :
    allChans.foldl (fun s c => s.onZone (·.releaseClaim s.setup c)) s =
      { s with zone := allChans.foldl (fun z c => z.releaseClaim s.setup c) s.zone } := by
  have fold : ∀ (cs : List Chan) (z : Zone), cs.foldl (fun s c => s.onZone (·.releaseClaim s.setup c)) { s with zone := z } =
      { s with zone := cs.foldl (fun z c => z.releaseClaim s.setup c) z } := by
    intro cs
    induction cs with
    | nil => exact fun _ => rfl
    | cons c cs ih => exact fun z => ih _
  exact fold allChans s.zone

end Sys2Proof.Machine
end

section
/-! The law of the drive slots (R47, R62, R63) and the law of evacuation (R129, R155, R156) through every change and through the events
that some part of them follows as a whole. -/

namespace Sys2Proof.Machine

variable {L A T P : Prop} {s t : State}

/-! ## The drive slots -/

/-- The law of the drive slots in its parts; `P` says whether what it asks of the time before the sweep of start-up is asked. -/
structure State.SlotParts (P : Prop) (s : State) : Prop where
  orderly : s.zone.orderly
  none : ∀ c, s.setup.kind c = .none → (s.zone.channels.get c).state = .off
  early : P → s.phase ≠ .running → ∀ c, (s.zone.channels.get c).state = .off

theorem State.slotLaw_iff : s.slotLaw ↔ s.SlotParts True :=
  ⟨fun ⟨orderly, off, early⟩ => ⟨orderly, off, fun _ => early⟩, fun h => ⟨h.orderly, h.none, h.early trivial⟩⟩

theorem State.SlotParts.of_same (law : s.SlotParts P) (kinds : ∀ c, t.setup.kind c = s.setup.kind c)
    (phase : t.phase = .running ↔ s.phase = .running) (channels : t.zone.channels = s.zone.channels)
    (groups : t.zone.groups = s.zone.groups) : t.SlotParts P := by
  obtain ⟨orderly, none, early⟩ := law
  refine ⟨?_, fun c hc => ?_, fun p h c => ?_⟩
  · unfold Zone.orderly at orderly ⊢
    rw [channels, groups]
    exact orderly
  · rw [channels]
    exact none c ((kinds c).symm.trans hc)
  · rw [channels]
    exact early p (fun h' => h (phase.mpr h')) c

theorem State.SlotParts.of_reset (channels : ∀ c, (s.zone.channels.get c).state = .off)
    (queues : ∀ g, (s.zone.groups.get g).queue = []) : s.SlotParts P := by
  refine ⟨⟨fun g => ?_, fun g c hc => ?_, fun c hc => ?_⟩, fun c _ => channels c, fun _ _ => channels⟩
  · rw [queues]; exact List.nodup_nil
  · rw [queues] at hc; cases hc
  · rw [channels] at hc; cases hc

theorem State.reset_channel_off (c : Chan) : (State.reset.zone.channels.get c).state = .off := by
  simp [State.reset, Vector.get_eq_getElem, Channel.reset]

theorem Change.slotParts (h : Change L True A s t) (law : s.SlotParts P) : t.SlotParts P := by
  cases h with
  | aside h => rw [h]; exact ⟨law.orderly, law.none, law.early⟩
  | setup kinds => exact law.of_same (kinds trivial) Iff.rfl rfl rfl
  | phase runs => exact law.of_same (fun _ => rfl) (runs trivial) rfl rfl
  | zone _ keeps =>
    obtain ⟨orderly, none, early⟩ := law
    have keeps := keeps trivial
    exact ⟨keeps.orderly orderly, fun c hc => keeps.off orderly c (none c hc), fun p hp c => keeps.off orderly c (early p hp c)⟩
  | accept | alight | refer | settle =>
    exact law.of_same (by simp [State.disengage]) (by simp [State.disengage]) (by simp [State.disengage, State.onZone])
      (by simp [State.disengage, State.onZone])
  | restart =>
    obtain ⟨gs, zone, queues⟩ := State.restarted_zone _ _ _ s
    exact .of_reset (fun c => by rw [zone]; exact State.reset_channel_off c) fun g => by rw [zone]; exact queues g
  | keep =>
    obtain ⟨gs, zone, queues⟩ := State.restarted_zone _ _ _ s
    obtain ⟨cs, kept, states⟩ := State.keep_zone s (s.restarted _ _ _)
    refine .of_reset (fun c => ?_) fun g => ?_
    · rw [kept, states, zone]; exact State.reset_channel_off c
    · rw [kept, zone]; exact queues g
  | _ => exact ⟨law.orderly, law.none, law.early⟩

/-! ## The law of evacuation, in its parts -/

/-- What the law of evacuation says of the mode, the tills (where `T` holds: the entry claims them last) and the channels while it is in
effect, and (where `P` holds) of the time before the sweep of start-up. -/
structure State.EvacParts (T P : Prop) (s : State) : Prop where
  mode : s.evac.state = .evacuation → s.mode = .normal
  tills : T → s.evac.state = .evacuation → ∀ t, (s.tills.get t).state = .idle
  freed : s.evac.state = .evacuation → ∀ c, (s.zone.channels.get c).freed s.setup c
  early : P → s.phase ≠ .running → s.evac.state = .normal ∧ ∀ t, (s.tills.get t).state = .idle

theorem State.evacLaw_iff (slot : s.slotLaw) : s.evacLaw ↔ s.EvacParts True True := by
  obtain ⟨-, none, -⟩ := slot
  have freed : ∀ c, ((s.zone.channels.get c).state.releasing = true ∧
      (s.setup.inUse c = true → (s.zone.channels.get c).release = true)) ↔ (s.zone.channels.get c).freed s.setup c := by
    intro c
    refine and_congr_right fun _ => ?_
    simp only [Setup.inUse, bne_iff_ne, ne_eq]
    by_cases hk : s.setup.kind c = .none
    · simp [hk, none c hk]
    · simp [hk]
  unfold State.evacLaw
  simp only [freed]
  exact ⟨fun ⟨now, early⟩ => ⟨fun h => (now h).1, fun _ h => (now h).2.1, fun h => (now h).2.2, fun _ => early⟩,
    fun h => ⟨fun e => ⟨h.mode e, h.tills trivial e, h.freed e⟩, h.early trivial⟩⟩

/-- Outside evacuation in the running part the law asks nothing. -/
theorem State.EvacParts.of_calm (calm : s.evac.state ≠ .evacuation) (running : s.phase = .running) : s.EvacParts T P :=
  ⟨fun h => absurd h calm, fun _ h => absurd h calm, fun h => absurd h calm, fun _ h => absurd running h⟩

/-- At a start no evacuation is in effect and every till is IDLE. -/
theorem State.EvacParts.of_reset (evac : s.evac.state = .normal) (tills : s.tills = State.reset.tills) : s.EvacParts T P := by
  refine ⟨by simp [evac], by simp [evac], by simp [evac], fun _ _ => ⟨evac, fun t => ?_⟩⟩
  simp [tills, State.reset, Vector.get_eq_getElem, Till.reset]

/-- A change that leaves the evacuation and the phase, and in them what the law reads. -/
theorem State.EvacParts.of_same (h : s.EvacParts T P) (evac : t.evac.state = s.evac.state) (phase : t.phase = s.phase)
    (mode : s.evac.state = .evacuation → s.mode = .normal → t.mode = .normal)
    (tills : (T ∧ s.evac.state = .evacuation) ∨ (P ∧ s.phase ≠ .running) → (∀ u, (s.tills.get u).state = .idle) →
      ∀ u, (t.tills.get u).state = .idle)
    (freed : s.evac.state = .evacuation → ∀ c, (s.zone.channels.get c).freed s.setup c → (t.zone.channels.get c).freed t.setup c) :
    t.EvacParts T P := by
  obtain ⟨hm, ht, hf, he⟩ := h
  refine ⟨fun e => ?_, fun h e => ?_, fun e c => ?_, fun p h => ?_⟩
  · rw [evac] at e; exact mode e (hm e)
  · rw [evac] at e; exact tills (.inl ⟨h, e⟩) (ht h e)
  · rw [evac] at e; exact freed e c (hf e c)
  · rw [phase] at h
    rw [evac]
    exact ⟨(he p h).1, tills (.inr ⟨p, h⟩) (he p h).2⟩

theorem Channel.freed_of_kind {cfg cfg' : Setup} {c : Chan} {ch : Channel} (kind : cfg'.kind c = cfg.kind c)
    (h : ch.freed cfg c) : ch.freed cfg' c := by
  unfold Channel.freed at h ⊢
  rw [kind]
  exact h

theorem Change.evacParts (h : Change L True A s t) (slot : s.SlotParts P) (law : s.EvacParts T P) : t.EvacParts T P := by
  cases h with
  | aside h => rw [h]; exact ⟨law.mode, law.tills, law.freed, law.early⟩
  | setup kinds => exact law.of_same rfl rfl (fun _ => id) (fun _ => id) fun _ c => Channel.freed_of_kind (kinds trivial c)
  | mode evac => exact law.of_same rfl rfl (fun e _ => evac trivial e) (fun _ => id) fun _ _ => id
  | evac state =>
    rcases state trivial with same | normal | ⟨recovery, running⟩
    · exact law.of_same same rfl (fun _ => id) (fun _ => id) fun _ _ => id
    · exact ⟨by simp [normal], by simp [normal], by simp [normal], fun p h => ⟨normal, (law.early p h).2⟩⟩
    · exact .of_calm (by simp [recovery]) running
  | phase runs => exact ⟨law.mode, law.tills, law.freed, fun p h => law.early p fun h' => h ((runs trivial).mpr h')⟩
  | zone _ keeps => exact law.of_same rfl rfl (fun _ => id) (fun _ => id) fun e c => (keeps trivial).freed e slot.orderly c
  | tills _ idle =>
    refine law.of_same rfl rfl (fun _ => id) (fun now idles u => ?_) fun _ _ => id
    rcases idle trivial with ⟨running, calm⟩ | stays
    · exact (now.elim (fun e => calm e.2) fun h => h.2 running).elim
    · exact stays u (idles u)
  | refer armed =>
    rename_i till c p left k known engaged online
    refine law.of_same (by simp) (by simp) (by simp) (fun _ idles => ?_) (by simp)
    obtain ⟨c', left', armed⟩ := armed
    rw [idles till] at armed
    cases armed
  | settle =>
    rename_i till last card payer
    refine law.of_same (by simp [State.disengage]) (by simp [State.disengage]) (by simp [State.disengage]) (fun _ idles u => ?_)
      (by simp [State.disengage])
    rw [State.disengage_tills]
    by_cases hu : u = till
    · subst hu
      simp [State.setTill]
    · simp only [State.setTill, vget_vmod_other _ _ _ _ hu]
      exact idles u
  | accept => exact law.of_same (by simp) (by simp) (by simp) (by simp) (by simp [State.onZone])
  | alight => exact law.of_same (by simp) (by simp) (by simp) (by simp) (by simp)
  | restart | keep => exact .of_reset rfl rfl
  | _ => exact ⟨law.mode, law.tills, law.freed, law.early⟩

/-- The two laws together, through a run of changes. -/
theorem Steps.parts (h : Steps L True A s t) (slot : s.SlotParts P) (law : s.EvacParts T P) : t.SlotParts P ∧ t.EvacParts T P :=
  h.induct (P := fun u => u.SlotParts P ∧ u.EvacParts T P)
    (fun _ _ change ⟨slot, law⟩ => ⟨change.slotParts slot, change.evacParts slot law⟩) ⟨slot, law⟩

theorem Steps.slotParts (h : Steps L True A s t) (slot : s.SlotParts P) : t.SlotParts P :=
  h.induct (P := fun u => u.SlotParts P) (fun _ _ change => change.slotParts) slot

/-! ## The entry into EVACUATION (R155, R156) -/

theorem State.takeRoles_frame (s : State) : ∃ rs, s.takeRoles = { s with readers := rs } := by
  unfold State.takeRoles
  generalize allReaders = readers
  induction readers generalizing s with
  | nil => exact ⟨_, rfl⟩
  | cons r rs ih => exact ih _

theorem Till.markUnfit_state (unfit : Bool) (x : Till) : (x.markUnfit unfit).state = x.state := rfl

theorem State.markUnfit_frame (s : State) : ∃ ls ts, s.markUnfit = { s with zone := { s.zone with lanes := ls }, tills := ts } ∧
    ∀ t, (ts.get t).state = (s.tills.get t).state := by
  unfold State.markUnfit
  dsimp only
  have lanes : ∀ (xs : List LaneNo) (s : State), ∃ ls, xs.foldl (fun s l => s.onZone (·.setLane l
      (·.markUnfit ((s.setup.lanes.get l).used && !s.setup.laneFits l)))) s = { s with zone := { s.zone with lanes := ls } } := by
    intro xs
    induction xs with
    | nil => exact fun _ => ⟨_, rfl⟩
    | cons x xs ih => exact fun s => ih _
  have tills : ∀ (xs : List TillNo) (s : State), ∃ ts, xs.foldl (fun s t => s.setTill t (·.markUnfit (!s.setup.tillFits t))) s =
      { s with tills := ts } ∧ ∀ t, (ts.get t).state = (s.tills.get t).state := by
    intro xs
    induction xs with
    | nil => exact fun _ => ⟨_, rfl, fun _ => rfl⟩
    | cons x xs ih =>
      intro s
      obtain ⟨ts, h, states⟩ := ih (s.setTill x (·.markUnfit (!s.setup.tillFits x)))
      refine ⟨ts, h, fun t => (states t).trans ?_⟩
      by_cases ht : t = x
      · subst ht
        simp [State.setTill, Till.markUnfit_state]
      · simp [State.setTill, vget_vmod_other _ _ _ _ ht]
  obtain ⟨ls, h⟩ := lanes allLanes s
  rw [h]
  obtain ⟨ts, h', states⟩ := tills allTills { s with zone := { s.zone with lanes := ls } }
  exact ⟨ls, ts, h', states⟩

/-- An entry into EVACUATION leaves MAINTENANCE, in the same phase and outside evacuation still. -/
theorem State.leaveForEvacuation_settled (s : State) :
    s.leaveForEvacuation.mode = .normal ∧ s.leaveForEvacuation.phase = s.phase := by
  unfold State.leaveForEvacuation
  split
  · obtain ⟨rs, h₁⟩ := State.takeRoles_frame { s with mode := .normal }
    obtain ⟨ls, ts, h₂, -⟩ := State.markUnfit_frame (State.takeRoles { s with mode := .normal })
    obtain ⟨rs', b, h₃⟩ := State.busOn_frame (State.takeRoles { s with mode := .normal }).markUnfit
    rw [h₃, h₂, h₁]
    exact ⟨rfl, rfl⟩
  · next h =>
    refine ⟨?_, rfl⟩
    cases hm : s.mode with
    | normal => rfl
    | maintenance => exact absurd (State.inMaintenance_of_maintenance hm) h

theorem State.dropCharge_till (o : ChargeOutcome) (t u : TillNo) (s : State) :
    ((s.dropCharge t o).tills.get u).state = if u = t then .idle else (s.tills.get u).state := by
  have ended : ∀ c taken slot ap, ((s.endCharge t c o taken slot ap).tills.get u).state =
      if u = t then .idle else (s.tills.get u).state := by
    intro c taken slot ap
    rw [State.endCharge_tills]
    split
    · next h => rw [h, vget_vmod_self]
    · next h => rw [vget_vmod_other _ _ _ _ h]
  unfold State.dropCharge
  split
  · next idle =>
    split
    · next h => rw [h, idle]
    · rfl
  · exact ended ..
  · exact ended ..

theorem State.dropCharges_till (o : ChargeOutcome) (ts : List TillNo) (s : State) (u : TillNo) :
    ((ts.foldl (fun s t => s.dropCharge t o) s).tills.get u).state = if u ∈ ts then .idle else (s.tills.get u).state := by
  induction ts generalizing s with
  | nil => simp
  | cons t ts ih =>
    rw [List.foldl_cons, ih, State.dropCharge_till]
    by_cases hu : u = t <;> simp [hu]

/-- After the release claims of an entry every channel is on its way to RELEASED. -/
theorem State.releaseClaims_laws (running : s.phase = .running) (mode : s.mode = .normal) (slot : s.SlotParts True) :
    (allChans.foldl (fun s c => s.onZone (·.releaseClaim s.setup c)) s).SlotParts True ∧
      (allChans.foldl (fun s c => s.onZone (·.releaseClaim s.setup c)) s).EvacParts False True := by
  obtain ⟨keeps, freed⟩ := Zone.foldl_releaseClaim allChans s.zone slot.orderly slot.none
  rw [State.releaseClaims_eq]
  generalize allChans.foldl (fun z c => z.releaseClaim s.setup c) s.zone = z at keeps freed ⊢
  exact ⟨⟨keeps.orderly slot.orderly, fun c hc => keeps.off slot.orderly c (slot.none c hc), fun _ h => absurd running h⟩,
    fun _ => mode, False.elim, fun _ c => freed c (List.mem_finRange c), fun _ h => absurd running h⟩

/-- The claims of an entry set every channel on its way to RELEASED and end every charge. -/
theorem State.entryClaims_laws (running : s.phase = .running) (mode : s.mode = .normal) (slot : s.SlotParts True) :
    s.entryClaims.SlotParts True ∧ s.entryClaims.EvacParts True True := by
  obtain ⟨slots, law⟩ := State.releaseClaims_laws running mode slot
  unfold State.entryClaims
  dsimp only
  generalize allChans.foldl (fun s c => s.onZone (·.releaseClaim s.setup c)) s = u at slots law ⊢
  have rest : Steps False True False u (allTills.foldl (fun s t => s.dropCharge t .suspended)
      (allLanes.foldl (fun s l => s.evacuateLane l) u)) :=
    .trans (Steps.foldl (fun s l => State.evacuateLane_steps l) allLanes u)
      (Steps.foldl (fun s t => State.dropCharge_steps t .suspended) allTills _)
  obtain ⟨slots, law⟩ := rest.parts slots law
  refine ⟨slots, law.mode, fun _ _ t => ?_, law.freed, law.early⟩
  rw [State.dropCharges_till, if_pos (show t ∈ allTills from List.mem_finRange t)]

theorem State.enterEvacuation_laws (cause : EvacCause) (running : s.phase = .running) (slot : s.SlotParts True) :
    (s.enterEvacuation cause).SlotParts True ∧ (s.enterEvacuation cause).EvacParts True True := by
  have left : s.leaveForEvacuation.SlotParts True := Steps.slotParts (L := False) (A := False) State.leaveForEvacuation_steps slot
  obtain ⟨mode, phase⟩ := s.leaveForEvacuation_settled
  unfold State.enterEvacuation
  dsimp only
  generalize hu : State.evacNotice cause _ _ _ = u
  have entered : u.SlotParts True ∧ u.phase = .running ∧ u.mode = .normal := by
    subst hu
    exact ⟨⟨left.orderly, left.none, left.early⟩, phase.trans running, mode⟩
  exact State.entryClaims_laws entered.2.1 entered.2.2 entered.1

/-! ## SETUP CHANNEL (R47) -/

theorem State.writeChannel_slotParts {x : Chan × ChanSetup} (running : s.phase = .running) (slot : s.SlotParts True) :
    (s.writeChannel x).SlotParts True := by
  obtain ⟨orderly, none, -⟩ := slot
  have settles := Zone.reconfigure_settles (cfg := { s.setup with channels := vset s.setup.channels x.1 x.2 }) (pins := s.pins)
    (c := x.1) (old := s.setup.channels.get x.1) orderly
  refine ⟨settles.orderly orderly, fun c hc => ?_, fun _ h => absurd running h⟩
  by_cases h : c = x.1
  · subst h
    exact Zone.reconfigure_off orderly hc (none _)
  · refine settles.off orderly c h (none c ?_)
    simpa [State.writeChannel, Setup.kind, State.onSetup, State.onZone, vget_vset_other _ _ _ _ h] using hc

/-! ## The end of start-up (R67, R198) -/

theorem State.sweepAll_swept (release : Bool) (orderly : s.zone.orderly) (off : ∀ c, (s.zone.channels.get c).state = .off) :
    s.zone.Swept s.setup release allChans (s.sweepAll release).zone := by
  rw [State.sweepAll_eq]
  exact Zone.foldl_swept allChans s.zone (List.nodup_finRange 32) orderly fun d _ => off d

/-- The slots are in order after a sweep, which start-up may still see as its own. -/
theorem State.sweepAll_slotParts (release : Bool) (slot : s.SlotParts True) (starting : s.phase ≠ .running) :
    (s.sweepAll release).SlotParts False := by
  have off := slot.early trivial starting
  have swept := State.sweepAll_swept release slot.orderly off
  rw [State.sweepAll_eq] at swept ⊢
  exact ⟨swept.orderly, fun c hc => swept.off c (.inr hc) (off c), False.elim⟩

theorem State.SlotParts.run (slot : s.SlotParts False) : ({ s with phase := .running } : State).SlotParts True :=
  ⟨slot.orderly, slot.none, fun _ h => absurd rfl h⟩

theorem State.EvacParts.run (law : s.EvacParts True False) : ({ s with phase := .running } : State).EvacParts True True :=
  ⟨law.mode, law.tills, law.freed, fun _ h => absurd rfl h⟩

/-- Start-up that finds the line CLEAR ends outside evacuation. -/
theorem State.startClear_laws {info : StartInfo} (slot : s.SlotParts True) (starting : s.phase ≠ .running) :
    (s.startClear info).SlotParts False ∧ (s.startClear info).EvacParts True False := by
  unfold State.startClear
  dsimp only
  generalize hu : ({ s with evac := _, mode := _ } : State) = u
  have same : u.SlotParts True ∧ u.phase ≠ .running ∧ u.evac.state = .normal := by
    subst hu
    exact ⟨⟨slot.orderly, slot.none, slot.early⟩, starting, rfl⟩
  obtain ⟨slot, starting, normal⟩ := same
  have swept := State.sweepAll_slotParts false slot starting
  have calm : (u.sweepAll false).evac.state ≠ .evacuation := by
    rw [State.sweepAll_eq]
    simp [normal]
  exact ⟨⟨swept.orderly, swept.none, False.elim⟩, fun h => absurd h calm, fun _ h => absurd h calm, fun h => absurd h calm, False.elim⟩

/-- A sweep with the line ASSERTED leaves every channel on its way to RELEASED. -/
theorem State.sweepAll_evacParts (slot : s.SlotParts True) (starting : s.phase ≠ .running) (mode : s.mode = .normal)
    (idle : ∀ t, (s.tills.get t).state = .idle) : (s.sweepAll true).EvacParts True False := by
  have swept := State.sweepAll_swept true slot.orderly (slot.early trivial starting)
  rw [State.sweepAll_eq] at swept ⊢
  exact ⟨fun _ => mode, fun _ _ => idle, fun _ c => swept.freed rfl c (.inl (List.mem_finRange c)), False.elim⟩

/-- The state that a start-up with the line ASSERTED sweeps (R160): in evacuation, and out of MAINTENANCE. -/
def State.startAsserted (info : StartInfo) (s : State) : State :=
  let u := { s with evac := { s.evac with line := true, lineCount := 0, state := .evacuation }, mode := s.startMode info }
  if u.inMaintenance then { u with mode := .normal }.markUnfit else u

theorem State.startAsserted_settled {info : StartInfo} (slot : s.SlotParts True) :
    (s.startAsserted info).SlotParts True ∧ (s.startAsserted info).phase = s.phase ∧ (s.startAsserted info).mode = .normal ∧
      ∀ t, ((s.startAsserted info).tills.get t).state = (s.tills.get t).state := by
  unfold State.startAsserted
  generalize hu : ({ s with evac := _, mode := s.startMode info } : State) = u
  have same : u.SlotParts True ∧ u.phase = s.phase ∧ u.tills = s.tills := by
    subst hu
    exact ⟨⟨slot.orderly, slot.none, slot.early⟩, rfl, rfl⟩
  clear hu
  obtain ⟨slot, phase, tills⟩ := same
  dsimp only
  split
  · obtain ⟨ls, ts, frame, states⟩ := State.markUnfit_frame { u with mode := .normal }
    rw [frame]
    exact ⟨slot.of_same (fun _ => rfl) Iff.rfl rfl rfl, phase, rfl, fun t => (states t).trans (by rw [tills])⟩
  · next h =>
    refine ⟨slot, phase, ?_, fun t => by rw [tills]⟩
    cases hm : u.mode with
    | normal => rfl
    | maintenance => exact absurd (State.inMaintenance_of_maintenance hm) h

/-- What start-up with the line ASSERTED does after its sweep. -/
theorem State.startReleased_steps_of_sweep (info : StartInfo) :
    Steps False True False ((s.startAsserted info).sweepAll true) (s.startReleased info) := by
  unfold State.startReleased State.startAsserted
  exact .trans (Steps.foldl (fun s l => State.evacuateLane_steps l) allLanes _) (State.leadWith_steps _)

theorem State.startReleased_slotParts {info : StartInfo} (slot : s.SlotParts True) (starting : s.phase ≠ .running) :
    (s.startReleased info).SlotParts False := by
  obtain ⟨slot, phase, -, -⟩ := State.startAsserted_settled (info := info) slot
  exact (State.startReleased_steps_of_sweep info).slotParts
    (State.sweepAll_slotParts true slot fun h => starting (phase.symm.trans h))

/-- Start-up that finds the line ASSERTED ends in evacuation, with every channel on its way to RELEASED (R160). -/
theorem State.startReleased_evacParts {info : StartInfo} (slot : s.SlotParts True) (law : s.EvacParts True True)
    (starting : s.phase ≠ .running) : (s.startReleased info).EvacParts True False := by
  obtain ⟨-, idle⟩ := law.early trivial starting
  obtain ⟨slot, phase, mode, tills⟩ := State.startAsserted_settled (info := info) slot
  have starting : (s.startAsserted info).phase ≠ .running := fun h => starting (phase.symm.trans h)
  exact ((State.startReleased_steps_of_sweep info).parts (State.sweepAll_slotParts true slot starting)
    (State.sweepAll_evacParts slot starting mode fun t => (tills t).trans (idle t))).2

theorem State.settleStart_slotParts {info : StartInfo} {lineLow : Bool} (slot : s.SlotParts True) (starting : s.phase ≠ .running) :
    (s.settleStart info lineLow).SlotParts True := by
  unfold State.settleStart
  split
  · exact (State.startReleased_slotParts slot starting).run
  · exact (State.startClear_laws slot starting).1.run

theorem State.settleStart_evacParts {info : StartInfo} {lineLow : Bool} (slot : s.SlotParts True) (law : s.EvacParts True True)
    (starting : s.phase ≠ .running) : (s.settleStart info lineLow).EvacParts True True := by
  unfold State.settleStart
  split
  · exact (State.startReleased_evacParts slot law starting).run
  · exact (State.startClear_laws slot starting).2.run

/-! ## Every event keeps the two laws -/

theorem Event.slotParts (h : Event s t) (slot : s.SlotParts True) : t.SlotParts True := by
  cases h with
  | change h => exact h.slotParts (A := True) (L := True) slot
  | standalone expired => exact Steps.slotParts (L := False) (A := False) (State.enterStandalone_steps False.elim expired) slot
  | evacuate cause _ running => exact (State.enterEvacuation_laws cause running slot).1
  | reconfigure x _ running => exact State.writeChannel_slotParts running slot
  | settle lineLow starting => exact State.settleStart_slotParts slot (by simp [starting])

theorem Event.evacParts (h : Event s t) (slot : s.SlotParts True) (law : s.EvacParts True True) : t.EvacParts True True := by
  cases h with
  | change h => exact h.evacParts slot law
  | standalone expired => exact (Steps.parts (L := False) (A := False) (State.enterStandalone_steps False.elim expired) slot law).2
  | evacuate cause _ running => exact (State.enterEvacuation_laws cause running slot).2
  | reconfigure x maintenance running =>
    refine .of_calm (fun h => ?_) running
    have := law.mode h
    rw [maintenance] at this
    cases this
  | settle lineLow starting => exact State.settleStart_evacParts slot law (by simp [starting])

/-- Among channels of a group that each hold one of its two slots, no three differ (R62). -/
theorem Zone.orderly.countP_drives_le {z : Zone} (o : z.orderly) (g : Grp) :
    (members g).countP (fun c => (z.channels.get c).state.drives) ≤ 2 := by
  have nodup : ((members g).filter fun c => (z.channels.get c).state.drives).Nodup :=
    ((List.nodup_finRange 32).filter _).filter _
  have held : ∀ c ∈ (members g).filter fun c => (z.channels.get c).state.drives,
      some c ∈ [(z.groups.get g).slot0, (z.groups.get g).slot1] := by
    intro c hc
    obtain ⟨member, drives⟩ := List.mem_filter.mp hc
    have slot := o.2.2 c drives
    rw [mem_members.mp member] at slot
    simpa [eq_comm] using slot
  rw [List.countP_eq_length_filter]
  have sub := (nodup.map (Option.some_injective Chan)).subperm fun x hx => by
    obtain ⟨c, hc, rfl⟩ := List.mem_map.mp hx
    exact held c hc
  simpa using sub.length_le

end Sys2Proof.Machine

namespace Sys2Proof.Steps
open Sys2Proof.Machine

/-- Settles O13: each event keeps the arbiters in order, and the two slots of a group bound its drives. -/
theorem everyStepKeepsTheDriveSlotLaw : Obligations.EveryStepKeepsTheDriveSlotLaw := by
  refine ⟨fun s t law h => ?_, fun z g o => o.countP_drives_le g⟩
  exact State.slotLaw_iff.mpr (step_induct (fun _ _ event => event.slotParts) h (State.slotLaw_iff.mp law))

/-- Settles O14: each event keeps the law, which every entry into EVACUATION and every released start brings about. -/
theorem everyStepKeepsTheEvacuationLaw : Obligations.EveryStepKeepsTheEvacuationLaw := by
  rintro s t ⟨slot, law⟩ h
  have parts := step_induct (P := fun u => u.SlotParts True ∧ u.EvacParts True True)
    (fun _ _ event ⟨slot, law⟩ => ⟨event.slotParts slot, event.evacParts slot law⟩) h
    ⟨State.slotLaw_iff.mp slot, (State.evacLaw_iff slot).mp law⟩
  exact (State.evacLaw_iff (State.slotLaw_iff.mpr parts.1)).mpr parts.2

/-- Settles O15: reset holds no entry, no charge, no movement and no evacuation, and every channel is OFF. -/
theorem theLawsHoldAtReset : Obligations.TheLawsHoldAtReset := by
  have slot : State.reset.SlotParts True := .of_reset State.reset_channel_off fun g => by
    simp [State.reset, Vector.get_eq_getElem, Group.reset]
  have law : State.reset.EvacParts True True := .of_reset rfl rfl
  refine ⟨State.tablesLaw_reset, rfl, by simp [State.folioLaw, State.reset], Journal.law_reset, AlarmList.law_reset, ?_, ?_,
    State.slotLaw_iff.mpr slot, (State.evacLaw_iff (State.slotLaw_iff.mpr slot)).mpr law, ?_⟩
  · exact ⟨Nat.zero_le _, Nat.zero_le _, Nat.zero_le _⟩
  · exact (State.standaloneLaw_iff State.tablesLaw_reset.1).mpr ⟨fun _ _ _ _ h => (by cases h), fun _ => State.noReferral_reset rfl⟩
  · exact State.engagementLaw_of_none (State.claimant_of_reset rfl rfl) (State.tablesLaw_iff.mp State.tablesLaw_reset).2.2.1
      fun i e h => by cases h

end Sys2Proof.Steps
end

section
/-! The requests that read (R20, R21, R25, R66, R85, R102, R109, R114, R130, R136, R149, R170, R181, R182, R192): what each block replies,
and the records that a read clears. -/

namespace Sys2Proof.Machine

variable {tag : Octet} {body : List Octet} {s u : State} {f : Frame} {r : Reply} {serve : Serve}

/-- A request at its turn, whose block reads the state in which its frame has arrived. -/
theorem next_request (turn : s.hasTurn f) (served : serve (s.arrive f) = (u, r)) :
    Host.Outcome.next (s.request f serve) = (.next (u.answered f r) : Out) := congrArg _ (State.request_turn_of turn served)

theorem framed_serves (ht : tag ≠ 0) {sizeOk : Bool} (hb : sizeOk = true) : framed tag sizeOk serve s = serve s :=
  framed_ok tag sizeOk serve s ht hb

@[simp] theorem readerOf_address (r : ReaderNo) : readerOf (r.val + 1) = some r := by
  simp [readerOf]

theorem readerOf_beyond {n : Nat} (h : n = 0 ∨ 48 < n) : readerOf n = none := by
  unfold readerOf
  split
  · rfl
  · exact indexOf_beyond (by omega)

theorem num_octet {n : Nat} (h : n < 256) : num (be 1 n) = n := num_be_of_lt 1 n (by simpa using h)

/-- A GET of a setup record that the body names. -/
theorem getRecord_named {α : Type} {octets : Setup → α → List Octet} {i : α} :
    getRecord (some i) octets s = (s, ok (octets s.setup i)) := rfl

theorem getRecord_unnamed {α : Type} {octets : Setup → α → List Octet} : getRecord none octets s = (s, refuse .range) := rfl

/-- What STATUS replies reads nothing of the host link. -/
theorem statusOctets_arrive (f : Frame) (s : State) : statusOctets (s.arrive f) = statusOctets s := by
  simp [statusOctets]

end Sys2Proof.Machine

namespace Sys2Proof.Reads
open Sys2Proof.Machine

/-- Settles O20: each request that reads passes the checks of its frame and replies from the state in which it has arrived. -/
theorem readsReplyAndChangeNothing : Obligations.ReadsReplyAndChangeNothing := by
  intro tag s ht
  have reader (n : Nat) (hn : n < 256) (f : Frame) : serveSetupReaderGet tag (be 1 n) (s.arrive f) =
      getRecord (readerOf n) Setup.readerOctets (s.arrive f) := by
    rw [serveSetupReaderGet, framed_serves ht (by simp), num_octet hn]
  have channel (n : Nat) (hn : n < 256) (f : Frame) : serveSetupChannelGet tag (be 1 n) (s.arrive f) =
      getRecord (indexOf 32 n) Setup.channelOctets (s.arrive f) := by
    rw [serveSetupChannelGet, framed_serves ht (by simp), num_octet hn]
  have lane (n : Nat) (hn : n < 256) (f : Frame) : serveSetupLaneGet tag (be 1 n) (s.arrive f) =
      getRecord (indexOf 4 n) Setup.laneOctets (s.arrive f) := by
    rw [serveSetupLaneGet, framed_serves ht (by simp), num_octet hn]
  have till (n : Nat) (hn : n < 256) (f : Frame) : serveSetupTillGet tag (be 1 n) (s.arrive f) =
      getRecord (indexOf 8 n) Setup.tillOctets (s.arrive f) := by
    rw [serveSetupTillGet, framed_serves ht (by simp), num_octet hn]
  refine ⟨fun turn => next_request turn ?tally, fun turn => next_request turn ?status, fun turn => next_request turn ?time,
    fun turn => next_request turn ?deadline, fun r turn => next_request turn ?readerGet, fun c turn => next_request turn ?channelGet,
    fun l turn => next_request turn ?laneGet, fun t turn => next_request turn ?tillGet, fun turn => next_request turn ?timing,
    fun turn => next_request turn ?policy, fun n hn => ⟨fun h turn => next_request turn ?noReader,
      fun h turn => next_request turn ?noChannel, fun h turn => next_request turn ?noLane, fun h turn => next_request turn ?noTill⟩⟩
  case tally =>
    rw [serveTallyGet, framed_serves ht (by simp)]
    simp [ok, Tally.octets, o1]
  case status =>
    rw [serveStatus, framed_serves ht (by simp), statusOctets_arrive]
    rfl
  case time =>
    rw [serveTimeGet, framed_serves ht (by simp), State.arrive_clock]
    rfl
  case deadline =>
    rw [serveDeadlineGet, framed_serves ht (by simp)]
    simp [ok, State.deadlineNotice, Notice.body, Deadline.octets, o1]
  case readerGet => rw [reader _ (by omega), readerOf_address, getRecord_named, State.arrive_setup]; rfl
  case channelGet => rw [channel _ (by omega), indexOf_val, getRecord_named, State.arrive_setup]; rfl
  case laneGet => rw [lane _ (by omega), indexOf_val, getRecord_named, State.arrive_setup]; rfl
  case tillGet => rw [till _ (by omega), indexOf_val, getRecord_named, State.arrive_setup]; rfl
  case timing => rw [serveSetupTimingGet, framed_serves ht (by simp), getRecord_named, State.arrive_setup]; rfl
  case policy => rw [serveSetupPolicyGet, framed_serves ht (by simp), getRecord_named, State.arrive_setup]; rfl
  case noReader => rw [reader n hn, readerOf_beyond h, getRecord_unnamed]; rfl
  case noChannel => rw [channel n hn, indexOf_beyond h, getRecord_unnamed]; rfl
  case noLane => rw [lane n hn, indexOf_beyond h, getRecord_unnamed]; rfl
  case noTill => rw [till n hn, indexOf_beyond h, getRecord_unnamed]; rfl

end Sys2Proof.Reads
end

section
/-! The GETs, the statuses and the walks that a body names or bounds (R21, R25, R66, R85, R102, R114, R130, R136, R170, R182). -/

namespace Sys2Proof.Machine

variable {tag : Octet} {s : State} {n m : Nat}

/-- The fields of a body of two octets. -/
theorem fields_octets (hn : n < 256) (hm : m < 256) : fields [1, 1] (be 1 n ++ be 1 m) = [n, m] := by
  rw [fields_be 1 n _ _ (by simpa using hn), ← List.append_nil (be 1 m), fields_be 1 m _ _ (by simpa using hm)]
  rfl

/-! ## Records named -/

theorem serveCardGet_valid {card : CardNo} (ht : tag ≠ 0) (hc : cardValid card = true) :
    serveCardGet tag (be 7 card.toNat) s =
      match lookup s.cards card with
      | some (i, e) => (s, ok (e.octets i))
      | none => (s, refuse .notFound) := framed_withCard_valid ht (by simp) (num_card_body card) hc

theorem serveFolioGet_slot {slot : Nat} (ht : tag ≠ 0) (hs : slot < 65536) :
    serveFolioGet tag (be 2 slot) s =
      if slot < 4096 then (s, ok (folioBlock slot (tget s.folios slot))) else (s, refuse .range) := by
  rw [serveFolioGet, framed_serves ht (by simp), num_be_of_lt 2 slot (by simpa using hs)] <;> rfl

theorem serveChannelStatus_octet (ht : tag ≠ 0) (hn : n < 256) :
    serveChannelStatus tag (be 1 n) s =
      match indexOf 32 n with
      | none => (s, refuse .range)
      | some c => (s, ok (channelStatusOctets c s)) := by
  rw [serveChannelStatus, framed_serves ht (by simp), num_octet hn] <;> rfl

theorem serveTillStatus_octet (ht : tag ≠ 0) (hn : n < 256) :
    serveTillStatus tag (be 1 n) s =
      match indexOf 8 n with
      | none => (s, refuse .range)
      | some t => (s, ok (pair (s.tillUsed t) ++ o1 (s.setup.tills.get t).cls.code ++ o1 (s.nthHolder (.counter t) 0) ++
          o1 (s.nthHolder (.counter t) 1) ++ (s.tills.get t).state.octets ++ lastOctets (s.tills.get t).last)) := by
  rw [serveTillStatus, framed_serves ht (by simp), num_octet hn] <;> rfl

theorem channelStatusOctets_arrive (c : Chan) (f : Frame) : channelStatusOctets c (s.arrive f) = channelStatusOctets c s := by
  simp [channelStatusOctets]

theorem pair_eq (b : Bool) : pair b = be 1 (if b then 0 else 1) := rfl

/-! ## Walks -/

theorem ble_eq_decide (a b : Nat) : Nat.ble a b = decide (a ≤ b) := by
  rw [Bool.eq_iff_iff, Nat.ble_eq, decide_eq_true_eq]

theorem serveAshoreList_body {cursor present category : Nat} (ht : tag ≠ 0) (h₁ : cursor < 65536) (h₂ : present < 256)
    (h₃ : category < 256) :
    serveAshoreList tag (be 2 cursor ++ be 1 present ++ be 1 category) s =
      match filterOf present category with
      | none => (s, refuse .range)
      | some filter =>
        if cursor < 8192 then
          (s, ok (o1 (ashoreWalk s.cards cursor filter).length ++
            (ashoreWalk s.cards cursor filter).flatMap (fun x => cardOctets x.2.card) ++
            be 2 (nextCursor (ashoreWalk s.cards cursor filter))))
        else (s, refuse .range) := by
  have read : fields [2, 1, 1] (be 2 cursor ++ be 1 present ++ be 1 category) = [cursor, present, category] := by
    rw [List.append_assoc, fields_be 2 _ _ _ (by simpa using h₁), fields_octets h₂ h₃]
  rw [serveAshoreList, framed_serves ht (by simp), read] <;> rfl

theorem filterOf_beyond {present category : Nat} (h : 2 ≤ present ∨ present = 1 ∧ 3 ≤ category) :
    filterOf present category = none := by
  rcases h with h | ⟨rfl, h⟩
  · obtain ⟨n, rfl⟩ := Nat.exists_eq_add_of_le' h
    rfl
  · obtain ⟨n, rfl⟩ := Nat.exists_eq_add_of_le' h
    rfl

theorem filterOf_named {present category : Nat} {filter : Option Category}
    (h : present = 0 ∧ filter = none ∨ present = 1 ∧ ∃ k, filter = some k ∧ k.code = category) :
    filterOf present category = some filter := by
  rcases h with ⟨rfl, rfl⟩ | ⟨rfl, k, rfl, rfl⟩
  · rfl
  · cases k <;> rfl

theorem serveJournalFetch_body {start count : Nat} (ht : tag ≠ 0) (h₁ : start < 2 ^ 32) (h₂ : count < 256) :
    serveJournalFetch tag (be 4 start ++ be 1 count) s =
      if 1 ≤ count ∧ count ≤ 8 then
        (s, ok (be 2 s.journal.depth ++ be 4 (s.journal.oldest.getD 0) ++ be 4 s.journal.next ++ flag s.journal.exhausted ++
          o1 (s.journal.fetch start count).length ++ (s.journal.fetch start count).flatMap JournalEntry.block))
      else (s, refuse .range) := by
  have read : fields [4, 1] (be 4 start ++ be 1 count) = [start, count] := by
    rw [fields_be 4 _ _ _ (by simpa using h₁), ← List.append_nil (be 1 count), fields_be 1 _ _ _ (by simpa using h₂)]
    rfl
  rw [serveJournalFetch, framed_serves ht (by simp), read]

theorem serveAlarmList_octet (ht : tag ≠ 0) (hn : n < 256) :
    serveAlarmList tag (be 1 n) s =
      if n ≤ 63 then
        (s, ok (o1 s.alarms.records.length ++ flag s.alarms.overflow ++ enableOctets s.setup ++
          o1 ((s.alarms.records.drop n).take 8).length ++ ((s.alarms.records.drop n).take 8).flatMap AlarmRecord.octets))
      else (s, refuse .range) := by
  rw [serveAlarmList, framed_serves ht (by simp), num_octet hn]

/-! ## Statuses that clear -/

theorem serveReaderStatus_octet (ht : tag ≠ 0) (hn : n < 256) :
    serveReaderStatus tag (be 1 n) s =
      match readerOf n with
      | none => (s, refuse .range)
      | some r => (s.setReader r Reader.read, ok (s.readers.get r).octets) := by
  rw [serveReaderStatus, framed_serves ht (by simp), num_octet hn] <;> rfl

theorem serveLaneStatus_octets (ht : tag ≠ 0) (hn : n < 256) (hm : m < 256) :
    serveLaneStatus tag (be 1 n ++ be 1 m) s =
      match indexOf 4 n, flagOf m with
      | some l, some cl => (if cl then s.onZone (·.setLane l Lane.clearCounts) else s, ok (laneStatusOctets l s))
      | _, _ => (s, refuse .range) := by
  rw [serveLaneStatus, framed_serves ht (by simp), fields_octets hn hm] <;> rfl

theorem flagOf_beyond (h : 2 ≤ n) : flagOf n = none := by
  obtain ⟨m, rfl⟩ := Nat.exists_eq_add_of_le' h
  rfl

@[simp] theorem flagOf_flag (b : Bool) : flagOf (if b then 1 else 0) = some b := by cases b <;> rfl

theorem laneStatusOctets_arrive (l : LaneNo) (f : Frame) : laneStatusOctets l (s.arrive f) = laneStatusOctets l s := by
  simp [laneStatusOctets, State.holderAddress, State.holders]

end Sys2Proof.Machine

namespace Sys2Proof.Reads
open Sys2Proof.Machine

/-- Settles O21: each request refuses what its body does not name, or returns the octets of the record. -/
theorem getsAndStatusesReturnTheRecordNamed : Obligations.GetsAndStatusesReturnTheRecordNamed := by
  refine ⟨fun tag s ht => ⟨fun card turn => ⟨fun hc => next_request turn ?cardRange, fun hc hl => next_request turn ?cardAbsent,
      fun i e hc hl => next_request turn ?cardFound⟩, fun slot hs turn => ⟨fun h => next_request turn ?slotRange,
      fun h hg => next_request turn ?folioEmpty, fun x h hg => next_request turn ?folioFound⟩⟩,
    fun tag s ht => ⟨fun c => ?channel, fun t => ?till, fun n hn h turn => next_request turn ?noChannel,
      fun n hn h turn => next_request turn ?noTill⟩⟩
  case cardRange => exact framed_withCard_invalid ht (by simp) (num_card_body card) hc
  case cardAbsent => simp [serveCardGet_valid ht hc, hl, refuse]
  case cardFound => simp [serveCardGet_valid ht hc, hl, ok]
  case slotRange => rw [serveFolioGet_slot ht hs, if_neg (Nat.not_lt.mpr h)]; rfl
  case folioEmpty => rw [serveFolioGet_slot ht hs, if_pos h, State.arrive_folios, hg]; rfl
  case folioFound => rw [serveFolioGet_slot ht hs, if_pos h, State.arrive_folios, hg]; rfl
  case channel =>
    intro f ch x turn
    refine next_request turn ?_
    rw [serveChannelStatus_octet ht (by omega), indexOf_val]
    simp only [channelStatusOctets_arrive]
    have door : pair (s.zone.doorOpen s.setup c) = be 1 (if x.mode = .level ∧ ch.contact = true then 0 else 1) := by
      simp [pair_eq, Zone.doorOpen, x, ch]
    have record : flag (!ch.record.kinds.isEmpty) = be 1 (if ch.record.kinds.isEmpty then 0 else 1) := by
      cases h : ch.record.kinds.isEmpty <;> rfl
    rw [channelStatusOctets, door, record]
    rfl
  case till =>
    intro f turn
    refine next_request turn ?_
    rw [serveTillStatus_octet ht (by omega), indexOf_val]
    simp only [State.tillUsed, State.nthHolder, State.holders, State.arrive_setup, State.arrive_tills, State.arrive_readers]
    rfl
  case noChannel => rw [serveChannelStatus_octet ht hn, indexOf_beyond h]; rfl
  case noTill => rw [serveTillStatus_octet ht hn, indexOf_beyond h]; rfl

/-- Settles O22: each walk refuses a place or a count out of range, or replies the records from its place on. -/
theorem walksReplyAndChangeNothing : Obligations.WalksReplyAndChangeNothing := by
  intro tag s ht
  refine ⟨fun cursor present category h₁ h₂ h₃ => ?ashore, fun start count h₁ h₂ h => ?fetchRange, fun position h hn => ?listRange,
    fun start count h₁ low high => ?fetch, fun position h => ?list⟩
  case ashore =>
    intro body f turn
    refine ⟨fun h => next_request turn ?_, fun filter hc h => next_request turn ?_⟩
    · rw [serveAshoreList_body ht h₁ h₂ h₃]
      rcases h with h | h
      · split
        · rfl
        · rw [if_neg (Nat.not_lt.mpr h)]; rfl
      · rw [filterOf_beyond h]; rfl
    · rw [serveAshoreList_body ht h₁ h₂ h₃, filterOf_named h]
      simp only [State.arrive_cards, if_pos hc, ble_eq_decide]
      rfl
  case fetchRange =>
    intro f turn
    refine next_request turn ?_
    rw [serveJournalFetch_body ht h₁ h₂, if_neg (by omega)]
    rfl
  case listRange =>
    intro f turn
    refine next_request turn ?_
    rw [serveAlarmList_octet ht hn, if_neg (by omega)]
    rfl
  case fetch =>
    intro body f es turn
    refine next_request turn ?_
    rw [serveJournalFetch_body ht h₁ (by omega), if_pos ⟨low, high⟩, State.arrive_journal]
    simp only [es, ble_eq_decide]
    rfl
  case list =>
    intro f rs turn
    refine next_request turn ?_
    rw [serveAlarmList_octet ht (by omega), if_pos h, State.arrive_alarms, State.arrive_setup]
    rfl

/-- Settles O23: each status replies the record as it stood and clears it after. -/
theorem statusReadsThatClearAfterReading : Obligations.StatusReadsThatClearAfterReading := by
  intro tag s ht
  refine ⟨fun r => ?reader, ?link, fun l clear => ?lane, fun n hn h => ?noReader, fun n v hn hv h => ?noLane⟩
  case reader =>
    intro f rd turn
    refine next_request turn ?_
    rw [serveReaderStatus_octet ht (by omega), readerOf_address]
    simp only [State.setReader, vmod, Reader.read, State.arrive_readers]
    rfl
  case link =>
    intro f k turn
    refine next_request turn ?_
    rw [serveLinkStatus, framed_serves ht (by simp)]
    rfl
  case lane =>
    intro f x cfg turn
    refine next_request turn ?_
    have hm : (if clear then 1 else 0) < 256 := by split <;> omega
    show serveLaneStatus tag (be 1 l.val ++ be 1 (if clear then 1 else 0)) _ = _
    rw [serveLaneStatus_octets ht (by omega) hm, indexOf_val, flagOf_flag]
    simp only [laneStatusOctets_arrive]
    cases clear with
    | false => rfl
    | true => simp only [if_true, State.onZone, Zone.setLane, vmod, Lane.clearCounts, State.arrive_zone]; rfl
  case noReader =>
    intro f turn
    refine next_request turn ?_
    rw [serveReaderStatus_octet ht hn, readerOf_beyond h]
    rfl
  case noLane =>
    intro f turn
    refine next_request turn ?_
    rw [serveLaneStatus_octets ht hn hv]
    rcases h with h | h
    · rw [indexOf_beyond h]; rfl
    · rw [flagOf_beyond h]; cases indexOf 4 n <;> rfl

end Sys2Proof.Reads
end

section
/-! The requests that write cards, folios, tills and the journal (R6 to R8, R11, R113, R114, R118, R120, R137 to R139): the outcome of
each block, case by case. -/

namespace Sys2Proof.Machine

variable {tag : Octet} {body : List Octet} {s : State} {n : Nat}

/-! ## CARD PUT (R6 to R8, R11) -/

theorem serveCardPut_range (ht : tag ≠ 0) (hb : body.length = 23 ∨ body.length = 26 ∨ body.length = 29 ∨ body.length = 32)
    (hp : cardPutOf body = none) : serveCardPut tag body s = (s.relockTest, ⟨.range, []⟩) := by
  rw [serveCardPut, framed_serves ht (by simpa [or_assoc] using hb)]
  simp only [zoned, hp]
  rfl

theorem serveCardPut_puts {p : CardPut} (ht : tag ≠ 0)
    (hb : body.length = 23 ∨ body.length = 26 ∨ body.length = 29 ∨ body.length = 32) (hp : cardPutOf body = some p)
    {u : State} {r : Reply} (put : s.putCard p = (u, r)) : serveCardPut tag body s = (u.relockTest, r) := by
  rw [serveCardPut, framed_serves ht (by simpa [or_assoc] using hb)]
  simp only [zoned, hp, put]

section
variable {p : CardPut}

theorem State.putCard_folioEmpty {slot : Nat} (names : p.entry.folio = some slot) (empty : tget s.folios slot = none) :
    s.putCard p = (s, ⟨.folioEmpty, []⟩) := by
  rw [State.putCard, if_pos (by simp [names, empty])]
  rfl

/-- The folio that the entry names is loaded. -/
theorem not_folioEmpty (loaded : ∀ slot, p.entry.folio = some slot → tget s.folios slot ≠ none) :
    ¬(p.entry.folio.any (fun slot => (tget s.folios slot).isNone)) = true := by
  cases h : p.entry.folio with
  | none => simp
  | some slot => simpa using loaded slot h

variable (loaded : ∀ slot, p.entry.folio = some slot → tget s.folios slot ≠ none)
include loaded

theorem State.putCard_new (absent : lookup s.cards p.card = none) : s.putCard p = s.insertCard p := by
  rw [State.putCard, if_neg (not_folioEmpty loaded), absent]

theorem State.putCard_full (absent : lookup s.cards p.card = none) (full : freeWay s.cards p.card = none)
    (stays : displacedWay s.cards p.card = none) : s.putCard p = (s, ⟨.tableFull, []⟩) := by
  rw [State.putCard_new loaded absent, State.insertCard, full, stays]
  rfl

theorem State.putCard_inserts {i : Nat} (absent : lookup s.cards p.card = none) (free : freeWay s.cards p.card = some i) :
    s.putCard p = (s.setEntry i (some ⟨p.card, .known p.entry⟩), ⟨.ok, be 2 i ++ be 1 0 ++ be 7 0⟩) := by
  rw [State.putCard_new loaded absent, State.insertCard, free]
  rfl

theorem State.putCard_displaces {i : Nat} {e : Entry} (absent : lookup s.cards p.card = none) (full : freeWay s.cards p.card = none)
    (displaced : displacedWay s.cards p.card = some i) (found : tget s.cards i = some e) :
    s.putCard p = (s.setEntry i (some ⟨p.card, .known p.entry⟩), ⟨.ok, be 2 i ++ be 1 0 ++ be 7 e.card.toNat⟩) := by
  rw [State.putCard_new loaded absent, State.insertCard, full, displaced]
  simp only [putReply, cardAt, found]
  rfl

theorem State.putCard_engaged {i : Nat} {d : CardNo} {k : Known} (found : lookup s.cards p.card = some (i, ⟨d, .known k⟩))
    (engaged : k.engaged ≠ none) : s.putCard p = (s, ⟨.busy, []⟩) := by
  rw [State.putCard, if_neg (not_folioEmpty loaded), found]
  exact if_pos (Option.isSome_iff_ne_none.mpr engaged)

theorem State.putCard_overwrites {i : Nat} {d : CardNo} {k : Known} (found : lookup s.cards p.card = some (i, ⟨d, .known k⟩))
    (free : k.engaged = none) :
    s.putCard p = (s.setEntry i (some ⟨p.card, .known (k.overwrite p.entry)⟩), ⟨.ok, be 2 i ++ be 1 1 ++ be 7 0⟩) := by
  rw [State.putCard, if_neg (not_folioEmpty loaded), found]
  exact if_neg (by simp [free])

theorem State.putCard_resolves {i : Nat} {d : CardNo} {h : Held} (found : lookup s.cards p.card = some (i, ⟨d, .pending h⟩)) :
    s.putCard p =
      ((s.setEntry i (some ⟨p.card, .known { p.entry with lastSeen := h.arrival }⟩)).decideKnown h.reader p.card h.arrival true
        { p.entry with lastSeen := h.arrival }, ⟨.ok, be 2 i ++ be 1 2 ++ be 7 0⟩) := by
  rw [State.putCard, if_neg (not_folioEmpty loaded), found]
  rfl

end

/-! ## FOLIO PUT and FOLIO DELETE (R113, R114) -/

theorem serveFolioPut_body {slot state allowance threshold mode given : Nat} (ht : tag ≠ 0) (h₁ : slot < 65536) (h₂ : state < 256)
    (h₃ : allowance < 2 ^ 32) (h₄ : threshold < 2 ^ 32) (h₅ : mode < 256) (h₆ : given < 2 ^ 32) :
    serveFolioPut tag (be 2 slot ++ be 1 state ++ be 4 allowance ++ be 4 threshold ++ be 1 mode ++ be 4 given) s =
      match folioStateOf state, flagOf mode with
      | some st, some keep =>
        let old := tget s.folios slot
        let spent := putSpent old keep given
        if slot < 4096 ∧ allowance ≤ 1000000 ∧ threshold ≤ 999999 ∧ spent ≤ allowance then
          let f : Folio := ⟨st, allowance, spent, threshold, old.elim 0 Folio.refs⟩
          ({ s with folios := tput slot f s.folios }, ok (folioBlock slot (some f) ++ pair old.isNone))
        else (s, refuse .range)
      | _, _ => (s, refuse .range) := by
  have read : fields [2, 1, 4, 4, 1, 4] (be 2 slot ++ be 1 state ++ be 4 allowance ++ be 4 threshold ++ be 1 mode ++ be 4 given) =
      [slot, state, allowance, threshold, mode, given] := by
    simp only [List.append_assoc]
    rw [fields_be 2 _ _ _ (by simpa using h₁), fields_be 1 _ _ _ (by simpa using h₂), fields_be 4 _ _ _ (by simpa using h₃),
      fields_be 4 _ _ _ (by simpa using h₄), fields_be 1 _ _ _ (by simpa using h₅), ← List.append_nil (be 4 given),
      fields_be 4 _ _ _ (by simpa using h₆)]
    rfl
  rw [serveFolioPut, framed_serves ht (by simp), read] <;> rfl

@[simp] theorem folioStateOf_code (st : FolioState) : folioStateOf st.code = some st := by cases st <;> rfl

theorem folioStateOf_beyond (h : n = 0 ∨ 4 ≤ n) : folioStateOf n = none := by
  rcases h with rfl | h
  · rfl
  · obtain ⟨m, rfl⟩ := Nat.exists_eq_add_of_le' h
    rfl

theorem serveFolioDelete_slot {slot : Nat} (ht : tag ≠ 0) (hs : slot < 65536) :
    serveFolioDelete tag (be 2 slot) s =
      if slot < 4096 then
        match tget s.folios slot with
        | none => (s, refuse .notFound)
        | some f => if 0 < f.refs then (s, refuse .inUse) else ({ s with folios := tdel slot s.folios }, ok [])
      else (s, refuse .range) := by
  rw [serveFolioDelete, framed_serves ht (by simp), num_be_of_lt 2 slot (by simpa using hs)] <;> rfl

/-! ## CHARGE OPEN and CHARGE CANCEL (R118, R120) -/

theorem serveChargeOpen_body {till amount ref : Nat} (ht : tag ≠ 0) (h₁ : till < 256) (h₂ : amount < 2 ^ 32) (h₃ : ref < 2 ^ 32) :
    serveChargeOpen tag (be 1 till ++ be 4 amount ++ be 4 ref) s =
      match indexOf 8 till with
      | none => (s, refuse .range)
      | some t =>
        if ¬(1 ≤ amount ∧ amount ≤ 999999) then (s, refuse .range)
        else if s.inMaintenance then (s, refuse .maintenance)
        else if s.evacuating then (s, refuse .suspended)
        else if !s.tillUsed t then (s, refuse .state)
        else if !(s.tills.get t).state.isIdle then (s, refuse .busy)
        else
          (s.setTill t (fun x => { x with
            state := .armed ⟨amount, BitVec.ofNat 32 ref, s.clock.time⟩ (s.setup.timing.armTime * 1000) }),
            ok (be 1 1 ++ timeOctets s.clock.time)) := by
  have read : fields [1, 4, 4] (be 1 till ++ be 4 amount ++ be 4 ref) = [till, amount, ref] := by
    rw [List.append_assoc, fields_be 1 _ _ _ (by simpa using h₁), fields_be 4 _ _ _ (by simpa using h₂),
      ← List.append_nil (be 4 ref), fields_be 4 _ _ _ (by simpa using h₃)]
    rfl
  rw [serveChargeOpen, framed_serves ht (by simp), read] <;> rfl

theorem State.evacuating_iff : s.evacuating = true ↔ s.evac.state = .evacuation := by simp [State.evacuating]

theorem TillState.isIdle_iff {st : TillState} : st.isIdle = true ↔ st = .idle := by cases st <;> simp [TillState.isIdle]

theorem serveChargeCancel_octet (ht : tag ≠ 0) (hn : n < 256) :
    serveChargeCancel tag (be 1 n) s =
      match indexOf 8 n with
      | none => (s, refuse .range)
      | some t =>
        if !s.tillUsed t || (s.tills.get t).state.isIdle then (s, refuse .state)
        else (s.dropCharge t .cancelled, ok (be 1 0)) := by
  rw [serveChargeCancel, framed_serves ht (by simp), num_octet hn] <;> rfl

theorem State.dropCharge_armed {t : TillNo} {c : Charge} {left : Nat} {o : ChargeOutcome}
    (h : (s.tills.get t).state = .armed c left) : s.dropCharge t o = s.endCharge t c o none none none := by
  rw [State.dropCharge, h]

theorem State.dropCharge_authorising {t : TillNo} {c : Charge} {p : Payer} {left : Nat} {o : ChargeOutcome}
    (h : (s.tills.get t).state = .authorising c p left) :
    s.dropCharge t o = s.endCharge t c o (some (p.card, p.reader)) (some p.slot) none := by
  rw [State.dropCharge, h]
  rfl

/-! ## JOURNAL RELEASE and CHARGE VOID (R137 to R139) -/

theorem blt_eq_decide (a b : Nat) : Nat.blt a b = decide (a < b) := ble_eq_decide (a + 1) b

theorem num_four (hn : n < 2 ^ 32) : num (be 4 n) = n := num_be_of_lt 4 n (by simpa using hn)

theorem serveJournalRelease_body (ht : tag ≠ 0) (hn : n < 2 ^ 32) :
    serveJournalRelease tag (be 4 n) s =
      if s.journal.next ≤ n ∧ s.journal.exhausted = false then (s, refuse .range)
      else
        ({ s with journal := s.journal.release n },
          ok (be 2 (s.journal.depth - (s.journal.release n).depth) ++ be 2 (s.journal.release n).depth ++
            be 4 ((s.journal.release n).oldest.getD 0))) := by
  rw [serveJournalRelease, framed_serves ht (by simp), num_four hn]

theorem serveChargeVoid_body (ht : tag ≠ 0) (hn : n < 2 ^ 32) :
    serveChargeVoid tag (be 4 n) s =
      match s.journal.entries.find? (fun e => e.seq = n) with
      | none => (s, refuse .notFound)
      | some e =>
        if e.voided then (s, refuse .state)
        else
          let head := be 4 n ++ o1 e.tier.code ++ be 2 e.slot ++ be 4 e.amount
          let s := { s with journal := s.journal.void n }
          match e.tier.drawsAllowance, tget s.folios e.slot with
          | true, some f =>
            let spent := f.spent - e.amount
            ({ s with folios := tput e.slot { f with spent := spent } s.folios }, ok (head ++ flag true ++ be 4 spent))
          | _, _ => (s, ok (head ++ flag false ++ be 4 0)) := by
  rw [serveChargeVoid, framed_serves ht (by simp), num_four hn] <;> rfl

end Sys2Proof.Machine

namespace Sys2Proof.Writes
open Sys2Proof.Machine

/-- Settles O25: each outcome of the checks of a CARD PUT, in their order, on the tables of the state in which its frame has arrived. -/
theorem cardPutWritesOneEntry : Obligations.CardPutWritesOneEntry := by
  intro tag body s ht hb f u turn
  have puts {p : CardPut} {v : State} {r : Reply} (hp : cardPutOf body = some p) (put : u.putCard p = (v, r)) :
      exec (.cardPut tag body) s = .next (v.relockTest.answered f r) := next_request turn (serveCardPut_puts ht hb hp put)
  rw [← s.arrive_cards f, ← s.arrive_folios f]
  refine ⟨fun hp => next_request turn (serveCardPut_range ht hb hp),
    fun p slot hp names empty => puts hp (State.putCard_folioEmpty names empty), fun p hp loaded =>
      ⟨fun absent full stays => puts hp (State.putCard_full loaded absent full stays),
      fun i absent free => puts hp (State.putCard_inserts loaded absent free),
      fun i e absent full displaced found => puts hp (State.putCard_displaces loaded absent full displaced found),
      fun i d k found engaged => puts hp (State.putCard_engaged loaded found engaged), fun i d k found free => ?_,
      fun i d h found => puts hp (State.putCard_resolves loaded found)⟩⟩
  refine (puts hp (State.putCard_overwrites loaded found free)).trans ?_
  have written : k.overwrite p.entry = { p.entry with
      holder := k.holder.overwrite p.entry.holder, engaged := none, lastSeen := k.lastSeen } := by rw [Known.overwrite, free]
  rw [written]
  cases k.holder <;> cases p.entry.holder <;> rfl

/-- Settles O27: each refusal in its order, and the one write of the slot. -/
theorem folioPutAndFolioDeleteWriteOneSlot : Obligations.FolioPutAndFolioDeleteWriteOneSlot := by
  intro tag slot s ht hs
  refine ⟨fun state allowance threshold mode given h₂ h₃ h₄ h₅ h₆ => ?beyond, fun st allowance threshold given keep h₃ h₄ h₆ => ?put,
    ?delete⟩
  case beyond =>
    intro f turn h
    refine next_request turn ?_
    rw [serveFolioPut_body ht hs h₂ h₃ h₄ h₅ h₆]
    rcases h with h | h | h
    · rw [folioStateOf_beyond (.inl h)]; rfl
    · rw [folioStateOf_beyond (.inr h)]; rfl
    · rw [flagOf_beyond h]
      cases folioStateOf state <;> rfl
  case put =>
    intro f old spent new turn
    have hm : (if keep then 1 else 0) < 256 := by split <;> omega
    have hst : st.code < 256 := by cases st <;> decide
    have served := serveFolioPut_body (s := s.arrive f) ht hs hst h₃ h₄ hm h₆
    simp only [folioStateOf_code, flagOf_flag, State.arrive_folios] at served
    refine ⟨fun h => next_request turn (served.trans (if_neg ?_)), fun h₁ h₂ h₃ h₄ =>
      next_request turn (served.trans (if_pos ⟨h₁, h₂, h₃, h₄⟩))⟩
    have hsp : spent = putSpent (tget s.folios slot) keep given := rfl
    rw [hsp] at h
    omega
  case delete =>
    intro f turn
    have served := serveFolioDelete_slot (s := s.arrive f) ht hs
    rw [State.arrive_folios] at served
    refine ⟨fun h => next_request turn (served.trans (if_neg (Nat.not_lt.mpr h))),
      fun h empty => next_request turn (served.trans ((if_pos h).trans ?_)),
      fun x h found refs => next_request turn (served.trans ((if_pos h).trans ?_)),
      fun x h found refs => next_request turn (served.trans ((if_pos h).trans ?_))⟩
    · rw [empty]; rfl
    · rw [found]; exact if_pos refs
    · rw [found]; exact if_neg (by simp [refs])

/-- Settles O28: each refusal in its order, and the till armed or its charge ended. -/
theorem chargeOpenAndChargeCancel : Obligations.ChargeOpenAndChargeCancel := by
  refine ⟨fun tag till amount ref s ht h₁ h₂ h₃ => ?open_, fun tag till s ht h₁ => ?cancel⟩
  case open_ =>
    intro f u turn
    have served := serveChargeOpen_body (s := u) ht h₁ h₂ h₃
    refine ⟨fun h => next_request turn (served.trans ?_), ?_⟩
    · rcases h with h | h
      · rw [indexOf_beyond h]; rfl
      · cases indexOf 8 till with
        | none => rfl
        | some t => exact if_pos (by omega)
    · rintro t rfl low high
      rw [indexOf_val] at served
      have same : u.mode = s.mode ∧ u.evac = s.evac ∧ u.tillUsed t = s.tillUsed t ∧ u.tills = s.tills ∧ u.clock = s.clock ∧
          u.setup = s.setup := by simp [u, State.tillUsed]
      obtain ⟨mode, evac, used, tills, clock, setup⟩ := same
      simp only [low, high, and_self, not_true, if_false, State.inMaintenance, State.evacuating, mode, evac, used, tills, clock,
        setup] at served
      refine ⟨fun hm => next_request turn (served.trans ?_), fun hm he => next_request turn (served.trans ?_),
        fun hm he hu => next_request turn (served.trans ?_), fun hm he hu hi => next_request turn (served.trans ?_),
        fun hm he hu hi => next_request turn (served.trans ?_)⟩
      · simp [hm, refuse]
      · simp [hm, he, refuse]
      · simp [hm, he, hu, refuse]
      · have busy : (s.tills.get t).state.isIdle = false := Bool.eq_false_iff.mpr (mt TillState.isIdle_iff.mp hi)
        simp [hm, he, hu, busy, refuse]
      · simp [hm, he, hu, hi, TillState.isIdle, ok, State.setTill, vmod, tills, timeOctets]
  case cancel =>
    intro f u turn
    have served := serveChargeCancel_octet (s := u) ht h₁
    refine ⟨fun h => next_request turn (served.trans (by rw [indexOf_beyond h]; rfl)), ?_⟩
    rintro t rfl
    rw [indexOf_val] at served
    have same : u.tillUsed t = s.tillUsed t ∧ u.tills = s.tills := by simp [u, State.tillUsed]
    obtain ⟨used, tills⟩ := same
    simp only [used, tills] at served
    refine ⟨fun h => next_request turn (served.trans (if_pos ?_)), fun c left hu ha => next_request turn (served.trans ?_),
      fun c p left hu ha => next_request turn (served.trans ?_)⟩
    · rcases h with h | h
      · simp [h]
      · simp [h, TillState.isIdle]
    · rw [if_neg (by simp [hu, ha, TillState.isIdle]), State.dropCharge_armed (by rw [tills]; exact ha)]
      rfl
    · rw [if_neg (by simp [hu, ha, TillState.isIdle]), State.dropCharge_authorising (by rw [tills]; exact ha)]
      rfl

/-- Settles O33: each refusal in its order, the entries left by a release, and the one entry that a void marks. -/
theorem journalReleaseAndChargeVoid : Obligations.JournalReleaseAndChargeVoid := by
  intro tag n s ht hn
  refine ⟨?release, ?void⟩
  case release =>
    intro f left turn
    have served := serveJournalRelease_body (s := s.arrive f) ht hn
    rw [State.arrive_journal] at served
    refine ⟨fun h he => next_request turn (served.trans (if_pos ⟨h, he⟩)), fun h => next_request turn (served.trans ?_)⟩
    have taken : ¬(s.journal.next ≤ n ∧ s.journal.exhausted = false) := by
      rcases h with h | h
      · omega
      · simp [h]
    have after : s.journal.release n = { s.journal with entries := left } := by
      simp only [Journal.release, left, blt_eq_decide]
    rw [if_neg taken, after]
    rfl
  case void =>
    intro f u turn
    have served := serveChargeVoid_body (s := s.arrive f) ht hn
    simp only [State.arrive_journal] at served
    refine ⟨fun h => next_request turn (served.trans ?_), fun e found => ⟨fun hv => next_request turn (served.trans ?_),
      fun x hv tier hx => next_request turn (served.trans ?_), fun hv h => next_request turn (served.trans ?_)⟩⟩
    · rw [List.find?_eq_none.mpr (by simpa using h)]; rfl
    · rw [found]; exact if_pos hv
    · have draws : e.tier.drawsAllowance = true := by rcases tier with h | h <;> rw [h] <;> rfl
      simp only [found, hv, draws, State.arrive_folios, hx]
      rfl
    · have stays : e.tier.drawsAllowance = false ∨ tget (s.arrive f).folios e.slot = none := by
        rcases h with h | h | h
        · exact .inl (by rw [h]; rfl)
        · exact .inl (by rw [h]; rfl)
        · exact .inr (by rw [State.arrive_folios]; exact h)
      rcases stays with h | h
      · simp only [found, hv, h]
        rfl
      · simp only [found, hv, h]
        cases e.tier.drawsAllowance <;> rfl

end Sys2Proof.Writes
end

section
/-! Charges at a till (R115, R121 to R126, R133, R134, R140): the card taken, the end of a charge, and an approval. -/

namespace Sys2Proof.Machine

variable {s : State} {t : TillNo} {c : Charge} {card : CardNo} {r : ReaderNo} {k : Known} {arrival : ShipTime}

/-! ## A change of a known entry -/

/-- A change of an entry that keeps its folio keeps the folio table. -/
theorem State.changeKnown_folios {f : Known → Known} (folio : ∀ k, (f k).folio = k.folio) :
    (s.changeKnown card f).folios = s.folios := by
  unfold State.changeKnown
  split
  · next i d k found => simp [State.setEntry, tget_of_lookup found, folio]
  · rfl

theorem State.disengage_folios (e : Engagement) : (s.disengage card e).folios = s.folios :=
  State.changeKnown_folios fun k => by split <;> rfl

@[simp] theorem State.changeKnown_clock (f : Known → Known) : (s.changeKnown card f).clock = s.clock := by
  obtain ⟨_, _, _, h, -⟩ := State.changeKnown_frame card f s
  rw [h]

@[simp] theorem State.changeKnown_readers (f : Known → Known) : (s.changeKnown card f).readers = s.readers := by
  obtain ⟨_, _, _, h, -⟩ := State.changeKnown_frame card f s
  rw [h]

/-- The known entry of a card is found again after its change. -/
theorem State.known_changeKnown_self {f : Known → Known} (known : s.known card = some k) :
    (s.changeKnown card f).known card = some (f k) := by
  unfold State.known at known
  split at known
  · next i d k' found =>
    obtain rfl := Option.some.inj known
    rw [State.changeKnown, found]
    exact State.known_of_lookup (lookup_tput found rfl)
  · cases known

/-! ## The end of a charge (R124) -/

theorem State.endCharge_noCard (o : ChargeOutcome) (slot : Option Nat) (ap : Option Approval) :
    s.endCharge t c o none slot ap =
      { s with
        tills := vset s.tills t { s.tills.get t with state := .idle, last := some ⟨o, none, c.ref, ap⟩ }
        link := s.link.notify (.chargeResult t o none slot c.amount c.ref ap (!s.clock.valid)) } := rfl

theorem ChargeOutcome.pattern_eq (o : ChargeOutcome) : o.pattern = if o = .approved then .green else .red := by cases o <;> rfl

/-- What closing a decision with an indication leaves of a reader. -/
theorem Reader.indicate_closeDecision (p : Pattern) (window : Nat) (rd : Reader) :
    (rd.indicate p).closeDecision window card =
      { rd with
        slot := if rd.enrol = .active then some p else rd.slot
        marker := none
        memory := if window = 0 then none else some ⟨card, window * 1000⟩ } := by
  unfold Reader.indicate Reader.closeDecision
  split <;> rfl

theorem State.endCharge_card (o : ChargeOutcome) (slot : Option Nat) (ap : Option Approval) :
    s.endCharge t c o (some (card, r)) slot ap =
      { s.disengage card (.charge t) with
        tills := vset s.tills t { s.tills.get t with state := .idle, last := some ⟨o, some card, c.ref, ap⟩ }
        link := s.link.notify (.chargeResult t o (some card) slot c.amount c.ref ap (!s.clock.valid))
        readers := vset s.readers r
          { s.readers.get r with
            slot := if (s.readers.get r).enrol = .active then some (if o = .approved then .green else .red) else (s.readers.get r).slot
            marker := none
            memory := if s.setup.timing.repeatWindow = 0 then none else some ⟨card, s.setup.timing.repeatWindow * 1000⟩ } } := by
  obtain ⟨_, _, _, changed, commutes⟩ := s.changeKnown_frame card
    (fun k => if k.engaged = some (.charge t) then { k with engaged := none } else k)
  have ended (g : Till → Till) := commutes (s.setTill t g) rfl rfl rfl
  simp only [State.endCharge, Option.map_some, State.disengage, ended, changed]
  simp only [State.closeDecision, State.setReader, State.setTill, State.notify, vmod, Reader.indicate_closeDecision,
    ChargeOutcome.pattern_eq]

/-- The engagement is one field of the card's entry (R15). -/
theorem State.disengage_engaged {i : Nat} {d : CardNo} (found : lookup s.cards card = some (i, ⟨d, .known k⟩)) {e : Engagement}
    (engaged : k.engaged = some e) :
    s.disengage card e = { s with cards := tput i ⟨card, .known { k with engaged := none }⟩ s.cards } := by
  rw [State.disengage, State.changeKnown, found]
  simp [engaged, State.setEntry_some_of_known (k' := { k with engaged := none }) found rfl rfl]

/-- A record written again as it stands changes nothing of a canonical table. -/
theorem tput_same {α : Type} {l : List (Nat × α)} (rising : Rising l) {i : Nat} {x : α} (h : tget l i = some x) : tput i x l = l := by
  induction l with
  | nil => cases h
  | cons y l ih =>
    obtain ⟨first, rest⟩ := List.pairwise_cons.mp rising
    rw [tget_cons] at h
    unfold tput
    by_cases hy : y.1 = i
    · rw [if_pos hy, Option.some.injEq] at h
      rw [if_pos hy, ← hy, ← h]
    · rw [if_neg hy] at h
      have lt : y.1 < i := first _ (mem_of_tget h)
      rw [if_neg hy, if_neg (by omega), ih rest h]

/-- A card that is not engaged so has nothing to clear. -/
theorem State.disengage_other {e : Engagement} (tables : s.tablesLaw)
    (other : ∀ k, s.known card = some k → k.engaged ≠ some e) : s.disengage card e = s := by
  unfold State.disengage State.changeKnown
  split
  · next i d k found =>
    obtain rfl : d = card := card_of_lookup found
    have clear := other k (State.known_of_lookup found)
    simp [clear, State.setEntry, tget_of_lookup found, twrite, tput_same tables.1 (tget_of_lookup found)]
  · rfl

/-! ## The card taken (R121, R122, R125) -/

/-- The card's status and its folio's state let it pay, as far as they are known (R121). -/
theorem State.paying_iff : (k.status ≠ .active ∨ (k.folio.elim true s.folioOpen) = false) ↔
    ¬(k.status = .active ∧ ∀ slot, k.folio = some slot → ∃ x, tget s.folios slot = some x ∧ x.state = .open) := by
  have open_ : (k.folio.elim true s.folioOpen) = true ↔ ∀ slot, k.folio = some slot → ∃ x, tget s.folios slot = some x ∧ x.state = .open := by
    cases k.folio with
    | none => simp
    | some slot => cases h : tget s.folios slot <;> simp [State.folioOpen, h]
  rw [← open_, not_and_or, Bool.not_eq_true]

theorem State.presenceOk_iff : s.presenceOk k = true ↔ s.setup.policy.presence = false ∨ k.presence = .aboard := by
  simp [State.presenceOk]

theorem State.recheck_iff {p : Payer} : s.recheck p = true ↔
    ∃ k, s.known p.card = some k ∧ k.status = .active ∧ (∃ x, tget s.folios p.slot = some x ∧ x.state = .open) ∧
      (s.setup.policy.presence = false ∨ k.presence = .aboard) := by
  unfold State.recheck
  cases hk : s.known p.card with
  | none => simp
  | some k => cases hf : tget s.folios p.slot <;> simp [State.folioOpen, hf, State.presenceOk, and_assoc]

/-- The referral of a charge to the host (R125). -/
theorem State.refer_eq (slot threshold : Nat) :
    s.refer t c card r arrival slot threshold =
      { s.changeKnown card (fun k => { k with engaged := some (.charge t) }) with
        tills := vset s.tills t { s.tills.get t with
          state := .authorising c ⟨card, r, slot, threshold⟩ (s.setup.timing.answerTime * 1000) }
        link := s.link.notify (.authQuery t card slot c.amount c.ref)
        readers := vset s.readers r
          { s.readers.get r with
            slot := if (s.readers.get r).enrol = .active then some .amber else (s.readers.get r).slot
            marker := some ⟨card, arrival, .awaitingCharge⟩ } } := by
  have shown : ∀ rd : Reader, ({ rd.indicate .amber with marker := some ⟨card, arrival, .awaitingCharge⟩ } : Reader) =
      { rd with slot := if rd.enrol = .active then some .amber else rd.slot, marker := some ⟨card, arrival, .awaitingCharge⟩ } := by
    intro rd
    unfold Reader.indicate
    split <;> rfl
  obtain ⟨_, _, _, changed, commutes⟩ := s.changeKnown_frame card (fun k => { k with engaged := some (.charge t) })
  have engaged (g : Till → Till) := commutes (s.setTill t g) rfl rfl rfl
  simp only [State.refer, engaged, changed]
  simp only [State.waitDecision, State.setReader, State.setTill, State.notify, vmod, shown]

/-! ## An approval (R123, R134, R140) -/

/-- The journal entry of an approval (R123). -/
def State.approvalEntry (t : TillNo) (c : Charge) (card : CardNo) (slot : Nat) (tier : Tier) (s : State) : JournalEntry :=
  ⟨s.journal.next, s.clock.time, !s.clock.valid, slot, card, t, c.amount, tier, c.ref, false⟩

/-- The state after an approved charge has ended, before its JOURNAL notice. -/
def State.approved (t : TillNo) (c : Charge) (card : CardNo) (r : ReaderNo) (slot : Nat) (tier : Tier) (s : State) : State :=
  ({ s with journal := s.journal.write (s.approvalEntry t c card slot tier) }.chargeFolio tier slot c.amount).endCharge t c .approved (some (card, r)) (some slot) (some ⟨s.journal.next, tier⟩)

/-- An approval with room: the JOURNAL notice follows at the high water (R140). -/
theorem State.approve_room {slot : Nat} {tier : Tier} (room : s.journal.full = false) :
    s.approve t c card r slot tier =
      if (s.approved t c card r slot tier).journal.depth = (s.approved t c card r slot tier).setup.timing.highWater then
        (s.approved t c card r slot tier).notify (s.approved t c card r slot tier).journalNotice
      else s.approved t c card r slot tier := by
  rw [State.approve, if_neg (by simp [room])]
  rfl

theorem Journal.write_entries (e : JournalEntry) (j : Journal) : (j.write e).entries = j.entries ++ [e] := by
  unfold Journal.write
  split <;> rfl

theorem Journal.write_next (e : JournalEntry) (j : Journal) (h : j.next < 4294967295) :
    (j.write e).next = j.next + 1 ∧ (j.write e).exhausted = j.exhausted := by
  unfold Journal.write
  rw [if_neg (by simp only [Config.lastSequence]; omega)]
  exact ⟨rfl, rfl⟩

theorem Journal.write_last (e : JournalEntry) (j : Journal) (h : j.next = 4294967295) :
    (j.write e).next = 4294967295 ∧ (j.write e).exhausted = true := by
  unfold Journal.write
  rw [if_pos (by simp only [Config.lastSequence]; omega)]
  exact ⟨h, rfl⟩

theorem State.chargeFolio_frame (tier : Tier) (slot amount : Nat) : ∃ fs, s.chargeFolio tier slot amount = { s with folios := fs } ∧
    (tier = .localTier ∨ tier = .referred → fs = s.folios) ∧
    ∀ x, tier = .offline ∨ tier = .standIn → tget s.folios slot = some x →
      tget fs slot = some { x with spent := x.spent + amount } := by
  cases tier with
  | localTier => exact ⟨_, rfl, fun _ => rfl, by simp⟩
  | referred => exact ⟨_, rfl, fun _ => rfl, by simp⟩
  | offline => exact ⟨_, rfl, by simp, fun x _ h => by simp [h]⟩
  | standIn => exact ⟨_, rfl, by simp, fun x _ h => by simp [h]⟩

/-- What an approval with room writes (R115, R123, R133, R140). -/
theorem State.approve_room_fields {slot : Nat} {tier : Tier} (room : s.journal.full = false) :
    let a := s.approve t c card r slot tier
    let depth := s.journal.entries.length + 1
    let high := s.setup.timing.highWater
    let oldest := (s.journal.entries.head?.map JournalEntry.seq).getD s.journal.next
    let told := s.link.notify (.chargeResult t .approved (some card) (some slot) c.amount c.ref (some ⟨s.journal.next, tier⟩)
      (!s.clock.valid))
    a.journal.entries = s.journal.entries ++
        [⟨s.journal.next, s.clock.time, !s.clock.valid, slot, card, t, c.amount, tier, c.ref, false⟩] ∧
      ((s.journal.next < 4294967295 → a.journal.next = s.journal.next + 1 ∧ a.journal.exhausted = s.journal.exhausted) ∧
        (s.journal.next = 4294967295 → a.journal.next = 4294967295 ∧ a.journal.exhausted = true)) ∧
      (a.tills.get t).last = some ⟨.approved, some card, c.ref, some ⟨s.journal.next, tier⟩⟩ ∧
      (a.tills.get t).state = .idle ∧
      (tier = .localTier ∨ tier = .referred → a.folios = s.folios) ∧
      (∀ x, tier = .offline ∨ tier = .standIn → tget s.folios slot = some x →
        tget a.folios slot = some { x with spent := x.spent + c.amount }) ∧
      (depth = high → a.link = told.notify (.journal depth high (some oldest) a.journal.next a.journal.exhausted)) ∧
      (depth ≠ high → a.link = told) := by
  intro a depth high oldest told
  obtain ⟨fs, charged, stays, draws⟩ := State.chargeFolio_frame (s :=
    { s with journal := s.journal.write (s.approvalEntry t c card slot tier) }) tier slot c.amount
  have ended := State.endCharge_card (s := { s with
    journal := s.journal.write (s.approvalEntry t c card slot tier)
    folios := fs }) (t := t) (c := c) (card := card) (r := r) .approved (some slot) (some ⟨s.journal.next, tier⟩)
  have journal : (s.approved t c card r slot tier).journal =
      s.journal.write (s.approvalEntry t c card slot tier) := by
    rw [State.approved, charged, ended]
    exact State.changeKnown_journal ..
  have folios : (s.approved t c card r slot tier).folios = fs := by
    rw [State.approved, charged, ended]
    exact State.disengage_folios _
  have tills : (s.approved t c card r slot tier).tills.get t =
      { s.tills.get t with state := .idle, last := some ⟨.approved, some card, c.ref, some ⟨s.journal.next, tier⟩⟩ } := by
    rw [State.approved, charged, ended]
    exact vget_vset_self ..
  have link : (s.approved t c card r slot tier).link = told := by rw [State.approved, charged, ended]
  have setup : (s.approved t c card r slot tier).setup = s.setup := by
    rw [State.approved, charged, ended]
    exact State.changeKnown_setup ..
  have depth_eq : (s.approved t c card r slot tier).journal.depth = depth := by
    rw [journal, Journal.depth, Journal.write_entries, List.length_append]
    rfl
  have oldest_eq : (s.approved t c card r slot tier).journal.oldest = some oldest := by
    rw [journal, Journal.oldest, Journal.write_entries]
    cases h : s.journal.entries <;> simp [oldest, h, State.approvalEntry]
  have same : a.journal = (s.approved t c card r slot tier).journal ∧ a.tills = (s.approved t c card r slot tier).tills ∧
      a.folios = (s.approved t c card r slot tier).folios := by
    simp only [a, State.approve_room room]
    split <;> exact ⟨rfl, rfl, rfl⟩
  obtain ⟨aJournal, aTills, aFolios⟩ := same
  have aLink : a.link = if depth = high then told.notify (.journal depth high (some oldest) a.journal.next a.journal.exhausted)
      else told := by
    simp only [aJournal]
    simp only [a, State.approve_room room, setup, depth_eq]
    split
    · rw [State.notify, link, State.journalNotice, depth_eq, oldest_eq, setup]
    · exact link
  refine ⟨?_, ⟨fun h => ?_, fun h => ?_⟩, ?_, ?_, fun h => ?_, fun x h hx => ?_, fun h => ?_, fun h => ?_⟩
  · rw [aJournal, journal, Journal.write_entries]; rfl
  · rw [aJournal, journal]; exact Journal.write_next _ _ h
  · rw [aJournal, journal]; exact Journal.write_last _ _ h
  · rw [aTills, tills]
  · rw [aTills, tills]
  · rw [aFolios, folios]; exact stays h
  · rw [aFolios, folios]; exact draws x h hx
  · rw [aLink, if_pos h]
  · rw [aLink, if_neg h]

end Sys2Proof.Machine

namespace Sys2Proof.Charges
open Sys2Proof.Machine

/-- Settles O29: the card checks in their order, then the tier, whose referral engages the card and shows its reader WAIT. -/
theorem takingACard : Obligations.TakingACard := by
  intro t c card r arrival k s
  refine ⟨fun left queried role armed verdict => ?decided, ?checks, fun p => State.recheck_iff⟩
  case decided =>
    simp only [State.decideKnown, State.conclude, role, verdict, State.chargeTaken, armed]
  case checks =>
    intro paying charged ofAge here taken ends
    have taken_eq : taken = s.takeCard t c card r arrival k := rfl
    have pays : ¬(k.status ≠ .active ∨ (k.folio.elim true s.folioOpen) = false) ↔ paying := by
      rw [State.paying_iff, not_not]
    have folio : ¬(k.folio.isNone ∨ k.mayCharge = false) ↔ charged := by
      simp [charged, not_or, Option.isNone_iff_eq_none]
    have age : ¬((s.setup.tills.get t).cls = .alcohol ∧ k.adult = false) ↔ ofAge := by
      simp only [ofAge, not_and_or, Bool.not_eq_false]
      cases (s.setup.tills.get t).cls <;> simp
    have presence : ¬s.presenceOk k = false ↔ here := by rw [Bool.not_eq_false]; exact State.presenceOk_iff
    simp only [taken_eq, State.takeCard, State.cardCheck]
    refine ⟨fun h => ?_, fun h₁ h₂ => ?_, fun h₁ h₂ h₃ => ?_, fun h₁ h₂ h₃ h₄ => ?_, fun slot x h₁ h₂ h₃ h₄ hs hx => ?_⟩
    · rw [if_pos (not_not.mp (mt pays.mp h))]
    · rw [if_neg (pays.mpr h₁), if_pos (not_not.mp (mt folio.mp h₂))]
    · rw [if_neg (pays.mpr h₁), if_neg (folio.mpr h₂), if_pos (not_not.mp (mt age.mp h₃))]
    · rw [if_neg (pays.mpr h₁), if_neg (folio.mpr h₂), if_neg (age.mpr h₃), if_pos (not_not.mp (mt presence.mp h₄))]
    · rw [if_neg (pays.mpr h₁), if_neg (folio.mpr h₂), if_neg (age.mpr h₃), if_neg (presence.mpr h₄)]
      simp only [hs, hx, Option.bind_some, Option.map_some, State.tier]
      refine ⟨fun ha => ⟨fun h => ?_, fun h => ?_⟩, fun left ha => ⟨fun h => ?_, fun h => ⟨fun k' hk' => ?_, ?_⟩⟩⟩
      · rw [ha]; exact if_pos h
      · rw [ha]
        exact (if_neg (Nat.not_le.mpr h)).trans (by simp only [ends, hs])
      · rw [ha]; exact if_pos h
      · exact State.known_changeKnown_self hk'
      · rw [ha]
        exact (if_neg (Nat.not_le.mpr h)).trans (State.refer_eq slot x.threshold)

/-- Settles O30. -/
theorem theEndOfACharge : Obligations.TheEndOfACharge := by
  intro t c o card r slot ap s
  exact ⟨State.endCharge_noCard o slot ap, State.endCharge_card o slot ap, fun i d k found engaged => State.disengage_engaged found engaged,
    fun tables other => State.disengage_other tables other⟩

/-- Settles O32: an approval with room writes the journal, charges the folio and ends the charge, and without room it ends the charge
alone. -/
theorem anApprovalWritesOneJournalEntry : Obligations.AnApprovalWritesOneJournalEntry := by
  intro t c card r slot tier s a
  refine ⟨fun depth exhausted => ?room, fun full => ?full⟩
  case full =>
    have eq : a = s.endCharge t c .declinedJournalFull (some (card, r)) (some slot) none :=
      State.approve_full ((Journal.full_iff _).mpr full)
    rw [eq, State.endCharge_card]
    exact ⟨State.changeKnown_journal .., State.disengage_folios _, by simp only [vget_vset_self], by simp only [vget_vset_self], rfl⟩
  case room =>
    have room : s.journal.full = false := Bool.eq_false_iff.mpr (mt (Journal.full_iff _).mp (by simp [exhausted, depth]))
    obtain ⟨entries, ⟨next, last⟩, ended, idle, folios, charged, link⟩ := State.approve_room_fields (t := t) (c := c) (card := card) (r := r)
      (slot := slot) (tier := tier) room
    refine ⟨entries, fun h => ?_, last, ended, idle, folios, charged, link⟩
    rw [← exhausted]
    exact next h

end Sys2Proof.Charges
end

section
/-! The requests on the authority, the clock and the deadline (R107, R109, R143, R145, R148). -/

namespace Sys2Proof.Machine

variable {tag : Octet} {s : State} {n m l : Nat}

theorem serveLeaseGrant_body (ht : tag ≠ 0) (hn : n < 65536) :
    serveLeaseGrant tag (be 2 n) s =
      if 5 ≤ n ∧ n ≤ 300 then ({ s with authority := .online (n * 1000) }, ⟨.ok, be 1 0 ++ be 4 (n * 1000)⟩)
      else (s, ⟨.range, []⟩) := by
  rw [serveLeaseGrant, framed_serves ht (by simp), num_be_of_lt 2 n (by simpa using hn)]
  rfl

theorem serveTimeSet_body (ht : tag ≠ 0) (hn : n < 2 ^ 32) :
    serveTimeSet tag (be 4 n) s =
      ({ s with clock := { s.clock with time := BitVec.ofNat 32 n, valid := true, secondMs := 0 } },
        ⟨.ok, be 4 s.clock.time.toNat ++ be 1 (if s.clock.valid then 1 else 0) ++ be 4 n⟩) := by
  rw [serveTimeSet, framed_serves ht (by simp), num_four hn]
  simp only [ok, timeOctets, flag, flagCode, BitVec.toNat_ofNat, Nat.mod_eq_of_lt hn]

theorem serveDeadlineSet_body (ht : tag ≠ 0) (hm : m < 65536) (hl : l < 256) :
    serveDeadlineSet tag (be 2 m ++ be 1 l) s =
      if 1 ≤ m ∧ m ≤ 1440 ∧ l ≤ 120 ∧ l < m then ({ s with deadline := .running m l }, ⟨.ok, be 1 1 ++ be 2 m ++ be 1 l⟩)
      else (s, ⟨.range, []⟩) := by
  have read : fields [2, 1] (be 2 m ++ be 1 l) = [m, l] := by
    rw [fields_be 2 _ _ _ (by simpa using hm), ← List.append_nil (be 1 l), fields_be 1 _ _ _ (by simpa using hl)]
    rfl
  rw [serveDeadlineSet, framed_serves ht (by simp), read]
  rfl

theorem serveLeaseEnd_standalone (ht : tag ≠ 0) (h : s.authority = .standalone) :
    serveLeaseEnd tag [] s = (s, ⟨.ok, be 1 1 ++ be 1 0 ++ be 1 0⟩) := by
  rw [serveLeaseEnd, framed_serves ht (by simp), h]
  rfl

theorem serveLeaseEnd_online {left : Nat} (ht : tag ≠ 0) (h : s.authority = .online left) :
    serveLeaseEnd tag [] s = ({ s with authority := .standalone }.resolveWaits,
      ⟨.ok, be 1 0 ++ be 1 (pendingByReader s.cards).length ++ be 1 s.authorisingTills.length⟩) := by
  rw [serveLeaseEnd, framed_serves ht (by simp), h]
  rfl

end Sys2Proof.Machine

namespace Sys2Proof.Writes
open Sys2Proof.Machine

/-- Settles O34: each request refuses a length or a time out of range, or sets its record. -/
theorem leaseTimeAndDeadlineRequests : Obligations.LeaseTimeAndDeadlineRequests := by
  refine ⟨fun tag n s ht => ⟨fun hn => ?grant, ?leaseEnd, fun hn => ?time⟩, fun tag m l s ht hm hl => ⟨?deadline, ?clear⟩⟩
  case grant =>
    intro f turn
    exact ⟨fun h => next_request turn ((serveLeaseGrant_body ht hn).trans (if_neg (by omega))),
      fun low high => next_request turn ((serveLeaseGrant_body ht hn).trans (if_pos ⟨low, high⟩))⟩
  case leaseEnd =>
    intro f turn
    refine ⟨fun h => next_request turn (serveLeaseEnd_standalone ht (by simp [h])), fun left h => ?_⟩
    have served := serveLeaseEnd_online (s := s.arrive f) ht (left := left) (by simp [h])
    have queries : pendingByReader (s.arrive f).cards = pendingByReader s.cards := by rw [State.arrive_cards]
    have tills : (s.arrive f).authorisingTills = s.authorisingTills := by
      rw [State.authorisingTills, State.arrive_tills, State.authorisingTills]
    rw [queries, tills] at served
    exact next_request turn served
  case time =>
    intro f turn
    have served := serveTimeSet_body (s := s.arrive f) ht hn
    rw [State.arrive_clock] at served
    exact next_request turn served
  case deadline =>
    intro f turn
    exact ⟨fun h => next_request turn ((serveDeadlineSet_body ht hm hl).trans (if_neg (by omega))),
      fun h₁ h₂ h₃ h₄ => next_request turn ((serveDeadlineSet_body ht hm hl).trans (if_pos ⟨h₁, h₂, h₃, h₄⟩))⟩
  case clear =>
    intro f turn
    exact next_request turn (framed_serves ht (by simp))

end Sys2Proof.Writes
end

section
/-! What the part does of itself on an empty queue: the choice, and a millisecond (log entries 1 and 2). -/

namespace Sys2Proof.Machine

variable {s : State}

theorem State.choose_empty (h : s.choices = []) : s.choose = none := by rw [State.choose, h]; rfl

/-- With something to take, the part takes one of it. -/
theorem State.choose_spec (h : s.choices ≠ []) : ∃ i ∈ s.choices, s.choose = some i := by
  have pos : 0 < s.choices.length := List.length_pos_of_ne_nil h
  have lt : Config.pick s.free % s.choices.length < s.choices.length := Nat.mod_lt _ pos
  exact ⟨_, List.getElem_mem lt, List.getElem?_eq_getElem lt⟩

theorem step_empty (h : s.pending = []) : step s = idle s := by rw [step, h]

/-- The fields of the state after a millisecond. -/
theorem State.tick_eq (s : State) :
    s.tick = { s with
      pins := s.samples.headD s.pins
      samples := s.samples.tail
      phase := s.phase.sample (s.samples.headD s.pins).lineLow
      evac := s.evac.sample (s.samples.headD s.pins).lineLow
      zone := s.zone.tick s.setup (s.samples.headD s.pins)
      tills := allTills.foldl (fun v t => vmod v t Till.tick) s.tills
      readers := allReaders.foldl (fun v r => vmod v r Reader.tick) s.readers
      cards := s.cards.map (fun x => (x.1, x.2.tick))
      authority := s.authority.tick
      clock := { s.clock with secondMs := s.clock.secondMs + 1, minuteMs := s.clock.minuteMs + 1 }
      bus := { s.bus with exchange := s.bus.exchange.map (fun x => { x with left := x.left - 1 }) }
      link := s.link.tick (s.samples.headD s.pins).hostReady
      save := s.save.map (fun v => { v with left := v.left - 1 }) } := by
  rw [State.tick, State.sample_eq]

theorem State.tick_zone (s : State) : s.tick.zone = s.zone.tick s.setup (s.samples.headD s.pins) := by rw [State.tick_eq]

theorem State.tick_till (s : State) (i : TillNo) : s.tick.tills.get i = (s.tills.get i).tick := by
  have tills : s.tick.tills = allTills.foldl (fun v t => vmod v t Till.tick) s.tills := by rw [State.tick_eq]
  rw [tills]
  exact vget_foldl_vmod (fun _ => Till.tick) i s.tills

theorem State.tick_reader (s : State) (r : ReaderNo) : s.tick.readers.get r = (s.readers.get r).tick := by
  have readers : s.tick.readers = allReaders.foldl (fun v r => vmod v r Reader.tick) s.readers := by rw [State.tick_eq]
  rw [readers]
  exact vget_foldl_vmod (fun _ => Reader.tick) r s.readers

/-- A debounce of a channel that is not OFF, in the terms of what it compares. -/
theorem debounce_of_iff {time : Nat} {q : Option Nat} {b : Bool} {p : Prop} [Decidable p] (h : b = true ↔ p) :
    debounce time b q = if p then some (match q with
      | none => time
      | some n => n - 1) else none := by
  unfold debounce
  simp only [h]
  cases q <;> rfl

theorem OcQual.sample_eq (masked asserted : Bool) (q : OcQual) :
    q.sample masked asserted = (match q.mode with
      | .debounce => if asserted = true ∧ masked = false then { q with left := q.left - 1, qualified := decide (q.left ≤ 1) }
        else { q with left := q.time, qualified := false }
      | .blanking => { q with left := q.left - 1, qualified := decide ((asserted = true ∧ masked = false) ∧ q.left = 0) }) := by
  rw [OcQual.sample]
  cases h : q.mode with
  | debounce => cases asserted <;> cases masked <;> simp [Nat.sub_eq_zero_iff_le, beq_eq_decide]
  | blanking => cases asserted <;> cases masked <;> simp [beq_eq_decide]

theorem Group.sample_eq (masked good : Bool) (x : Group) :
    x.sample masked good = { x with
      railCount := if masked = true ∨ (good = true ↔ x.rail = .good) then 0 else x.railCount + 1 } := by
  unfold Group.sample
  cases masked <;> cases good <;> cases h : x.rail <;> simp

theorem Lane.tick_eq (x : Lane) :
    x.tick = { x with
      state := match x.state with
        | .released m => .released { m with window := m.window.map (· - 1) }
        | .closing m => .closing { m with window := m.window.map (· - 1) }
        | st => st } := by
  obtain ⟨st⟩ := x
  cases st <;> rfl

theorem Till.tick_eq (x : Till) :
    x.tick = { x with
      state := match x.state with
        | .idle => .idle
        | .armed c n => .armed c (n - 1)
        | .authorising c q n => .authorising c q (n - 1) } := by
  obtain ⟨st⟩ := x
  cases st <;> rfl

/-- A channel after a millisecond, with the comparisons of its qualifiers written as propositions. -/
theorem Channel.tick_eq (cfg : Setup) (p : Pins) (c : Chan) (ch : Channel) :
    let x := cfg.channels.get c
    let bounce := fun (differs : Prop) [Decidable differs] (q : Option Nat) =>
      if ch.state ≠ .off ∧ differs then some (match q with
        | none => cfg.timing.debounce
        | some n => n - 1)
      else none
    ch.tick cfg p c = { ch with
      state := ch.state.tick
      doorHeld := ch.doorHeld.map (· - 1)
      driveLeft := ch.driveLeft.map (· - 1)
      contactQual := bounce ((p.contact.get c == x.contactHigh) ≠ ch.contact) ch.contactQual
      privacyQual := bounce (x.kind = .cabin ∧ (p.privacy.get c == x.privacyHigh) ≠ ch.privacy) ch.privacyQual
      oc := ch.oc.map (·.sample cfg.policy.mask.overcurrent (p.overcurrent.get c)) } := by
  intro x bounce
  have contact : (ch.state != .off && (p.contact.get c == x.contactHigh) != ch.contact) = true ↔
      ch.state ≠ .off ∧ (p.contact.get c == x.contactHigh) ≠ ch.contact := by simp
  have privacy : (ch.state != .off && x.kind == .cabin && (p.privacy.get c == x.privacyHigh) != ch.privacy) = true ↔
      ch.state ≠ .off ∧ x.kind = .cabin ∧ (p.privacy.get c == x.privacyHigh) ≠ ch.privacy := by simp [and_assoc]
  rw [Channel.tick]
  rw [debounce_of_iff contact, debounce_of_iff privacy]
  rfl

end Sys2Proof.Machine

namespace Sys2Proof.Steps
open Sys2Proof.Machine

/-- Settles O2: the part takes one of its choices, or lets a millisecond pass when it has none. -/
theorem emptyQueueTakesAnEventOrAMillisecond : Obligations.EmptyQueueTakesAnEventOrAMillisecond := by
  intro s h
  rw [step_empty h, idle]
  refine ⟨fun none => by rw [State.choose_empty none], fun some => ?_⟩
  obtain ⟨i, hi, taken⟩ := State.choose_spec some
  exact ⟨i, hi, by rw [taken]⟩

/-- Settles O4: each part of the state after a millisecond. -/
theorem aMillisecondOfThePart : Obligations.AMillisecondOfThePart := by
  intro s
  obtain ⟨channels, groups, lanes⟩ := Zone.tick_get s.setup (s.samples.headD s.pins) s.zone
  rw [← State.tick_zone] at channels groups lanes
  refine ⟨by rw [State.tick_eq], by rw [State.tick_eq], fun c => ?channel, fun g => ?group, fun l => ?lane, fun i => ?till,
    fun r => ?reader, ?cards, ?authority, ?evac, ?phase, ?rest⟩
  case channel =>
    refine (channels c).trans ((Channel.tick_eq _ _ c _).trans ?_)
    congr 1
    exact congrArg (Option.map · _) (funext fun q => OcQual.sample_eq _ _ q)
  case group => exact (groups g).trans (Group.sample_eq _ _ _)
  case lane => exact (lanes l).trans (Lane.tick_eq _)
  case till => exact (State.tick_till s i).trans (Till.tick_eq _)
  case reader => exact State.tick_reader s r
  case cards =>
    rw [State.tick_eq]
    refine List.map_congr_left fun e _ => ?_
    rw [Entry.tick]
    cases e.2.body <;> rfl
  case authority =>
    rw [State.tick_eq]
    cases s.authority <;> rfl
  case evac =>
    rw [State.tick_eq]
    simp [Evac.sample]
  case phase =>
    rw [State.tick_eq]
    cases s.phase <;> rfl
  case rest =>
    rw [State.tick_eq]
    cases h : s.link.framer <;> simp [Link.tick, h]

end Sys2Proof.Steps
end

section
/-! The events that are due, read from their sources: the lists of due events of the parts of the state are told apart by the
constructors of their events. -/

namespace Sys2Proof.Machine

variable {s : State} {i e : Instr}

/-- Where the part finds that an event has come due. -/
inductive EventSource
  | channel (c : Chan)
  | group (g : Grp)
  | lane (l : LaneNo)
  | till (t : TillNo)
  | cards
  | clock
  | link
  | part
  | outside

def sourceOf : Instr → EventSource
  | .boltHomeSense c _ | .boltWithdrawnSense c _ | .positionLost c | .holdTimerExpiry c | .relockDelayExpiry c
  | .doorHeldExpiry c | .driveTimeout c | .passageEdge c | .contactQualified c _ | .privacyQualified c _
  | .overcurrentQualified c => .channel c
  | .railUndervoltage g | .railGood g => .group g
  | .passWindowExpiry l => .lane l
  | .armTimerExpiry t | .answerTimerExpiry t => .till t
  | .queryHoldExpiry _ | .repeatTimerExpiry _ => .cards
  | .shipTimeAdvance | .minuteTick | .leaseExpiry => .clock
  | .gapTimeout | .hostReadyHigh | .transmitFrameEnd | .readerReplyWindow => .link
  | .evacuationLineAsserted | .evacuationLineCleared | .startUpEnd _ | .setupSaveEnd _ => .part
  | _ => .outside

def State.dueFrom (s : State) : EventSource → List Instr
  | .channel c => (s.zone.channels.get c).due s.setup s.pins c
  | .group g => (s.zone.groups.get g).due g
  | .lane l => (s.zone.lanes.get l).due l
  | .till t => (s.tills.get t).due t
  | .cards => s.cardDue
  | .clock => s.clockDue
  | .link => s.linkDue
  | .part => s.partDue
  | .outside => []

@[simp] theorem mem_due {b : Bool} : i ∈ due b e ↔ b = true ∧ i = e := by
  cases b <;> simp [due]

theorem Channel.mem_due {cfg : Setup} {pins : Pins} {c : Chan} {ch : Channel} :
    i ∈ ch.due cfg pins c ↔ ch.state ≠ .off ∧
      (i ∈ ch.senseDue pins c ∨ i ∈ ch.timerDue c ∨
        ch.contactQual = some 0 ∧
          i = (if cfg.kind c = .gate ∧ ch.contact = false then .passageEdge c else .contactQualified c (pins.contact.get c)) ∨
        ch.privacyQual = some 0 ∧ i = .privacyQualified c (pins.privacy.get c) ∨
        (cfg.policy.mask.overcurrent = false ∧ ∃ q, ch.oc = some q ∧ q.qualified = true) ∧ i = .overcurrentQualified c) := by
  have qualified : ch.oc.any (·.qualified) = true ↔ ∃ q, ch.oc = some q ∧ q.qualified = true := by
    cases ch.oc <;> simp
  rw [← qualified]
  unfold Channel.due
  dsimp only
  split
  · next off => simp [off]
  · next on => simp [on, and_comm]

theorem Channel.mem_senseDue {pins : Pins} {c : Chan} {ch : Channel} :
    i ∈ ch.senseDue pins c ↔
      pins.home.get c ≠ ch.home ∧
        i = (if ch.state = .locked ∧ ch.home = true then .positionLost c else .boltHomeSense c (pins.home.get c)) ∨
      pins.withdrawn.get c ≠ ch.withdrawn ∧
        i = (if ch.state.isOpenHold = true ∧ ch.withdrawn = true then .positionLost c
          else .boltWithdrawnSense c (pins.withdrawn.get c)) := by
  simp [Channel.senseDue]

theorem Channel.mem_timerDue {c : Chan} {ch : Channel} :
    i ∈ ch.timerDue c ↔
      ch.state = .openHold (.holding 0) ∧ i = .holdTimerExpiry c ∨
        ch.state = .openHold (.relockDelay 0) ∧ i = .relockDelayExpiry c ∨
        ch.doorHeld = some 0 ∧ i = .doorHeldExpiry c ∨ ch.driveLeft = some 0 ∧ i = .driveTimeout c := by
  unfold Channel.timerDue
  split
  · next h => simp [h]
  · next h => simp [h]
  · next h h' => simp [show ch.state ≠ .openHold (.holding 0) from h, show ch.state ≠ .openHold (.relockDelay 0) from h']

theorem Channel.source_of_mem_due {cfg : Setup} {pins : Pins} {c : Chan} {ch : Channel} (h : i ∈ ch.due cfg pins c) :
    sourceOf i = .channel c := by
  obtain ⟨-, sense | timer | ⟨-, rfl⟩ | ⟨-, rfl⟩ | ⟨-, rfl⟩⟩ := Channel.mem_due.mp h
  · obtain ⟨-, rfl⟩ | ⟨-, rfl⟩ := Channel.mem_senseDue.mp sense <;> split <;> rfl
  · obtain ⟨-, rfl⟩ | ⟨-, rfl⟩ | ⟨-, rfl⟩ | ⟨-, rfl⟩ := Channel.mem_timerDue.mp timer <;> rfl
  · split <;> rfl
  · rfl
  · rfl

theorem Group.mem_due {g : Grp} {x : Group} :
    i ∈ x.due g ↔ x.rail = .good ∧ 5 ≤ x.railCount ∧ i = .railUndervoltage g ∨
      x.rail = .undervoltage ∧ 100 ≤ x.railCount ∧ i = .railGood g := by
  unfold Group.due
  split <;> simp [*, Config.railLowSamples, Config.railGoodSamples, -Nat.ble_eq, ble_eq_decide]

theorem Lane.mem_due {l : LaneNo} {x : Lane} :
    i ∈ x.due l ↔ (∃ m : Movement, (x.state = .released m ∨ x.state = .closing m) ∧ m.window = some 0) ∧ i = .passWindowExpiry l := by
  unfold Lane.due
  cases x.state <;> simp [LaneState.movement]

theorem Till.mem_due {t : TillNo} {x : Till} :
    i ∈ x.due t ↔ (∃ c, x.state = .armed c 0) ∧ i = .armTimerExpiry t ∨
      (∃ c q, x.state = .authorising c q 0) ∧ i = .answerTimerExpiry t := by
  unfold Till.due
  split <;> simp_all

theorem mem_pendingEntries_list {cards : List (Nat × Entry)} {j : Nat} {card : CardNo} {h : Held} :
    (j, card, h) ∈ pendingEntries cards ↔ (j, ⟨card, .pending h⟩) ∈ cards := by
  rw [pendingEntries, List.mem_filterMap]
  constructor
  · rintro ⟨⟨k, d, known | held⟩, hx, e⟩
    · cases e
    · cases e
      exact hx
  · exact fun hx => ⟨_, hx, rfl⟩

theorem State.mem_cardDue :
    i ∈ s.cardDue ↔ (∃ card, (∃ j r arrival, (j, ⟨card, .pending ⟨r, arrival, 0⟩⟩) ∈ s.cards) ∧ i = .queryHoldExpiry card) ∨
      ∃ r, (∃ card, (s.readers.get r).memory = some ⟨card, 0⟩) ∧ i = .repeatTimerExpiry r := by
  have pending : (∃ x ∈ pendingEntries s.cards, i ∈ Machine.due (x.2.2.left == 0) (.queryHoldExpiry x.2.1)) ↔
      ∃ card, (∃ j r arrival, (j, ⟨card, .pending ⟨r, arrival, 0⟩⟩) ∈ s.cards) ∧ i = .queryHoldExpiry card := by
    constructor
    · rintro ⟨⟨j, card, ⟨r, arrival, left⟩⟩, hx, h⟩
      obtain ⟨left, rfl⟩ := Machine.mem_due.mp h
      obtain rfl := eq_of_beq left
      exact ⟨card, ⟨j, r, arrival, mem_pendingEntries_list.mp hx⟩, rfl⟩
    · rintro ⟨card, ⟨j, r, arrival, hx⟩, rfl⟩
      exact ⟨_, mem_pendingEntries_list.mpr hx, Machine.mem_due.mpr ⟨rfl, rfl⟩⟩
  have memories : ∀ r, i ∈ Machine.due ((s.readers.get r).memory.any (fun m => m.left == 0)) (.repeatTimerExpiry r) ↔
      (∃ card, (s.readers.get r).memory = some ⟨card, 0⟩) ∧ i = .repeatTimerExpiry r := by
    intro r
    rw [Machine.mem_due]
    rcases (s.readers.get r).memory with - | ⟨card, left⟩ <;> simp
  unfold State.cardDue
  simp only [List.mem_append, List.mem_flatMap, pending, memories, allReaders, List.mem_finRange, true_and]

theorem State.mem_clockDue :
    i ∈ s.clockDue ↔ 1000 ≤ s.clock.secondMs ∧ i = .shipTimeAdvance ∨ 60000 ≤ s.clock.minuteMs ∧ i = .minuteTick ∨
      s.authority = .online 0 ∧ i = .leaseExpiry := by
  simp [State.clockDue, Config.secondMs, Config.minuteMs]

theorem State.mem_linkDue :
    i ∈ s.linkDue ↔ (∃ got, s.link.framer = .inFrame got 0) ∧ i = .gapTimeout ∨
      (s.pins.hostReady = true ∧ s.link.hostReady = false) ∧ i = .hostReadyHigh ∨
      (∃ f, s.link.tx = some ⟨f, 0⟩) ∧ i = .transmitFrameEnd ∨
      (∃ r sent, s.bus.exchange = some ⟨r, sent, 0⟩) ∧ i = .readerReplyWindow := by
  have gap : (match s.link.framer with
      | .inFrame _ 0 => true
      | _ => false) = true ↔ ∃ got, s.link.framer = .inFrame got 0 := by
    split <;> simp_all
  have sending : s.link.tx.any (fun x => x.left == 0) = true ↔ ∃ f, s.link.tx = some ⟨f, 0⟩ := by
    rcases s.link.tx with - | ⟨f, left⟩ <;> simp
  have exchange : s.bus.exchange.any (fun x => x.left == 0) = true ↔ ∃ r sent, s.bus.exchange = some ⟨r, sent, 0⟩ := by
    rcases s.bus.exchange with - | ⟨r, sent, left⟩ <;> simp
  unfold State.linkDue
  simp only [List.mem_append, Machine.mem_due, sending, exchange, or_assoc, Bool.and_eq_true, Bool.not_eq_true']
  rw [← gap] <;> rfl

theorem State.mem_partDue :
    i ∈ s.partDue ↔
      (s.phase = .running ∧ 50 ≤ s.evac.lineCount) ∧
          i = (if s.evac.line then .evacuationLineCleared else .evacuationLineAsserted) ∨
        (∃ info n lows, s.phase = .starting info n lows ∧ 50 ≤ n ∧ i = .startUpEnd (decide (lows = n))) ∨
        (∃ copy, s.save = some ⟨copy, 0⟩) ∧ i = .setupSaveEnd (Config.saveReadsBack s.free) := by
  have saved : s.save.any (fun v => v.left == 0) = true ↔ ∃ copy, s.save = some ⟨copy, 0⟩ := by
    rcases s.save with - | ⟨copy, left⟩ <;> simp
  unfold State.partDue
  rw [List.mem_append, Machine.mem_due, saved]
  cases s.phase <;> simp [Config.lineSamples, beq_eq_decide]

/-- An event comes due in its own source alone. -/
theorem State.source_of_mem_dueFrom {x : EventSource} (h : i ∈ s.dueFrom x) : sourceOf i = x := by
  cases x with
  | channel c => exact Channel.source_of_mem_due h
  | group g => obtain ⟨-, -, rfl⟩ | ⟨-, -, rfl⟩ := Group.mem_due.mp h <;> rfl
  | lane l => obtain ⟨-, rfl⟩ := Lane.mem_due.mp h; rfl
  | till t => obtain ⟨-, rfl⟩ | ⟨-, rfl⟩ := Till.mem_due.mp h <;> rfl
  | cards => obtain ⟨_, -, rfl⟩ | ⟨_, -, rfl⟩ := State.mem_cardDue.mp h <;> rfl
  | clock => obtain ⟨-, rfl⟩ | ⟨-, rfl⟩ | ⟨-, rfl⟩ := State.mem_clockDue.mp h <;> rfl
  | link => obtain ⟨-, rfl⟩ | ⟨-, rfl⟩ | ⟨-, rfl⟩ | ⟨-, rfl⟩ := State.mem_linkDue.mp h <;> rfl
  | part =>
    obtain ⟨-, rfl⟩ | ⟨_, _, _, -, -, rfl⟩ | ⟨-, rfl⟩ := State.mem_partDue.mp h
    · split <;> rfl
    · rfl
    · rfl
  | outside => exact absurd h List.not_mem_nil

theorem State.mem_due : i ∈ s.due ↔ i ∈ s.dueFrom (sourceOf i) := by
  have sources : i ∈ s.due ↔ ∃ x, i ∈ s.dueFrom x := by
    constructor
    · intro h
      simp only [State.due, List.mem_append, List.mem_flatMap] at h
      obtain (((((((⟨c, -, h⟩ | ⟨g, -, h⟩) | ⟨l, -, h⟩) | ⟨t, -, h⟩) | h) | h) | h) | h) := h
      exacts [⟨.channel c, h⟩, ⟨.group g, h⟩, ⟨.lane l, h⟩, ⟨.till t, h⟩, ⟨.cards, h⟩, ⟨.clock, h⟩, ⟨.link, h⟩, ⟨.part, h⟩]
    · rintro ⟨x, h⟩
      simp only [State.due, List.mem_append, List.mem_flatMap]
      cases x with
      | channel c => exact .inl (.inl (.inl (.inl (.inl (.inl (.inl ⟨c, List.mem_finRange c, h⟩))))))
      | group g => exact .inl (.inl (.inl (.inl (.inl (.inl (.inr ⟨g, List.mem_finRange g, h⟩))))))
      | lane l => exact .inl (.inl (.inl (.inl (.inl (.inr ⟨l, List.mem_finRange l, h⟩)))))
      | till t => exact .inl (.inl (.inl (.inl (.inr ⟨t, List.mem_finRange t, h⟩))))
      | cards => exact .inl (.inl (.inl (.inr h)))
      | clock => exact .inl (.inl (.inr h))
      | link => exact .inl (.inr h)
      | part => exact .inr h
      | outside => exact absurd h List.not_mem_nil
  refine sources.trans ⟨fun ⟨x, h⟩ => ?_, fun h => ⟨_, h⟩⟩
  rwa [State.source_of_mem_dueFrom h]

theorem Frame.command_source (f : Frame) : sourceOf f.command = .outside := by
  have kinds : requestKinds.map (fun k => sourceOf (k f.tag f.body)) = List.replicate 56 .outside := rfl
  unfold Frame.command
  split
  · rfl
  · split
    · next k h => exact List.eq_of_mem_replicate (kinds ▸ List.mem_map_of_mem (List.mem_of_getElem? h))
    · rfl

theorem Bool.ne_and_eq_iff {a b v : Bool} : a ≠ b ∧ v = a ↔ a = v ∧ b = !v := by
  cases a <;> cases b <;> cases v <;> simp

/-- Each event of a channel, at its own condition (R49, R53, R54, R57, R60, R68 to R71). -/
theorem Channel.due_events (cfg : Setup) (pins : Pins) (c : Chan) (ch : Channel) (v : Bool) :
    let on := ch.state ≠ .off
    let rests := ch.state = .locked ∧ ch.home = true
    let stands := ch.state.isOpenHold = true ∧ ch.withdrawn = true
    let edge := cfg.kind c = .gate ∧ ch.contact = false
    (.boltHomeSense c v ∈ ch.due cfg pins c ↔ on ∧ ¬rests ∧ pins.home.get c = v ∧ ch.home = !v) ∧
      (.boltWithdrawnSense c v ∈ ch.due cfg pins c ↔ on ∧ ¬stands ∧ pins.withdrawn.get c = v ∧ ch.withdrawn = !v) ∧
      (.positionLost c ∈ ch.due cfg pins c ↔ rests ∧ pins.home.get c = false ∨ stands ∧ pins.withdrawn.get c = false) ∧
      (.holdTimerExpiry c ∈ ch.due cfg pins c ↔ ch.state = .openHold (.holding 0)) ∧
      (.relockDelayExpiry c ∈ ch.due cfg pins c ↔ ch.state = .openHold (.relockDelay 0)) ∧
      (.doorHeldExpiry c ∈ ch.due cfg pins c ↔ on ∧ ch.doorHeld = some 0) ∧
      (.driveTimeout c ∈ ch.due cfg pins c ↔ on ∧ ch.driveLeft = some 0) ∧
      (.passageEdge c ∈ ch.due cfg pins c ↔ on ∧ ch.contactQual = some 0 ∧ edge) ∧
      (.contactQualified c v ∈ ch.due cfg pins c ↔ on ∧ ch.contactQual = some 0 ∧ ¬edge ∧ pins.contact.get c = v) ∧
      (.privacyQualified c v ∈ ch.due cfg pins c ↔ on ∧ ch.privacyQual = some 0 ∧ pins.privacy.get c = v) ∧
      (.overcurrentQualified c ∈ ch.due cfg pins c ↔
        on ∧ cfg.policy.mask.overcurrent = false ∧ ∃ q, ch.oc = some q ∧ q.qualified = true) := by
  simp only [Channel.mem_due, Channel.mem_senseDue, Channel.mem_timerDue, eq_ite_iff]
  refine ⟨?home, ?withdrawn, ?lost, ?hold, ?relock, ?held, ?drive, ?edge, ?contact, ?privacy, ?overcurrent⟩
  case home =>
    have moved := @Bool.ne_and_eq_iff (pins.home.get c) ch.home v
    simp
    tauto
  case withdrawn =>
    have moved := @Bool.ne_and_eq_iff (pins.withdrawn.get c) ch.withdrawn v
    simp
    tauto
  case lost => cases ch.state <;> cases ch.home <;> cases ch.withdrawn <;> simp [ChanState.isOpenHold]
  case hold => simp +contextual
  case relock => simp +contextual
  case contact => simp [eq_comm (a := v)]
  case privacy => simp [eq_comm (a := v)]
  case held | drive | edge | overcurrent => simp

end Sys2Proof.Machine

namespace Sys2Proof.Steps
open Sys2Proof.Machine

/-- Settles O5: each event in its source. -/
theorem theEventsThatAreDue : Obligations.TheEventsThatAreDue := by
  intro s
  simp only [State.mem_due, Frame.command_source]
  refine ⟨rfl, ?turn, fun f => List.not_mem_nil, fun c v => Channel.due_events s.setup s.pins c _ v,
    fun g => ⟨Group.mem_due.trans ?_, Group.mem_due.trans ?_⟩, fun l => Lane.mem_due.trans ?_,
    fun t => ⟨Till.mem_due.trans ?_, Till.mem_due.trans ?_⟩,
    fun card => State.mem_cardDue.trans ?_, fun r => State.mem_cardDue.trans ?_,
    State.mem_clockDue.trans ?_, State.mem_clockDue.trans ?_, State.mem_clockDue.trans ?_,
    State.mem_linkDue.trans ?_, State.mem_linkDue.trans ?_, State.mem_linkDue.trans ?_, State.mem_linkDue.trans ?_,
    State.mem_partDue.trans ?asserted, State.mem_partDue.trans ?cleared,
    fun v => ⟨State.mem_partDue.trans ?_, State.mem_partDue.trans ?_⟩⟩
  case turn =>
    unfold State.turn
    cases oldestWaiting s.link.queue <;> rfl
  case asserted | cleared => simp [and_comm, and_left_comm]
  all_goals simp [eq_ite_iff]

end Sys2Proof.Steps
end

section
/-! What becomes of a frame before its turn, and the checks of a request at its turn (R176 to R178, R191). -/

namespace Sys2Proof.Machine

variable {s : State} {f : Frame} {serve : Serve}

theorem oldestWaiting_append_of_some {g : Frame} {q r : List QueueEntry} (h : oldestWaiting q = some g) :
    oldestWaiting (q ++ r) = some g := by
  induction q with
  | nil => simp [oldestWaiting] at h
  | cons e q ih =>
    cases e with
    | waiting g => exact h
    | answered b => exact ih h

theorem Link.handUp_placed {k : Link} (h : k.queue.length < 4) :
    k.handUp f = { k with queue := k.queue ++ [.waiting f] } := if_pos h

theorem Link.handUp_busy {k : Link} (full : 4 ≤ k.queue.length) (h : k.busy.length < 8) :
    k.handUp f = { k with
      busy := k.busy ++ [⟨⟨replyKind f.kind, f.tag, [0x03]⟩, k.built⟩]
      built := k.built + 1
      busyRefusals := satInc k.busyRefusals } :=
  (if_neg (Nat.not_lt.mpr full)).trans (if_pos h)

theorem Link.handUp_discarded {k : Link} (full : 4 ≤ k.queue.length) (h : 8 ≤ k.busy.length) :
    k.handUp f = { k with overruns := satInc k.overruns } :=
  (if_neg (Nat.not_lt.mpr full)).trans (if_neg (Nat.not_lt.mpr h))

theorem Link.handUp_queue_full {k : Link} (full : 4 ≤ k.queue.length) : (k.handUp f).queue = k.queue := by
  by_cases h : k.busy.length < 8
  · rw [Link.handUp_busy full h]
  · rw [Link.handUp_discarded full (Nat.not_lt.mp h)]

/-- A frame whose turn has not come is not the oldest waiting request once it has arrived. -/
theorem State.arrive_no_turn (h : ¬s.hasTurn f) :
    ¬((s.arrive f).phase = .running ∧ oldestWaiting (s.arrive f).link.queue = some f) := by
  rintro ⟨running, oldest⟩
  rw [State.arrive_phase] at running
  rw [State.arrive_waits f s h] at oldest
  obtain ⟨other, noPlace⟩ := not_or.mp fun x => h ⟨running, x⟩
  cases first : oldestWaiting s.link.queue with
  | some g =>
    by_cases place : s.link.queue.length < 4
    · rw [Link.handUp_placed place, oldestWaiting_append_of_some first] at oldest
      exact other (first.trans oldest)
    · rw [Link.handUp_queue_full (Nat.not_lt.mp place)] at oldest
      exact other oldest
  | none =>
    have full : 4 ≤ s.link.queue.length := Nat.not_lt.mp fun place => noPlace ⟨first, place⟩
    rw [Link.handUp_queue_full full] at oldest
    exact other oldest

theorem State.arrive_has_turn (h : s.hasTurn f) :
    (s.arrive f).phase = .running ∧ oldestWaiting (s.arrive f).link.queue = some f := by
  obtain ⟨running, again | ⟨none, place⟩⟩ := h
  · rw [s.arrive_again f running again]
    exact ⟨running, again⟩
  · rw [s.arrive_new f (.inr (by simp [none])), Link.handUp_placed place]
    exact ⟨running, oldestWaiting_append f _ none⟩

theorem State.request_waits (h : ¬s.hasTurn f) : s.request f serve = (s.arrive f).close := if_neg (State.arrive_no_turn h)

/-! ## The sizes of the bodies -/

/-- A kind whose commands wait as every frame does, and refuse at their turn a tag 0 and a body of another size. -/
def TakenAs (kind : Octet) (sizes : List Nat) (k : Octet → List Octet → Instr) : Prop :=
  ∀ (tag : Octet) (body : List Octet) (s : State),
    (¬s.hasTurn ⟨kind, tag, body⟩ → exec (k tag body) s = .next (s.arrive ⟨kind, tag, body⟩).close) ∧
    (s.hasTurn ⟨kind, tag, body⟩ → tag = 0 ∨ body.length ∉ sizes →
      exec (k tag body) s = .next ((s.arrive ⟨kind, tag, body⟩).answered ⟨kind, tag, body⟩ ⟨.malformed, []⟩))

variable {kind : Octet} {sizes : List Nat} {k : Octet → List Octet → Instr}

theorem takenAs_framed {sizeOk : List Octet → Bool} {block : Octet → List Octet → Serve}
    (run : ∀ tag body s, exec (k tag body) s = .next (s.request ⟨kind, tag, body⟩ (framed tag (sizeOk body) (block tag body))))
    (size : ∀ body, body.length ∉ sizes → sizeOk body = false) : TakenAs kind sizes k := by
  intro tag body s
  rw [run]
  exact ⟨fun wait => by rw [State.request_waits wait],
    fun turn bad => next_request turn (framed_malformed tag _ _ _ (bad.imp_right (size body)))⟩

/-- A block whose body has one size. -/
theorem takenAs_one {n : Nat} {block : Octet → List Octet → Serve}
    (run : ∀ tag body s, exec (k tag body) s =
      .next (s.request ⟨kind, tag, body⟩ (framed tag (body.length = n) (block tag body)))) : TakenAs kind [n] k :=
  takenAs_framed run fun body h => by simpa using h

theorem takenAs_restart : TakenAs 0x38 [0] .restart := by
  intro tag body s
  refine ⟨fun wait => congrArg _ (if_neg (State.arrive_no_turn wait)), fun turn bad => ?_⟩
  have refused : tag = 0 ∨ body ≠ [] := bad.imp_right fun h => by simpa using h
  have taken : exec (.restart tag body) s = .next ((s.arrive ⟨0x38, tag, body⟩).takeRestart ⟨0x38, tag, body⟩) :=
    congrArg _ (if_pos (State.arrive_has_turn turn))
  rw [taken, State.takeRestart, if_pos refused]
  rfl

/-- The kinds from `n` on, each with the sizes of its body. -/
inductive TakenFrom : Nat → List (List Nat) → List (Octet → List Octet → Instr) → Prop
  | nil {n : Nat} : TakenFrom n [] []
  | cons {n : Nat} {sizes : List Nat} {k : Octet → List Octet → Instr} {rest : List (List Nat)}
      {ks : List (Octet → List Octet → Instr)} (first : TakenAs (BitVec.ofNat 8 n) sizes k) (others : TakenFrom (n + 1) rest ks) :
      TakenFrom n (sizes :: rest) (k :: ks)

theorem TakenFrom.get {n j : Nat} {all : List (List Nat)} {ks : List (Octet → List Octet → Instr)} (h : TakenFrom n all ks)
    (hs : all[j]? = some sizes) (hk : ks[j]? = some k) : TakenAs (BitVec.ofNat 8 (n + j)) sizes k := by
  induction h generalizing j with
  | nil => simp at hk
  | cons first _ ih =>
    cases j with
    | zero =>
      obtain rfl := Option.some.inj hs
      obtain rfl := Option.some.inj hk
      exact first
    | succ j =>
      have rest := ih hs hk
      rwa [Nat.add_assoc, Nat.add_comm 1 j] at rest

/-- The sizes of the bodies, in the order of the kinds. -/
def bodySizes : List (List Nat) :=
  [[23, 26, 29, 32], [7], [7], [8], [7], [8], [0], [4]] ++ [[2], [2], [1], [2], [1], [10], [2]] ++
    [[1], [1], [2], [3], [0], [0]] ++ [[16], [2], [2], [9], [1], [6], [1], [5], [4], [4]] ++
    [[2], [0], [4], [0], [0], [0], [1], [0], [0]] ++ [[3], [7], [4], [3], [19], [15]] ++ [[1], [1], [1], [1], [0], [0]] ++
    [[0], [0], [0], [0]]

theorem takenFrom_requestKinds : TakenFrom 1 bodySizes requestKinds := by
  have cardPut : TakenAs 0x01 [23, 26, 29, 32] .cardPut := takenAs_framed (fun _ _ _ => rfl) fun body h => by simpa [and_assoc] using h
  refine .cons cardPut ?_
  iterate 54 refine .cons (takenAs_one fun _ _ _ => rfl) ?_
  exact .cons takenAs_restart .nil

theorem requestKinds_of_inUse (h : requestKindInUse f.kind = true) :
    f.kind ≠ 0 ∧ f.kind.toNat - 1 < requestKinds.length ∧ BitVec.ofNat 8 (1 + (f.kind.toNat - 1)) = f.kind := by
  obtain ⟨low, high⟩ : 1 ≤ f.kind.toNat ∧ f.kind.toNat ≤ 0x38 := by simpa [requestKindInUse] using h
  refine ⟨fun zero => by simp [zero] at low, Nat.lt_of_lt_of_eq (m := 56) (by omega) rfl, BitVec.eq_of_toNat_eq ?_⟩
  rw [BitVec.toNat_ofNat]
  omega

theorem Frame.command_inUse (h : requestKindInUse f.kind = true) :
    ∃ k sizes, f.command = k f.tag f.body ∧ bodySizes[f.kind.toNat - 1]? = some sizes ∧ TakenAs f.kind sizes k := by
  obtain ⟨nonzero, lt, same⟩ := requestKinds_of_inUse h
  have place : bodySizes.length = requestKinds.length := rfl
  refine ⟨requestKinds[f.kind.toNat - 1], bodySizes[f.kind.toNat - 1], ?_, List.getElem?_eq_getElem (place ▸ lt), ?_⟩
  · rw [Frame.command, if_neg nonzero, List.getElem?_eq_getElem lt]
  · have taken := takenFrom_requestKinds.get (List.getElem?_eq_getElem (place ▸ lt)) (List.getElem?_eq_getElem lt)
    rwa [same] at taken

theorem Frame.command_unknown (h : requestKindInUse f.kind = false) : f.command = .unknownKind f.kind f.tag f.body := by
  unfold Frame.command
  split
  · rfl
  · next nonzero =>
    have beyond : requestKinds.length ≤ f.kind.toNat - 1 := by
      have positive : f.kind.toNat ≠ 0 := fun zero => nonzero (BitVec.eq_of_toNat_eq zero)
      have high : 0x38 < f.kind.toNat := by
        simp only [requestKindInUse, Bool.and_eq_false_iff, decide_eq_false_iff_not] at h
        omega
      exact Nat.le_trans (Nat.le_of_eq (m := 56) rfl) (by omega)
    rw [List.getElem?_eq_none beyond]

/-- Before its turn a frame only arrives. -/
theorem exec_command_waits (h : ¬s.hasTurn f) : exec f.command s = .next (s.arrive f).close := by
  cases inUse : requestKindInUse f.kind with
  | false =>
    rw [Frame.command_unknown inUse]
    exact congrArg _ (State.request_waits h)
  | true =>
    obtain ⟨k, sizes, command, -, taken⟩ := Frame.command_inUse inUse
    rw [command]
    exact (taken f.tag f.body s).1 h

end Sys2Proof.Machine

namespace Sys2Proof.Steps
open Sys2Proof.Machine

/-- Settles O6: the places of the host link, and the first checks of a request. -/
theorem framesAreQueuedThenChecked : Obligations.FramesAreQueuedThenChecked := by
  intro f s
  refine ⟨fun wait => ⟨exec_command_waits wait, ?_, ?_, ?_⟩, fun turn => ⟨?again, ?placed, fun h => ?unknown, ?tag, ?body⟩⟩
  · exact fun place => by rw [State.arrive_waits f s wait, Link.handUp_placed place]
  · exact fun full place => by rw [State.arrive_waits f s wait, Link.handUp_busy full place]
  · exact fun full none => by rw [State.arrive_waits f s wait, Link.handUp_discarded full none]
  case unknown => exact ⟨Frame.command_unknown h, next_request turn rfl⟩
  case again => exact s.arrive_again f turn.1
  case placed =>
    intro other
    obtain ⟨-, again | ⟨-, place⟩⟩ := turn
    · exact absurd again other
    · rw [s.arrive_new f (.inr other), Link.handUp_placed place]
  case tag =>
    intro inUse zero
    obtain ⟨k, ns, command, -, taken⟩ := Frame.command_inUse inUse
    rw [command]
    exact (taken f.tag f.body s).2 turn (.inl zero)
  case body =>
    intro ns inUse size other
    obtain ⟨k, ms, command, size', taken⟩ := Frame.command_inUse inUse
    obtain rfl : ns = ms := Option.some.inj (size.symm.trans size')
    rw [command]
    exact (taken f.tag f.body s).2 turn (.inr other)

end Sys2Proof.Steps
end

section
/-! The octets of a frame, taken by the framer one by one (R174, R184). -/

namespace Sys2Proof.Machine

variable {s : State} {f : Frame}

/-! ## The transmitter reads nothing of the framer -/

theorem Link.takeNotice_framer (k : Link) (x : Framer) :
    Link.takeNotice { k with framer := x } = k.takeNotice.map fun y => (y.1, { y.2 with framer := x }) := by
  unfold Link.takeNotice
  cases h : k.notices <;> rfl

theorem Link.nextFrame_framer (k : Link) (x : Framer) :
    Link.nextFrame { k with framer := x } = k.nextFrame.map fun y => (y.1, { y.2 with framer := x }) := by
  unfold Link.nextFrame
  by_cases lead : 0 < k.lead ∧ k.notices ≠ []
  · rw [if_pos lead, if_pos lead, Link.takeNotice_framer]
  · rw [if_neg lead, if_neg lead, Link.takeNotice_framer]
    rcases takeAnswered k.queue with - | ⟨a, q⟩ <;> rcases k.busy with - | ⟨b, bs⟩
    · rfl
    · rfl
    · rfl
    · by_cases earlier : a.stamp < b.stamp
      · simp [earlier]
      · simp [earlier]

theorem Link.transmit_framer (k : Link) (x : Framer) : Link.transmit { k with framer := x } = { k.transmit with framer := x } := by
  unfold Link.transmit
  dsimp only
  rw [Link.nextFrame_framer]
  split
  · cases k.nextFrame <;> rfl
  · rfl

/-- With nothing to begin, the transmitter begins nothing while the framer takes an octet. -/
theorem State.close_framer (quiet : s.close = s) (x : Framer) (pending : List Instr) :
    State.close { s with pending := pending, link := { s.link with framer := x } } =
      { s with pending := pending, link := { s.link with framer := x } } := by
  unfold State.close at quiet ⊢
  dsimp only
  split
  · next running =>
    rw [if_pos running] at quiet
    have still : s.link.transmit = s.link := congrArg State.link quiet
    rw [Link.transmit_framer, still]
  · rfl

/-! ## Inside a frame -/

/-- The state in which the framer holds the octets `got` of a frame and `rest` are to come. -/
def State.within (s : State) (got rest : List Octet) : State :=
  { s with pending := rest.map .hostOctetReceived, link := { s.link with framer := .inFrame got Config.gapMs } }

theorem run_succ_of_next (M : Host.Core) {n : Nat} {s t : M.State} (h : M.step s = .next t) : M.run (n + 1) s = M.run n t := by
  rw [Host.Core.run, h]

theorem run_front {n : Nat} {i : Instr} {rest : List Instr} {t : State} (front : s.pending = i :: rest)
    (go : exec i { s with pending := rest } = .next t) :
    Host.Core.run Sys2Proof.core (n + 1) s = Host.Core.run Sys2Proof.core n t := by
  have stepped : step s = .next t := by rw [step, front]; exact go
  exact run_succ_of_next Sys2Proof.core stepped

/-- The octets of a frame after the start octet. -/
def Frame.inner (f : Frame) : List Octet := f.covered ++ be 2 (crc16 f.covered).toNat

theorem Frame.inner_length (f : Frame) : f.inner.length = f.body.length + 5 := by
  simp [Frame.inner, Frame.covered]

theorem Frame.covered_length_octet (f : Frame) (fits : f.body.length ≤ 240) : (BitVec.ofNat 8 (f.body.length + 2)).toNat = f.body.length + 2 := by
  rw [BitVec.toNat_ofNat]
  omega

theorem frameOf_covered (fits : f.body.length ≤ 240) : frameOf f.covered = some f := by
  rw [Frame.covered, frameOf, f.covered_length_octet fits, Nat.add_sub_cancel, List.take_length]

/-- The last octet of a frame hands it up. -/
theorem State.endFrame_inner (fits : f.body.length ≤ 240) (s : State) :
    s.endFrame f.inner = { s with link := Link.handUp f { s.link with framer := .hunting } } := by
  have last : f.inner.dropLast.dropLast = f.covered := by
    simp [Frame.inner, List.dropLast_eq_take, List.take_take]
  unfold State.endFrame
  dsimp only
  rw [last, frameOf_covered fits, if_pos (by simp [Frame.inner])]

/-- An octet inside a frame that is not its last is taken. -/
theorem State.frameOctet_within (fits : f.body.length ≤ 240) {got rest : List Octet} {o : Octet}
    (cut : got ++ o :: rest = f.inner) (more : rest ≠ []) (s : State) :
    s.frameOctet (got ++ [o]) = { s with link := { s.link with framer := .inFrame (got ++ [o]) Config.gapMs } } := by
  have head : (got ++ [o]).headD 0 = BitVec.ofNat 8 (f.body.length + 2) := by
    have := congrArg (·.headD 0) cut
    cases got <;> exact this
  have size : (got ++ [o]).length + rest.length = f.body.length + 5 := by
    rw [← f.inner_length, ← cut]; simp; omega
  have some : 0 < rest.length := List.length_pos_of_ne_nil more
  unfold State.frameOctet
  dsimp only
  rw [head, f.covered_length_octet fits, if_neg (by omega), if_neg (by omega)]

theorem State.frameOctet_last (fits : f.body.length ≤ 240) (s : State) :
    s.frameOctet f.inner = { s with link := Link.handUp f { s.link with framer := .hunting } } := by
  have head : f.inner.headD 0 = BitVec.ofNat 8 (f.body.length + 2) := rfl
  unfold State.frameOctet
  dsimp only
  rw [head, f.covered_length_octet fits, if_neg (by omega), if_pos f.inner_length, State.endFrame_inner fits]

theorem run_within (fits : f.body.length ≤ 240) (hunting : s.link.framer = .hunting) (idle : s.pending = [])
    (quiet : s.close = s) {got rest : List Octet} {o : Octet} (cut : got ++ o :: rest = f.inner) :
    Host.Core.run Sys2Proof.core (rest.length + 1) (s.within got (o :: rest)) = .next { s with link := s.link.handUp f }.close := by
  induction rest generalizing got o with
  | nil =>
    have same : { s with pending := [], link := { s.link with framer := .hunting } } = s := by rw [← hunting, ← idle]
    have whole : (State.frameOctet (got ++ [o]) { s.within got [o] with pending := [] }) =
        { s with link := s.link.handUp f } := by
      rw [show got ++ [o] = f.inner from cut, State.frameOctet_last fits]
      exact congrArg (fun t : State => { t with link := t.link.handUp f }) same
    exact run_front (n := 0) rfl (congrArg Host.Outcome.next (congrArg State.close whole))
  | cons p rest ih =>
    refine (run_front (n := rest.length + 1) (t := s.within (got ++ [o]) (p :: rest)) rfl ?_).trans (ih (by rw [← cut]; simp))
    refine congrArg Host.Outcome.next ?_
    refine (congrArg State.close (State.frameOctet_within fits cut (by simp) _)).trans ?_
    exact State.close_framer quiet _ _

end Sys2Proof.Machine

namespace Sys2Proof.Encodings
open Sys2Proof.Machine

/-- Settles O16: by induction on the octets to come. -/
theorem theOctetsOfAFrameHandItUp : Obligations.TheOctetsOfAFrameHandItUp := by
  intro f s fits hunting idle quiet
  have start : Host.Core.run Sys2Proof.core f.octets.length { s with pending := f.octets.map .hostOctetReceived } =
      Host.Core.run Sys2Proof.core f.inner.length (s.within [] f.inner) := by
    exact run_front (t := s.within [] f.inner) rfl (congrArg Host.Outcome.next (by rw [hunting]; rfl))
  rw [start]
  exact run_within fits hunting idle quiet rfl

end Sys2Proof.Encodings
end

section
/-! The frames of the reader bus, spelled and heard (R161, R190). -/

namespace Sys2Proof.Machine

variable {x : Exchange} {kind : Octet} {body os : List Octet} {fr : ReaderFrame}

theorem o1_eq (n : Nat) : o1 n = [BitVec.ofNat 8 n] := by simp [o1, be]

/-- The octets that a reader sends: its address, the kind, the length, the body and the check. -/
def Exchange.spelled (x : Exchange) (kind : Octet) (body : List Octet) : List Octet :=
  busOctets (BitVec.ofNat 8 (address x.reader)) kind body

theorem Exchange.octets_eq (x : Exchange) : x.octets = x.spelled x.sent.kind x.sent.body := rfl

theorem address_toNat (r : ReaderNo) : (BitVec.ofNat 8 (address r)).toNat = address r := by
  rw [BitVec.toNat_ofNat, address]
  omega

/-- The octets that pass the checks of the address, the length and the check octet are those that spell their kind and body. -/
theorem Exchange.checks_iff (x : Exchange) (addr len : Octet) (rest : List Octet) :
    (rest.length = len.toNat + 1 ∧ rest.getLast? = some (crc8 (addr :: kind :: len :: rest.dropLast)) ∧
        addr.toNat = address x.reader) ↔
      rest.dropLast.length ≤ 255 ∧ addr :: kind :: len :: rest = x.spelled kind rest.dropLast := by
  have spelled : x.spelled kind rest.dropLast =
      BitVec.ofNat 8 (address x.reader) :: kind :: BitVec.ofNat 8 rest.dropLast.length ::
        (rest.dropLast ++ [crc8 (BitVec.ofNat 8 (address x.reader) :: kind :: BitVec.ofNat 8 rest.dropLast.length :: rest.dropLast)]) :=
    rfl
  rw [spelled]
  constructor
  · rintro ⟨size, check, here⟩
    have addr_eq : addr = BitVec.ofNat 8 (address x.reader) := BitVec.eq_of_toNat_eq (here.trans (address_toNat _).symm)
    have length : rest.dropLast.length = len.toNat := by rw [List.length_dropLast, size, Nat.add_sub_cancel]
    have len_eq : BitVec.ofNat 8 rest.dropLast.length = len := by rw [length, BitVec.ofNat_toNat, BitVec.setWidth_eq]
    refine ⟨by omega, ?_⟩
    rw [len_eq, ← addr_eq, List.dropLast_append_getLast? _ check]
  · rintro ⟨short, same⟩
    obtain ⟨rfl, rfl, whole⟩ : addr = _ ∧ len = _ ∧ rest = _ := by simpa only [List.cons.injEq, true_and] using same
    refine ⟨?_, ?_, address_toNat _⟩
    · have size : rest.length = rest.dropLast.length + 1 := by
        have := congrArg List.length whole
        rwa [List.length_append] at this
      rw [BitVec.toNat_ofNat, Nat.mod_eq_of_lt (Nat.lt_succ_of_le short), ← size]
    · exact (congrArg List.getLast? whole).trans (by simp)

/-- What is heard of a frame that passes the checks. -/
def Exchange.classed (x : Exchange) (kind : Octet) (body : List Octet) : Heard :=
  match readerFrameOf kind.toNat body with
  | some f => if x.sent.answeredBy f then .valid f else .corrupt
  | none => .corrupt

theorem Exchange.hear_frame (x : Exchange) (addr kind len : Octet) (rest : List Octet) :
    x.hear (addr :: kind :: len :: rest) =
      if rest.length = len.toNat + 1 ∧ rest.getLast? = some (crc8 (addr :: kind :: len :: rest.dropLast)) ∧
        addr.toNat = address x.reader then x.classed kind rest.dropLast else .corrupt := rfl

theorem Exchange.classed_valid_iff :
    x.classed kind body = .valid fr ↔ readerFrameOf kind.toNat body = some fr ∧ x.sent.answeredBy fr = true := by
  unfold Exchange.classed
  cases readerFrameOf kind.toNat body with
  | none => simp
  | some f =>
    by_cases answers : x.sent.answeredBy f = true
    · simp only [if_pos answers, Heard.valid.injEq, Option.some.injEq]
      exact ⟨fun h => ⟨h, h ▸ answers⟩, And.left⟩
    · simp only [if_neg answers, reduceCtorEq, Option.some.injEq, false_iff]
      rintro ⟨rfl, h⟩
      exact answers h

theorem Exchange.classed_ne_nothing : x.classed kind body ≠ .nothing := by
  unfold Exchange.classed
  cases readerFrameOf kind.toNat body with
  | none => simp
  | some f => dsimp only; split <;> simp

/-- What is heard is valid exactly when it spells a frame that answers the frame sent. -/
theorem Exchange.hear_valid_iff :
    x.hear os = .valid fr ↔ ∃ kind body, body.length ≤ 255 ∧ os = x.spelled kind body ∧
      readerFrameOf kind.toNat body = some fr ∧ x.sent.answeredBy fr = true := by
  constructor
  · intro h
    match os, h with
    | addr :: kind :: len :: rest, h =>
      rw [Exchange.hear_frame] at h
      split at h
      · next checks =>
        obtain ⟨short, spelled⟩ := (x.checks_iff addr len rest).mp checks
        exact ⟨kind, _, short, spelled, Exchange.classed_valid_iff.mp h⟩
      · cases h
  · rintro ⟨kind, body, short, rfl, frame⟩
    obtain ⟨rest, spelled, last⟩ : ∃ rest, x.spelled kind body =
        BitVec.ofNat 8 (address x.reader) :: kind :: BitVec.ofNat 8 body.length :: rest ∧ rest.dropLast = body :=
      ⟨_, rfl, List.dropLast_concat⟩
    have checks := (x.checks_iff (kind := kind) (BitVec.ofNat 8 (address x.reader)) (BitVec.ofNat 8 body.length) rest).mpr
      (by rw [last]; exact ⟨short, spelled.symm⟩)
    rw [spelled, Exchange.hear_frame, if_pos checks, last]
    exact Exchange.classed_valid_iff.mpr frame

theorem Exchange.hear_eq_nothing_iff : x.hear os = .nothing ↔ os = [] := by
  refine ⟨fun h => ?_, fun h => by rw [h]; rfl⟩
  match os, h with
  | [], _ => rfl
  | addr :: kind :: len :: rest, h =>
    rw [Exchange.hear_frame] at h
    split at h
    · exact absurd h Exchange.classed_ne_nothing
    · cases h

theorem Exchange.hear_corrupt (some : os ≠ []) (invalid : ∀ fr, x.hear os ≠ .valid fr) : x.hear os = .corrupt := by
  cases h : x.hear os with
  | nothing => exact absurd (Exchange.hear_eq_nothing_iff.mp h) some
  | corrupt => rfl
  | valid fr => exact absurd h (invalid fr)

end Sys2Proof.Machine

namespace Sys2Proof.Encodings
open Sys2Proof.Machine

/-- Settles O17: what the part sends, from the kinds and bodies; what it hears, from the checks. -/
theorem framesOfTheReaderBus : Obligations.FramesOfTheReaderBus := by
  intro x
  have sends : ∀ {sent : Sent} {octets : List Octet}, sent.body = octets → x.sent = sent → x.octets = x.spelled sent.kind octets := by
    rintro sent octets rfl h
    rw [Exchange.octets_eq, h]
  refine ⟨sends rfl, fun p => sends ?_, sends rfl, fun c => sends ?_, fun t => sends ?_, fun l => sends ?_, fun l => sends ?_,
    fun kind body fr short read answers => Exchange.hear_valid_iff.mpr ⟨kind, body, short, rfl, read, answers⟩,
    fun os fr h => ?_, fun os => ⟨Exchange.hear_eq_nothing_iff, Exchange.hear_corrupt⟩⟩
  · cases p <;> rfl
  · rw [Sent.body, o1_eq, o1_eq]; rfl
  · rw [Sent.body, o1_eq, o1_eq]; rfl
  · rw [Sent.body, o1_eq, o1_eq]; rfl
  · rw [Sent.body, o1_eq, o1_eq]; rfl
  · obtain ⟨kind, body, -, spelled, read, answers⟩ := Exchange.hear_valid_iff.mp h
    exact ⟨kind, body, spelled, read, answers⟩

end Sys2Proof.Encodings
end

section
/-! The setup records as they travel, read back (R47, R88, R116, R162, R183, R192). -/

namespace Sys2Proof.Machine

/-! ## A body of fields, and the codes of its values -/

/-- The octets of numbers in fields of given widths. -/
def spell (xs : List (Nat × Nat)) : List Octet := xs.flatMap fun x => be x.1 x.2

theorem fields_spell {xs : List (Nat × Nat)} (fit : ∀ x ∈ xs, x.2 < 256 ^ x.1) :
    fields (xs.map Prod.fst) (spell xs) = xs.map Prod.snd := by
  induction xs with
  | nil => rfl
  | cons x xs ih =>
    obtain ⟨first, others⟩ := List.forall_mem_cons.mp fit
    have split : spell (x :: xs) = be x.1 x.2 ++ spell xs := List.flatMap_cons
    rw [List.map_cons, List.map_cons, split, fields_be x.1 x.2 _ _ first, ih others]

@[simp] theorem flagOf_flagCode (b : Bool) : flagOf (flagCode b) = some b := by cases b <;> rfl
@[simp] theorem pairOf_pairCode (b : Bool) : pairOf (pairCode b) = some b := by cases b <;> rfl
@[simp] theorem chanKindOf_code (x : ChanKind) : chanKindOf x.code = some x := by cases x <;> rfl
@[simp] theorem contactModeOf_code (x : ContactMode) : contactModeOf x.code = some x := by cases x <;> rfl
@[simp] theorem laneDirOf_code (x : LaneDir) : laneDirOf x.code = some x := by cases x <;> rfl
@[simp] theorem tillClassOf_code (x : TillClass) : tillClassOf x.code = some x := by cases x <;> rfl
@[simp] theorem scopeOf_code (x : Scope) : scopeOf x.code = some x := by cases x <;> rfl
@[simp] theorem ocModeOf_code (x : OcMode) : ocModeOf x.code = some x := by cases x <;> rfl
@[simp] theorem roleOf_code (x : Role) : roleOf x.code x.index = some x := by cases x <;> simp [roleOf, Role.code, Role.index]

/-- A code fits an octet. -/
theorem code_lt : (∀ b, flagCode b < 256) ∧ (∀ b, pairCode b < 256) ∧ (∀ x : ChanKind, x.code < 256) ∧
    (∀ x : ContactMode, x.code < 256) ∧ (∀ x : LaneDir, x.code < 256) ∧ (∀ x : TillClass, x.code < 256) ∧
    (∀ x : Scope, x.code < 256) ∧ (∀ x : OcMode, x.code < 256) := by
  refine ⟨fun x => ?_, fun x => ?_, fun x => ?_, fun x => ?_, fun x => ?_, fun x => ?_, fun x => ?_, fun x => ?_⟩ <;>
    cases x <;> decide

theorem Role.code_index_lt (x : Role) : x.code < 256 ∧ x.index < 256 := by
  cases x <;> simp only [Role.code, Role.index] <;> omega

theorem vector_of_gets {α : Type} (v : Vector α 4) : #v[v.get 0, v.get 1, v.get 2, v.get 3] = v := by
  refine Vector.ext fun i hi => ?_
  interval_cases i <;> rfl

end Sys2Proof.Machine

namespace Sys2Proof.Encodings
open Sys2Proof.Machine

/-- Settles O18: each record spells its fields in the widths that its reader takes, and each code reads back. -/
theorem setupRecordsReadBack : Obligations.SetupRecordsReadBack := by
  obtain ⟨flags, pairs, kinds, modes, dirs, classes, scopes, ocModes⟩ := code_lt
  refine ⟨fun t h => ?timing, fun p => ?policy, fun cfg r => ?reader, fun cfg c h => ?channel, fun cfg l => ?lane, fun cfg t => ?till⟩
  case timing =>
    have ranges := h
    simp only [Timing.inRange, Bool.and_eq_true, decide_eq_true_eq] at ranges
    have read := fields_spell (xs := [(1, t.repeatWindow), (2, t.queryHold), (1, t.answerTime), (2, t.armTime), (1, t.holdTime),
      (1, t.relockDelay), (2, t.doorHeld), (2, t.driveTimeout), (1, t.ocQualify), (1, t.debounce), (1, t.passWindow), (2, t.idleLimit),
      (2, t.highWater)]) (by simp; omega)
    simp [spell] at read
    simp [setupTimingOf, Timing.octets, o1, read, h]
  case policy =>
    have read := fields_spell (xs := [(1, pairCode p.presence), (1, pairCode p.passback), (1, (p.scope.get 0).code),
      (1, (p.ocMode.get 0).code), (1, (p.scope.get 1).code), (1, (p.ocMode.get 1).code), (1, (p.scope.get 2).code),
      (1, (p.ocMode.get 2).code), (1, (p.scope.get 3).code), (1, (p.ocMode.get 3).code), (1, flagCode p.mask.jamOpening),
      (1, flagCode p.mask.jamClosing), (1, flagCode p.mask.overcurrent), (1, flagCode p.mask.positionLost),
      (1, flagCode p.railMask)]) (by simp [*])
    simp [spell] at read
    simp [setupPolicyOf, Policy.octets, o1, pair, flag, List.finRange, read, vector_of_gets]
  case reader =>
    obtain ⟨code, index⟩ := (cfg.readers.get r).code_index_lt
    have read := fields_spell (xs := [(1, address r), (1, (cfg.readers.get r).code), (1, (cfg.readers.get r).index)])
      (by simp [address, *]; omega)
    simp [spell] at read
    simp [setupReaderOf, Setup.readerOctets, o1, read, show readerOf (address r) = some r from readerOf_address r]
  case channel =>
    have read := fields_spell (xs := [(1, c.val), (1, (cfg.channels.get c).kind.code), (2, (cfg.channels.get c).door),
      (1, (cfg.channels.get c).mode.code), (1, pairCode (cfg.channels.get c).contactHigh),
      (1, pairCode (cfg.channels.get c).privacyHigh)]) (by simp [*]; omega)
    simp [spell] at read
    simp [setupChannelOf, Setup.channelOctets, o1, pair, read, h]
  case lane =>
    have read := fields_spell (xs := [(1, l.val), (1, pairCode (cfg.lanes.get l).used), (1, (cfg.lanes.get l).dir.code),
      (1, (cfg.lanes.get l).gate.val)]) (by simp [*]; omega)
    simp [spell] at read
    simp [setupLaneOf, Setup.laneOctets, o1, pair, read]
  case till =>
    have read := fields_spell (xs := [(1, t.val), (1, pairCode (cfg.tills.get t).used), (1, (cfg.tills.get t).cls.code)])
      (by simp [*]; omega)
    simp [spell] at read
    simp [setupTillOf, Setup.tillOctets, o1, pair, read]

end Sys2Proof.Encodings
end

section
/-! The first check of CARD PUT, field by field (R3, R4, R6, R186). -/

namespace Sys2Proof.Machine

variable {body : List Octet} {n : Nat}

theorem fieldAt_drop (i j w : Nat) : fieldAt (body.drop i) j w = fieldAt body (i + j) w := by
  rw [fieldAt, fieldAt, List.drop_drop]

theorem fieldAt_lt (i w : Nat) : fieldAt body i w < 256 ^ w := by
  have bound : ∀ os : List Octet, num os < 256 ^ os.length := by
    intro os
    induction os with
    | nil => simp [num]
    | cons o os ih =>
      rw [num_cons, List.length_cons, pow_succ]
      have := Nat.mul_le_mul_right (256 ^ os.length) (show o.toNat + 1 ≤ 256 from o.isLt)
      rw [Nat.add_mul] at this
      omega
  refine (bound _).trans_le (Nat.pow_le_pow_right (by decide) ?_)
  exact List.length_take_le w _

/-! ## Grants -/

theorem grantOf_eq_some_iff {g : Grant} :
    grantOf body = some g ↔ (∃ n, g = .door n ∧ fieldAt body 0 1 = 0 ∧ fieldAt body 1 2 = n ∧ n ≤ 4095) ∨
      ∃ n, g = .span n ∧ fieldAt body 0 1 = 1 ∧ fieldAt body 1 2 = n ∧ 1 ≤ n ∧ n ≤ 8191 := by
  have read : fields [1, 2] body = [fieldAt body 0 1, fieldAt body 1 2] := rfl
  unfold grantOf
  rw [read]
  split
  · next kind n h =>
    obtain ⟨h₀, rfl⟩ : fieldAt body 0 1 = 0 ∧ fieldAt body 1 2 = n := by simpa using h
    rw [Option.ite_none_right_eq_some, h₀]
    constructor
    · rintro ⟨le, h⟩
      exact .inl ⟨_, (Option.some.inj h).symm, rfl, rfl, le⟩
    · rintro (⟨n, rfl, -, rfl, le⟩ | ⟨n, -, kind, -⟩)
      · exact ⟨le, rfl⟩
      · cases kind
  · next kind n h =>
    obtain ⟨h₀, rfl⟩ : fieldAt body 0 1 = 1 ∧ fieldAt body 1 2 = n := by simpa using h
    rw [Option.ite_none_right_eq_some, h₀, spanValid, Bool.and_eq_true, decide_eq_true_eq, decide_eq_true_eq]
    constructor
    · rintro ⟨within, h⟩
      exact .inr ⟨_, (Option.some.inj h).symm, rfl, rfl, within⟩
    · rintro (⟨n, -, kind, -⟩ | ⟨n, rfl, -, rfl, within⟩)
      · cases kind
      · exact ⟨within, rfl⟩
  · next h₀ h₁ =>
    simp only [reduceCtorEq, false_iff, not_or, not_exists]
    refine ⟨fun n x => ?_, fun n x => ?_⟩
    · obtain ⟨-, kind, -, -⟩ := x
      exact h₀ _ (by rw [kind])
    · obtain ⟨-, kind, -, -⟩ := x
      exact h₁ _ (by rw [kind])

theorem grantsOf_eq_some_iff {count : Nat} {gs : List Grant} :
    grantsOf count body = some gs ↔ gs.length = count ∧ ∀ i g, gs[i]? = some g → grantOf (body.drop (3 * i)) = some g := by
  induction count generalizing body gs with
  | zero =>
    rw [grantsOf, Option.some.injEq]
    constructor
    · rintro rfl
      simp
    · exact fun h => (List.eq_nil_of_length_eq_zero h.1).symm
  | succ count ih =>
    have cut : grantsOf (count + 1) body = some gs ↔
        ∃ g, grantOf body = some g ∧ ∃ rest, grantsOf count (body.drop 3) = some rest ∧ g :: rest = gs := by
      simp [grantsOf, Option.bind_eq_some_iff]
    rw [cut]
    constructor
    · rintro ⟨g, first, rest, others, rfl⟩
      obtain ⟨length, each⟩ := ih.mp others
      refine ⟨by simp [length], fun i h hi => ?_⟩
      cases i with
      | zero =>
        obtain rfl := Option.some.inj hi
        exact first
      | succ i =>
        have := each i h hi
        rwa [List.drop_drop, show 3 + 3 * i = 3 * (i + 1) by omega] at this
    · rintro ⟨length, each⟩
      cases gs with
      | nil => simp at length
      | cons g rest =>
        refine ⟨g, each 0 g rfl, rest, ih.mpr ⟨by simpa using length, fun i h hi => ?_⟩, rfl⟩
        rw [List.drop_drop, show 3 + 3 * i = 3 * (i + 1) by omega]
        exact each (i + 1) h hi

/-! ## Bits -/

theorem threeBits_iff {a b c : Bool} :
    n < 8 ∧ a = n.testBit 0 ∧ b = n.testBit 1 ∧ c = n.testBit 2 ↔
      n = (if a then 1 else 0) + (if b then 2 else 0) + (if c then 4 else 0) := by
  constructor
  · rintro ⟨lt, rfl, rfl, rfl⟩
    interval_cases n <;> rfl
  · rintro rfl
    cases a <;> cases b <;> cases c <;> decide

theorem twoBits_iff {a b : Bool} :
    n < 4 ∧ a = n.testBit 0 ∧ b = n.testBit 1 ↔ n = (if a then 1 else 0) + (if b then 2 else 0) := by
  constructor
  · rintro ⟨lt, rfl, rfl⟩
    interval_cases n <;> rfl
  · rintro rfl
    cases a <;> cases b <;> decide

/-- A time that travels with its flag. -/
theorem flaggedTime_iff {b : Bool} {t : Option ShipTime} (h : n < 2 ^ 32) :
    t = (if b then some (BitVec.ofNat 32 n) else none) ↔ t.isSome = b ∧ ∀ x, t = some x → n = x.toNat := by
  have same (x : ShipTime) : x = BitVec.ofNat 32 n ↔ n = x.toNat := by
    rw [← BitVec.toNat_inj, BitVec.toNat_ofNat, Nat.mod_eq_of_lt h, eq_comm]
  cases b <;> cases t <;> simp [same]

/-! ## Coded values -/

theorem categoryOf_iff {c : Category} : categoryOf n = some c ↔ n = c.code := by
  unfold categoryOf
  split <;> cases c <;> simp_all [Category.code]

theorem cardStatusOf_iff {st : CardStatus} : cardStatusOf n = some st ↔ n = st.code := by
  unfold cardStatusOf
  split <;> cases st <;> simp_all [CardStatus.code]

theorem presenceOf_iff {p : Presence} : presenceOf n = some p ↔ n = p.code := by
  unfold presenceOf
  split <;> cases p <;> simp_all [Presence.code]

theorem slotOf_iff {slot : Option Nat} : slotOf n = some slot ↔ n = 0xFFFF ∧ slot = none ∨ n ≤ 4095 ∧ slot = some n := by
  unfold slotOf
  split
  · next absent => simp [absent, eq_comm]
  · split
    · next absent lt =>
      have : n ≤ 4095 := Nat.le_of_lt_succ lt
      simp [absent, this, eq_comm]
    · next absent ge =>
      have : ¬n ≤ 4095 := fun le => ge (Nat.lt_succ_of_le le)
      simp [absent, this]

theorem cardValid_iff {card : CardNo} : cardValid card = true ↔ card ≠ 0 ∧ card ≠ BitVec.allOnes 56 := by
  simp [cardValid]

theorem windowOk_iff {c : Category} {vf vu : Option ShipTime} :
    windowOk c vf vu = true ↔ (∀ t t', vf = some t → vu = some t' → t ≤ t') ∧ (c = .caller → vu ≠ none) := by
  cases vf <;> cases vu <;> cases c <;> simp [windowOk]

/-! ## The block -/

theorem fields_cardBlock : fields [7, 1, 1, 2, 1, 1, 4, 4, 1, 1] body =
    [fieldAt body 0 7, fieldAt body 7 1, fieldAt body 8 1, fieldAt body 9 2, fieldAt body 11 1, fieldAt body 12 1,
      fieldAt body 13 4, fieldAt body 17 4, fieldAt body 21 1, fieldAt body 22 1] := by
  simp [fields, fieldAt, List.drop_drop]

/-- The conditions that a body and the entry it gives satisfy, over the category of the entry's holder. -/
structure BlockGives (body : List Octet) (p : CardPut) (c : Category) : Prop where
  card : p.card = BitVec.ofNat 56 (fieldAt body 0 7)
  valid : cardValid p.card = true
  category : categoryOf (fieldAt body 7 1) = some c
  holder : p.entry.holder = holderOf c
  status : cardStatusOf (fieldAt body 8 1) = some p.entry.status
  slot : slotOf (fieldAt body 9 2) = some p.entry.folio
  privileges : fieldAt body 11 1 < 8 ∧ p.entry.mayCharge = (fieldAt body 11 1).testBit 0 ∧
    p.entry.adult = (fieldAt body 11 1).testBit 1 ∧ p.entry.officer = (fieldAt body 11 1).testBit 2
  validityFlags : fieldAt body 12 1 < 4
  validFrom : p.entry.validFrom = if (fieldAt body 12 1).testBit 0 then some (BitVec.ofNat 32 (fieldAt body 13 4)) else none
  validUntil : p.entry.validUntil = if (fieldAt body 12 1).testBit 1 then some (BitVec.ofNat 32 (fieldAt body 17 4)) else none
  window : windowOk c p.entry.validFrom p.entry.validUntil = true
  presence : presenceOf (fieldAt body 21 1) = some p.entry.presence
  count : fieldAt body 22 1 ≤ 3 ∧ body.length = 23 + 3 * fieldAt body 22 1
  grants : grantsOf (fieldAt body 22 1) (body.drop 23) = some p.entry.grants
  fresh : p.entry.engaged = none ∧ p.entry.lastSeen = 0

theorem cardPutOf_eq_some_iff {p : CardPut} : cardPutOf body = some p ↔ ∃ c, BlockGives body p c := by
  unfold cardPutOf
  rw [fields_cardBlock]
  simp only [Option.bind_eq_bind, Option.bind_eq_some_iff]
  constructor
  · rintro ⟨c, category, st, status, pr, presence, slot, slotIs, h⟩
    split at h
    · cases h
    · next bounds =>
      obtain ⟨few, length, privileges, flags⟩ : fieldAt body 22 1 ≤ 3 ∧ body.length = 23 + 3 * fieldAt body 22 1 ∧
          fieldAt body 11 1 < 8 ∧ fieldAt body 12 1 < 4 := by simpa only [not_or, not_not, Nat.not_lt, Nat.not_le] using bounds
      obtain ⟨gs, grants, h⟩ := Option.bind_eq_some_iff.mp h
      obtain ⟨checks, h⟩ := Option.ite_none_right_eq_some.mp h
      obtain ⟨valid, window⟩ := Bool.and_eq_true_iff.mp checks
      obtain rfl := Option.some.inj h
      exact ⟨c, ⟨rfl, valid, category, rfl, status, slotIs, ⟨privileges, rfl, rfl, rfl⟩, flags, rfl, rfl, window, presence,
        ⟨few, length⟩, grants, rfl, rfl⟩⟩
  · rintro ⟨c, h⟩
    refine ⟨c, h.category, _, h.status, _, h.presence, _, h.slot, ?_⟩
    obtain ⟨card, valid, -, holder, -, -, ⟨privileges, mayCharge, adult, officer⟩, flags, validFrom, validUntil, window, -,
      ⟨few, length⟩, grants, engaged, lastSeen⟩ := h
    rw [if_neg (by simp only [not_or, not_not, Nat.not_lt, Nat.not_le]; exact ⟨few, length, privileges, flags⟩), grants,
      Option.bind_some, ← card, ← validFrom, ← validUntil, ← holder, ← mayCharge, ← adult, ← officer, valid, window]
    have whole : { p.entry with engaged := none, lastSeen := 0 } = p.entry := by rw [← engaged, ← lastSeen]
    exact congrArg (fun e => some (CardPut.mk p.card e)) whole

/-! ## The ways of a bucket -/

variable {cards : List (Nat × Entry)} {card : CardNo} {i : Nat}

theorem freeWay_eq_none_iff : freeWay cards card = none ↔ ∀ j, j / 4 = bucket card → tget cards j ≠ none := by
  rw [freeWay, List.find?_eq_none]
  simp only [mem_wayIndexes, Config.ways, Option.isNone_iff_eq_none, ne_eq]

theorem wayIndexes_sorted (card : CardNo) : (wayIndexes card).Pairwise (· < ·) := by
  simp [wayIndexes]

/-- The first element of a rising list that satisfies a condition is the least that does. -/
theorem find?_eq_some_iff_least {xs : List Nat} {p : Nat → Bool} (rising : xs.Pairwise (· < ·)) :
    xs.find? p = some i ↔ i ∈ xs ∧ p i = true ∧ ∀ j ∈ xs, j < i → p j = false := by
  induction xs with
  | nil => simp
  | cons x xs ih =>
    obtain ⟨least, rising⟩ := List.pairwise_cons.mp rising
    rw [List.find?_cons]
    cases hx : p x with
    | true =>
      simp only [Option.some.injEq]
      constructor
      · rintro rfl
        refine ⟨List.mem_cons_self, hx, fun j hj lt => ?_⟩
        obtain rfl | hj := List.mem_cons.mp hj
        · exact absurd lt (Nat.lt_irrefl _)
        · exact absurd (least j hj) (Nat.lt_asymm lt)
      · rintro ⟨hi, -, first⟩
        obtain rfl | hi := List.mem_cons.mp hi
        · rfl
        · exact absurd (first x List.mem_cons_self (least i hi)) (by simp [hx])
    | false =>
      simp only [ih rising, List.mem_cons, forall_eq_or_imp, hx, implies_true, true_and]
      constructor
      · exact fun ⟨hi, hp, first⟩ => ⟨.inr hi, hp, first⟩
      · rintro ⟨rfl | hi, hp, first⟩
        · simp [hx] at hp
        · exact ⟨hi, hp, first⟩

theorem freeWay_eq_some_iff : freeWay cards card = some i ↔
    i / 4 = bucket card ∧ tget cards i = none ∧ ∀ j, j / 4 = bucket card → j < i → tget cards j ≠ none := by
  rw [freeWay, find?_eq_some_iff_least (wayIndexes_sorted card)]
  simp only [mem_wayIndexes, Config.ways, Option.isNone_iff_eq_none, Option.isNone_eq_false_iff, Option.isSome_iff_ne_none]

/-- A candidate for displacement: an ASHORE, unengaged CALLER. -/
theorem displaceable_eq_some_iff {x : Nat × Known} :
    displaceable cards i = some x ↔ x.1 = i ∧ ∃ d idle rep, tget cards i = some ⟨d, .known x.2⟩ ∧ x.2.holder = .caller idle rep ∧
      x.2.presence = .ashore ∧ x.2.engaged = none := by
  obtain ⟨j, k'⟩ := x
  unfold displaceable
  split
  · next d k found =>
    rw [found]
    split
    · next idle rep caller =>
      rw [Option.ite_none_right_eq_some]
      constructor
      · rintro ⟨free, h⟩
        obtain ⟨rfl, rfl⟩ := Prod.mk.inj (Option.some.inj h)
        exact ⟨rfl, d, idle, rep, rfl, caller, free⟩
      · rintro ⟨rfl, d', idle', rep', same, -, free⟩
        obtain ⟨-, rfl⟩ : d = d' ∧ k = k' := by simpa using same
        exact ⟨free, rfl⟩
    · next other =>
      simp only [reduceCtorEq, false_iff]
      rintro ⟨-, d', idle', rep', same, caller, -⟩
      obtain ⟨-, rfl⟩ : d = d' ∧ k = k' := by simpa using same
      exact other _ _ caller
  · next absent =>
    simp only [reduceCtorEq, false_iff]
    rintro ⟨-, d', idle', rep', found, -⟩
    exact absent _ _ found

theorem earliest_eq_none_iff {xs : List (Nat × Known)} : earliest xs = none ↔ xs = [] := by
  cases xs with
  | nil => simp [earliest]
  | cons x xs =>
    rw [earliest]
    split
    · simp
    · split <;> simp

/-- Of candidates in rising positions, the earliest is seen before those that precede it and not after those that follow. -/
theorem earliest_spec {xs : List (Nat × Known)} {x : Nat × Known} (rising : xs.Pairwise (fun a b => a.1 < b.1))
    (h : earliest xs = some x) : ∀ y ∈ xs, x.2.lastSeen ≤ y.2.lastSeen ∧ (y.2.lastSeen = x.2.lastSeen → x.1 ≤ y.1) := by
  induction xs generalizing x with
  | nil => simp [earliest] at h
  | cons z zs ih =>
    obtain ⟨least, rising⟩ := List.pairwise_cons.mp rising
    unfold earliest at h
    split at h
    · next none =>
      obtain rfl := Option.some.inj h
      obtain rfl := earliest_eq_none_iff.mp none
      intro y hy
      obtain rfl := List.mem_singleton.mp hy
      exact ⟨BitVec.le_refl _, fun _ => Nat.le_refl _⟩
    · next y hy =>
      split at h
      · next before =>
        obtain rfl := Option.some.inj h
        have before : y.2.lastSeen < z.2.lastSeen := by simpa [seenBefore] using before
        refine List.forall_mem_cons.mpr ⟨⟨by bv_omega, fun same => ?_⟩, ih rising hy⟩
        rw [same] at before
        exact absurd before (BitVec.lt_irrefl _)
      · next notBefore =>
        obtain rfl := Option.some.inj h
        have notBefore : z.2.lastSeen ≤ y.2.lastSeen := by simpa [seenBefore] using notBefore
        refine List.forall_mem_cons.mpr ⟨⟨BitVec.le_refl _, fun _ => Nat.le_refl _⟩, fun w hw => ⟨?_, fun _ => (least w hw).le⟩⟩
        exact BitVec.le_trans notBefore (ih rising hy w hw).1

/-- The candidates of a bucket, in the order of their positions. -/
def candidates (cards : List (Nat × Entry)) (card : CardNo) : List (Nat × Known) :=
  (wayIndexes card).filterMap (displaceable cards)

theorem mem_candidates {x : Nat × Known} : x ∈ candidates cards card ↔ x.1 / 4 = bucket card ∧
    ∃ d idle rep, tget cards x.1 = some ⟨d, .known x.2⟩ ∧ x.2.holder = .caller idle rep ∧ x.2.presence = .ashore ∧
      x.2.engaged = none := by
  simp only [candidates, List.mem_filterMap, displaceable_eq_some_iff, mem_wayIndexes, Config.ways]
  constructor
  · rintro ⟨i, way, rfl, entry⟩
    exact ⟨way, entry⟩
  · exact fun ⟨way, entry⟩ => ⟨_, way, rfl, entry⟩

theorem candidates_rising : (candidates cards card).Pairwise (fun a b => a.1 < b.1) := by
  refine List.pairwise_filterMap.mpr ((wayIndexes_sorted card).imp fun {i j} lt x hx y hy => ?_)
  rwa [(displaceable_eq_some_iff.mp hx).1, (displaceable_eq_some_iff.mp hy).1]

theorem displacedWay_eq_none_iff : displacedWay cards card = none ↔ candidates cards card = [] := by
  rw [displacedWay, Option.map_eq_none_iff, earliest_eq_none_iff, candidates]

end Sys2Proof.Machine

namespace Sys2Proof.Requests
open Sys2Proof.Machine

/-- Settles O26: the fields of a block one by one; the ways of a bucket in their order. -/
theorem aBodyPutsACardInItsBucket : Obligations.ABodyPutsACardInItsBucket := by
  refine ⟨fun body p size => cardPutOf_eq_some_iff.trans ?block, fun cards card => ⟨fun i => freeWay_eq_some_iff, freeWay_eq_none_iff⟩,
    fun cards card i displaced => ?displaced, fun cards card => displacedWay_eq_none_iff.trans ?none⟩
  case block =>
    have from32 : fieldAt body 13 4 < 2 ^ 32 := fieldAt_lt 13 4
    have until32 : fieldAt body 17 4 < 2 ^ 32 := fieldAt_lt 17 4
    constructor
    · rintro ⟨c, h⟩
      obtain ⟨fromFlag, fromTime⟩ := (flaggedTime_iff from32).mp h.validFrom
      obtain ⟨untilFlag, untilTime⟩ := (flaggedTime_iff until32).mp h.validUntil
      obtain ⟨length, each⟩ := grantsOf_eq_some_iff.mp h.grants
      obtain ⟨order, callers⟩ := windowOk_iff.mp h.window
      obtain ⟨notZero, notOnes⟩ := cardValid_iff.mp h.valid
      refine ⟨h.card, notZero, notOnes, ?category, ?status, slotOf_iff.mp h.slot, threeBits_iff.mp h.privileges,
        twoBits_iff.mp ⟨h.validityFlags, fromFlag, untilFlag⟩, fromTime, untilTime, order, ?presence, length.symm,
        length ▸ h.count.2, fun i g hi => ?grant, h.fresh⟩
      case category =>
        have kind := categoryOf_iff.mp h.category
        cases c with
        | guest => exact .inl ⟨kind, h.holder⟩
        | crew => exact .inr (.inl ⟨kind, h.holder⟩)
        | caller => exact .inr (.inr ⟨kind, h.holder, callers rfl⟩)
      case status =>
        have code := cardStatusOf_iff.mp h.status
        generalize p.entry.status = st at code
        cases st <;> simp [code, CardStatus.code]
      case presence =>
        have code := presenceOf_iff.mp h.presence
        generalize p.entry.presence = presence at code
        cases presence <;> simp [code, Presence.code]
      case grant =>
        have grant := grantOf_eq_some_iff.mp (each i g hi)
        simp only [List.drop_drop, fieldAt_drop] at grant
        rwa [Nat.add_zero, show 23 + 3 * i + 1 = 24 + 3 * i by omega] at grant
    · rintro ⟨card, notZero, notOnes, category, status, slot, privileges, flags, fromTime, untilTime, order, presence, count,
        length, each, fresh⟩
      obtain ⟨flagBound, fromFlag, untilFlag⟩ := twoBits_iff.mpr flags
      obtain ⟨c, kind, holder, callers⟩ : ∃ c, categoryOf (fieldAt body 7 1) = some c ∧ p.entry.holder = holderOf c ∧
          (c = .caller → p.entry.validUntil ≠ none) := by
        obtain ⟨kind, holder⟩ | ⟨kind, holder⟩ | ⟨kind, holder, until_⟩ := category
        · exact ⟨.guest, categoryOf_iff.mpr kind, holder, by simp⟩
        · exact ⟨.crew, categoryOf_iff.mpr kind, holder, by simp⟩
        · exact ⟨.caller, categoryOf_iff.mpr kind, holder, fun _ => until_⟩
      refine ⟨c, ⟨card, cardValid_iff.mpr ⟨notZero, notOnes⟩, kind, holder, ?_, slotOf_iff.mpr slot, threeBits_iff.mpr privileges,
        flagBound, (flaggedTime_iff from32).mpr ⟨fromFlag, fromTime⟩, (flaggedTime_iff until32).mpr ⟨untilFlag, untilTime⟩,
        windowOk_iff.mpr ⟨order, callers⟩, ?_, ⟨by omega, by omega⟩, grantsOf_eq_some_iff.mpr ⟨count.symm, fun i g hi => ?grant⟩,
        fresh⟩⟩
      · obtain ⟨code, is⟩ | ⟨code, is⟩ | ⟨code, is⟩ := status <;> rw [is] <;> exact cardStatusOf_iff.mpr code
      · obtain ⟨code, is⟩ | ⟨code, is⟩ := presence <;> rw [is] <;> exact presenceOf_iff.mpr code
      case grant =>
        refine grantOf_eq_some_iff.mpr ?_
        have grant := each i g hi
        simp only [List.drop_drop, fieldAt_drop]
        rwa [Nat.add_zero, show 23 + 3 * i + 1 = 24 + 3 * i by omega]
  case displaced =>
    obtain ⟨⟨j, k⟩, first, rfl⟩ := Option.map_eq_some_iff.mp displaced
    obtain ⟨way, d, idle, rep, entry, caller, ashore, free⟩ := mem_candidates.mp (earliest_mem first)
    refine ⟨way, d, k, idle, rep, entry, caller, ashore, free, fun j' d' k' idle' rep' way' entry' caller' ashore' free' => ?_⟩
    exact earliest_spec candidates_rising first (j', k')
      (mem_candidates.mpr ⟨way', d', idle', rep', entry', caller', ashore', free'⟩)
  case none =>
    rw [List.eq_nil_iff_forall_not_mem]
    constructor
    · exact fun none j d k idle rep way entry caller ashore free =>
        none (j, k) (mem_candidates.mpr ⟨way, d, idle, rep, entry, caller, ashore, free⟩)
    · intro none x hx
      obtain ⟨way, d, idle, rep, entry, caller, ashore, free⟩ := mem_candidates.mp hx
      exact none _ d _ idle rep way entry caller ashore free

end Sys2Proof.Requests
end

section
/-! How far an operation of the zone reaches: the channels it is made for, the arbiter of their group, and the lanes of those
channels (R50, R54, R55, R61 to R65, R73). -/

namespace Sys2Proof.Machine

variable {cfg : Setup} {c d e : Chan} {g : Grp} {z z₁ z₂ z₃ z' : Zone} {st : ChanState} {a : Hold} {S T : Chan → Prop}

/-- The marker and the inputs of a channel, which no state clears. -/
structure Channel.SameInputs (ch ch' : Channel) : Prop where
  release : ch'.release = ch.release
  home : ch'.home = ch.home
  withdrawn : ch'.withdrawn = ch.withdrawn
  contact : ch'.contact = ch.contact

/-- What operations of the channels `S` of group `g` leave of a zone. -/
structure Zone.Within (cfg : Setup) (S : Chan → Prop) (g : Grp) (z z' : Zone) : Prop where
  channels : ∀ d, ¬S d → z'.channels.get d = z.channels.get d
  inputs : ∀ d, (z.channels.get d).SameInputs (z'.channels.get d)
  groups : ∀ k, k ≠ g → z'.groups.get k = z.groups.get k
  inhibited : (z'.groups.get g).inhibited = (z.groups.get g).inhibited
  queue : ∀ d, d ∈ (z'.groups.get g).queue → ¬S d → d ∈ (z.groups.get g).queue
  slots : ∀ d, ¬S d → ((z'.groups.get g).slot0 = some d ↔ (z.groups.get g).slot0 = some d) ∧
    ((z'.groups.get g).slot1 = some d ↔ (z.groups.get g).slot1 = some d)
  lanes : ∀ l, (∀ d, S d → z.laneOf cfg d ≠ some l) → z'.lanes.get l = z.lanes.get l
  laneOf : ∀ d, z'.laneOf cfg d = z.laneOf cfg d

theorem Channel.SameInputs.refl (ch : Channel) : ch.SameInputs ch := ⟨rfl, rfl, rfl, rfl⟩

theorem Channel.SameInputs.trans {x y w : Channel} (h : x.SameInputs y) (k : y.SameInputs w) : x.SameInputs w :=
  ⟨k.release.trans h.release, k.home.trans h.home, k.withdrawn.trans h.withdrawn, k.contact.trans h.contact⟩

theorem Zone.Within.refl (z : Zone) : z.Within cfg S g z :=
  ⟨fun _ _ => rfl, fun _ => .refl _, fun _ _ => rfl, rfl, fun _ h _ => h, fun _ _ => ⟨Iff.rfl, Iff.rfl⟩, fun _ _ => rfl, fun _ => rfl⟩

theorem Zone.Within.trans (h : z₁.Within cfg S g z₂) (k : z₂.Within cfg S g z₃) : z₁.Within cfg S g z₃ where
  channels d hd := (k.channels d hd).trans (h.channels d hd)
  inputs d := (h.inputs d).trans (k.inputs d)
  groups j hj := (k.groups j hj).trans (h.groups j hj)
  inhibited := k.inhibited.trans h.inhibited
  queue d hq hd := h.queue d (k.queue d hq hd) hd
  slots d hd := ⟨(k.slots d hd).1.trans (h.slots d hd).1, (k.slots d hd).2.trans (h.slots d hd).2⟩
  lanes l hl := (k.lanes l fun d hd => by rw [h.laneOf]; exact hl d hd).trans (h.lanes l hl)
  laneOf d := (k.laneOf d).trans (h.laneOf d)

theorem Zone.Within.mono (h : z.Within cfg S g z') (sub : ∀ d, S d → T d) : z.Within cfg T g z' where
  channels d hd := h.channels d fun x => hd (sub d x)
  inputs := h.inputs
  groups := h.groups
  inhibited := h.inhibited
  queue d hq hd := h.queue d hq fun x => hd (sub d x)
  slots d hd := h.slots d fun x => hd (sub d x)
  lanes l hl := h.lanes l fun d hd => hl d (sub d hd)
  laneOf := h.laneOf

/-- The lane that names a gate depends on the lanes' fitness alone. -/
theorem Zone.laneOf_congr (h : ∀ l, (z'.lanes.get l).unfit = (z.lanes.get l).unfit) (d : Chan) : z'.laneOf cfg d = z.laneOf cfg d := by
  simp only [Zone.laneOf, Zone.laneUsed, h]

/-! ## One channel -/

/-- The operations of channel `c` alone. -/
abbrev Zone.By (cfg : Setup) (c : Chan) (z z' : Zone) : Prop := z.Within cfg (· = c) (groupOf c) z'

theorem Zone.By.andThen (h : z₁.By cfg c z₂) (k : z₂.By cfg c z₃) : z₁.By cfg c z₃ := h.trans k

theorem Zone.By.setChan {f : Channel → Channel} (h : (z.channels.get c).SameInputs (f (z.channels.get c))) :
    z.By cfg c (z.setChan c f) where
  channels d hd := Zone.setChan_get_other _ _ _ _ hd
  inputs d := by
    by_cases e : d = c
    · subst e; rwa [Zone.setChan_get_self]
    · rw [Zone.setChan_get_other _ _ _ _ e]; exact .refl _
  groups _ _ := rfl
  inhibited := rfl
  queue _ h _ := h
  slots _ _ := ⟨Iff.rfl, Iff.rfl⟩
  lanes _ _ := rfl
  laneOf _ := rfl

theorem Zone.By.enter : z.By cfg c (z.enter cfg c st) := .setChan ⟨rfl, rfl, rfl, rfl⟩

/-- A change of the arbiter that concerns channel `c` alone. -/
theorem Zone.By.setGroup {f : Group → Group} (inhibited : (f (z.groups.get (groupOf c))).inhibited = (z.groups.get (groupOf c)).inhibited)
    (queue : ∀ d, d ∈ (f (z.groups.get (groupOf c))).queue → d ≠ c → d ∈ (z.groups.get (groupOf c)).queue)
    (slots : ∀ d, d ≠ c → ((f (z.groups.get (groupOf c))).slot0 = some d ↔ (z.groups.get (groupOf c)).slot0 = some d) ∧
      ((f (z.groups.get (groupOf c))).slot1 = some d ↔ (z.groups.get (groupOf c)).slot1 = some d)) :
    z.By cfg c (z.setGroup (groupOf c) f) where
  channels _ _ := rfl
  inputs _ := .refl _
  groups _ hk := Zone.setGroup_get_other _ _ _ _ hk
  inhibited := by rw [Zone.setGroup_get_self, inhibited]
  queue d hq hd := by rw [Zone.setGroup_get_self] at hq; exact queue d hq hd
  slots d hd := by rw [Zone.setGroup_get_self]; exact slots d hd
  lanes _ _ := rfl
  laneOf _ := rfl

theorem Group.leave_slot_iff {x : Group} (h : d ≠ c) :
    ((x.leave c).slot0 = some d ↔ x.slot0 = some d) ∧ ((x.leave c).slot1 = some d ↔ x.slot1 = some d) := by
  unfold Group.leave
  refine ⟨?_, ?_⟩
  · dsimp only
    split
    · next held => simp [held, Ne.symm h]
    · rfl
  · dsimp only
    split
    · next held => simp [held, Ne.symm h]
    · rfl

theorem Zone.By.leave : z.By cfg c (z.leave c) :=
  .setGroup rfl (fun _ hd _ => List.mem_of_mem_filter hd) fun _ hd => Group.leave_slot_iff hd

theorem Zone.By.request : z.By cfg c (z.setGroup (groupOf c) (fun g => { g with queue := g.queue ++ [c] })) :=
  .setGroup rfl (fun d hq hd => (List.mem_append.mp hq).resolve_right (by simpa using hd)) fun _ _ => ⟨Iff.rfl, Iff.rfl⟩

theorem Zone.By.waitOpen : z.By cfg c (z.waitOpen cfg c a) := by
  rcases Zone.waitOpen_cases cfg c a z with ⟨-, e⟩ | ⟨-, e⟩ <;> rw [e]
  · exact .enter
  · exact Zone.By.enter.andThen .request

theorem Zone.By.waitClose : z.By cfg c (z.waitClose cfg c) := by
  rcases Zone.waitClose_cases cfg c z with ⟨-, e⟩ | ⟨-, e⟩ <;> rw [e]
  · exact .enter
  · exact Zone.By.enter.andThen .request

theorem Zone.By.relock : z.By cfg c (z.relock cfg c) := by
  unfold Zone.relock
  split
  · exact .waitClose
  · exact .enter

theorem Zone.By.setLane {l : LaneNo} {f : Lane → Lane} (named : z.laneOf cfg c = some l)
    (unfit : (f (z.lanes.get l)).unfit = (z.lanes.get l).unfit) : z.By cfg c (z.setLane l f) where
  channels _ _ := rfl
  inputs _ := .refl _
  groups _ _ := rfl
  inhibited := rfl
  queue _ h _ := h
  slots _ _ := ⟨Iff.rfl, Iff.rfl⟩
  lanes k hk := Zone.setLane_get_other _ _ _ _ fun e => hk c rfl (e ▸ named)
  laneOf := Zone.laneOf_congr fun k => by
    by_cases e : k = l
    · subst e; rw [Zone.setLane_get_self, unfit]
    · rw [Zone.setLane_get_other _ _ _ _ e]

theorem Zone.By.gateWithdrawn {l : LaneNo} (named : z.laneOf cfg c = some l) : z.By cfg c (z.gateWithdrawn cfg c l) := by
  unfold Zone.gateWithdrawn
  split
  · exact .setLane named rfl
  · exact .setLane named rfl
  · exact .refl z
  · split
    · exact .refl z
    · exact .relock
  · split
    · exact .refl z
    · exact .relock

theorem Zone.By.hold : z.By cfg c (z.hold cfg c a) := by
  unfold Zone.hold
  split
  · dsimp only
    split
    · next l named => exact Zone.By.enter.andThen (.gateWithdrawn named)
    · exact .enter
  · exact .relock
  · exact .enter
  · split
    · exact .enter
    · exact .relock

theorem Zone.By.endDrive : z.By cfg c (z.endDrive cfg c) := by
  unfold Zone.endDrive
  split
  · dsimp only
    split
    · exact Zone.By.leave.andThen .enter
    · exact Zone.By.leave.andThen .hold
  · exact Zone.By.leave.andThen .enter
  · exact .refl z

theorem Zone.By.begin : z.By cfg c (z.setChan c (·.begin cfg c st)) := .setChan ⟨rfl, rfl, rfl, rfl⟩

theorem Zone.By.drive : z.By cfg c (z.drive cfg c st) := by
  rcases z.drive_cases cfg c st with e | e <;> rw [e]
  · exact .begin
  · exact Zone.By.begin.andThen .endDrive

/-! ## The arbiter -/

theorem Group.take_slot_iff {x : Group} (room : (x.slot0.isNone || x.slot1.isNone) = true) (h : d ≠ c) :
    ((x.take c).slot0 = some d ↔ x.slot0 = some d) ∧ ((x.take c).slot1 = some d ↔ x.slot1 = some d) := by
  unfold Group.take
  split
  · next free =>
    have free := Option.isNone_iff_eq_none.mp free
    simp [free, Ne.symm h]
  · next held =>
    have free : x.slot1 = none := by simpa [held] using room
    simp [free, Ne.symm h]

theorem Zone.By.granted {rest : List Chan} (here : groupOf c = g) (hq : (z.groups.get g).queue = c :: rest)
    (room : ((z.groups.get g).slot0.isNone || (z.groups.get g).slot1.isNone) = true) :
    z.By cfg c (z.setGroup g (fun x => { x with queue := rest }.take c)) := by
  subst here
  refine .setGroup ?_ (fun d hd _ => ?_) fun d hd => Group.take_slot_iff (x := { z.groups.get (groupOf c) with queue := rest }) room hd
  · unfold Group.take
    split <;> rfl
  · rw [Group.take_queue] at hd
    exact hq ▸ List.mem_cons_of_mem _ hd

/-- One grant reaches the head of the queue. -/
theorem Zone.grant_within (own : ∀ d ∈ (z.groups.get g).queue, groupOf d = g) :
    z.Within cfg (· ∈ (z.groups.get g).queue) g (z.grant cfg g) := by
  rcases z.grant_cases cfg g with e | ⟨c, rest, st, hq, room, -, -, e⟩ <;> rw [e]
  · exact .refl z
  · have here : groupOf c = g := own c (by simp [hq])
    have by_c : z.By cfg c ((z.setGroup g (fun x => { x with queue := rest }.take c)).drive cfg c st) :=
      (Zone.By.granted here hq room).andThen .drive
    unfold Zone.By at by_c
    rw [here] at by_c
    exact by_c.mono fun d hd => by simp [hq, hd]

/-- No grant lengthens the queue by another channel. -/
theorem Zone.Within.queue_sub {S : Chan → Prop} (h : z.Within cfg S g z') (sub : ∀ d, S d → d ∈ (z.groups.get g).queue) :
    ∀ d ∈ (z'.groups.get g).queue, d ∈ (z.groups.get g).queue := by
  intro d hd
  by_cases hs : S d
  · exact sub d hs
  · exact h.queue d hd hs

theorem Zone.grants_within (n : Nat) (own : ∀ d ∈ (z.groups.get g).queue, groupOf d = g) :
    z.Within cfg (· ∈ (z.groups.get g).queue) g (z.grants cfg g n) := by
  induction n generalizing z with
  | zero => exact .refl z
  | succ n ih =>
    have first := Zone.grant_within (cfg := cfg) own
    have sub := first.queue_sub fun _ hd => hd
    exact first.trans ((ih fun d hd => own d (sub d hd)).mono sub)

theorem Zone.settle_within (own : ∀ d ∈ (z.groups.get (groupOf c)).queue, groupOf d = groupOf c) :
    z.Within cfg (· ∈ (z.groups.get (groupOf c)).queue) (groupOf c) (z.settle cfg c) := Zone.grants_within 32 own

/-- The channel, and those that wait in its group. -/
def Zone.near (c : Chan) (z : Zone) (d : Chan) : Prop := d = c ∨ d ∈ (z.groups.get (groupOf c)).queue

theorem Zone.near.own (h : z.orderly) : z.near c d → groupOf d = groupOf c := by
  rintro (rfl | hd)
  · rfl
  · exact (h.2.1 _ d hd).1

/-- An operation of one channel, and what its arbiter settles then. -/
theorem Zone.By.settled (h : z.orderly) (op : z.By cfg c z') : z.Within cfg (z.near c) (groupOf c) (z'.settle cfg c) := by
  have near : ∀ d ∈ (z'.groups.get (groupOf c)).queue, z.near c d := by
    intro d hd
    by_cases e : d = c
    · exact .inl e
    · exact .inr (op.queue d hd e)
  exact (op.mono fun d hd => .inl hd).trans ((Zone.settle_within fun d hd => (near d hd).own h).mono near)

/-! ## Around a channel -/

/-- The reach of an operation, from a zone in which only the channel's own record was changed before. -/
theorem Zone.Within.around (h : z₁.Within cfg (z₁.near c) (groupOf c) z') (channels : ∀ d, d ≠ c → z₁.channels.get d = z.channels.get d)
    (groups : z₁.groups = z.groups) (lanes : z₁.lanes = z.lanes) : z.changesAround cfg c z' := by
  have near : ∀ d, z₁.near c d ↔ d ∈ c :: (z.groups.get (groupOf c)).queue := by
    intro d
    rw [Zone.near, groups, List.mem_cons]
  have laneOf : ∀ d, z₁.laneOf cfg d = z.laneOf cfg d := Zone.laneOf_congr fun l => by rw [lanes]
  refine ⟨fun d hd => ?_, fun k hk => by rw [h.groups k hk, groups], fun l hl => ?_⟩
  · rw [h.channels d fun x => hd ((near d).mp x)]
    exact channels d fun e => hd (e ▸ List.mem_cons_self)
  · rw [h.lanes l fun d hd => by rw [laneOf]; exact hl d ((near d).mp hd), lanes]

theorem Zone.Within.around_self (h : z.Within cfg (z.near c) (groupOf c) z') : z.changesAround cfg c z' :=
  h.around (fun _ _ => rfl) rfl rfl

theorem Zone.By.near (h : z.By cfg c z') : z.Within cfg (z.near c) (groupOf c) z' := h.mono fun _ hd => .inl hd

/-- A reach after a change of the channel's own record. -/
theorem Zone.Within.around_setChan {f : Channel → Channel}
    (h : (z.setChan c f).Within cfg ((z.setChan c f).near c) (groupOf c) z') : z.changesAround cfg c z' :=
  h.around (fun _ hd => Zone.setChan_get_other _ _ _ _ hd) rfl rfl

theorem Zone.orderly.setChan {f : Channel → Channel} (h : z.orderly) (hs : (f (z.channels.get c)).state = (z.channels.get c).state) :
    (z.setChan c f).orderly := by
  have state : ∀ d, ((z.setChan c f).channels.get d).state = (z.channels.get d).state := by
    intro d
    by_cases e : d = c
    · subst e; rw [Zone.setChan_get_self, hs]
    · rw [Zone.setChan_get_other _ _ _ _ e]
  obtain ⟨nodup, waits, slots⟩ := h
  exact ⟨nodup, fun g d hd => by rw [state]; exact waits g d hd, fun d hd => slots d (by rwa [state] at hd)⟩

theorem Zone.openClaim_within (h : z.orderly) : z.Within cfg (z.near c) (groupOf c) (z.openClaim cfg c) := by
  unfold Zone.openClaim
  split
  · exact Zone.By.waitOpen.settled h
  · exact Zone.By.enter.near
  · exact Zone.By.enter.near
  · exact Zone.By.hold.settled h
  · exact (Zone.By.leave.andThen .hold).settled h
  · exact Zone.By.drive.settled h
  · split
    · exact Zone.By.waitOpen.settled h
    · exact .refl z
  · exact .refl z
  · exact .refl z
  · exact .refl z

theorem Zone.relockClaim_within (h : z.orderly) : z.Within cfg (z.near c) (groupOf c) (z.relockClaim cfg c) := by
  unfold Zone.relockClaim
  dsimp only
  split
  · exact .refl z
  · split
    · exact .refl z
    · exact Zone.By.relock.settled h
    · split
      · exact (Zone.By.leave.andThen .enter).near
      · exact Zone.By.enter.near
    · exact Zone.By.drive.settled h
    · exact Zone.By.enter.near
    all_goals exact .refl z

theorem Zone.releaseClaim_within (h : z.orderly) (used : cfg.inUse c = true) :
    (z.setChan c (fun ch => { ch with release := true })).Within cfg
      ((z.setChan c (fun ch => { ch with release := true })).near c) (groupOf c) (z.releaseClaim cfg c) := by
  have h₁ := h.setChan (c := c) (f := fun ch => { ch with release := true }) rfl
  unfold Zone.releaseClaim
  rw [if_pos used]
  dsimp only
  split
  · exact Zone.By.waitOpen.settled h₁
  · split
    · exact Zone.By.enter.near
    · exact Zone.By.waitOpen.settled h₁
  · exact (Zone.By.leave.andThen .enter).near
  · exact Zone.By.drive.settled h₁
  · exact Zone.By.waitOpen.settled h₁
  · exact Zone.By.enter.near
  all_goals exact .refl _

theorem Zone.releaseClaim_around (h : z.orderly) : z.changesAround cfg c (z.releaseClaim cfg c) := by
  by_cases used : cfg.inUse c = true
  · exact (Zone.releaseClaim_within h used).around_setChan
  · have same : z.releaseClaim cfg c = z := if_neg used
    rw [same]
    exact (Zone.Within.refl z).around_self

theorem Zone.endRelease_within (h : z.orderly) (used : cfg.inUse c = true) :
    (z.setChan c (fun ch => { ch with release := false })).Within cfg
      ((z.setChan c (fun ch => { ch with release := false })).near c) (groupOf c) (z.endRelease cfg c) := by
  have h₁ := h.setChan (c := c) (f := fun ch => { ch with release := false }) rfl
  unfold Zone.endRelease
  rw [if_pos used]
  dsimp only
  split
  · exact Zone.By.hold.settled h₁
  · exact Zone.By.enter.near
  · exact Zone.By.enter.near
  · exact .refl _

theorem Zone.endRelease_around (h : z.orderly) : z.changesAround cfg c (z.endRelease cfg c) := by
  by_cases used : cfg.inUse c = true
  · exact (Zone.endRelease_within h used).around_setChan
  · have same : z.endRelease cfg c = z := if_neg used
    rw [same]
    exact (Zone.Within.refl z).around_self

theorem Zone.doorOpens_around (h : z.orderly) : z.changesAround cfg c (z.doorOpens cfg c) := by
  refine Zone.Within.around_setChan (f := fun ch => { ch with contact := true }) ?_
  have h₁ := h.setChan (c := c) (f := fun ch => { ch with contact := true }) rfl
  unfold Zone.doorOpens
  dsimp only
  split
  · exact (Zone.By.enter.andThen (.setChan ⟨rfl, rfl, rfl, rfl⟩)).near
  · exact (Zone.By.setChan ⟨rfl, rfl, rfl, rfl⟩).near
  · exact (Zone.By.leave.andThen .enter).near
  · exact Zone.By.drive.settled h₁
  · exact .refl _

theorem Zone.doorCloses_around (h : z.orderly) : z.changesAround cfg c (z.doorCloses cfg c) := by
  refine Zone.Within.around_setChan (f := fun ch => { ch with contact := false, doorHeld := none, heldReported := false }) ?_
  have h₁ := h.setChan (c := c) (f := fun ch => { ch with contact := false, doorHeld := none, heldReported := false }) rfl
  unfold Zone.doorCloses
  dsimp only
  split
  · exact Zone.By.relock.settled h₁
  · exact .refl _

theorem Zone.isolate_within (h : z.orderly) : z.Within cfg (z.near c) (groupOf c) (z.isolate cfg c) :=
  (Zone.By.leave.andThen .enter).settled h

end Sys2Proof.Machine

namespace Sys2Proof.Channels
open Sys2Proof.Machine

/-- Settles O38: each operation, from the reach of its own channel and of the channels that its arbiter grants. -/
theorem anOperationOfAChannelStaysInItsGroup : Obligations.AnOperationOfAChannelStaysInItsGroup := fun _ _ _ h =>
  ⟨(Zone.openClaim_within h).around_self, (Zone.relockClaim_within h).around_self, Zone.releaseClaim_around h,
    Zone.endRelease_around h, Zone.doorOpens_around h, Zone.doorCloses_around h, (Zone.isolate_within h).around_self⟩

end Sys2Proof.Channels
end

section
/-! What a request for a drive slot comes to, what the end of a drive does, and what the arbiter leaves of a channel that waits for
nothing (R52 to R55, R62, R63, R79). -/

namespace Sys2Proof.Machine

variable {cfg : Setup} {c : Chan} {g : Grp} {z z₁ zb z' : Zone} {st : ChanState} {a : Hold} {n : Nat} {l : LaneNo}

/-- The channel has no part in its arbiter. -/
def Zone.free (c : Chan) (z : Zone) : Prop :=
  c ∉ (z.groups.get (groupOf c)).queue ∧ (z.groups.get (groupOf c)).slot0 ≠ some c ∧ (z.groups.get (groupOf c)).slot1 ≠ some c

theorem Zone.leave_free (c : Chan) (z : Zone) : (z.leave c).free c := by
  obtain ⟨slot0, slot1, queue⟩ := Group.leave_gone c (z.groups.get (groupOf c))
  unfold Zone.free
  rw [Zone.leave_get, if_pos rfl]
  exact ⟨queue, slot0, slot1⟩

/-! ## The arbiter spares a channel that does not wait -/

/-- What other channels' grants leave of a channel. -/
structure Zone.Spares (cfg : Setup) (c : Chan) (z z' : Zone) : Prop where
  channel : z'.channels.get c = z.channels.get c
  absent : c ∉ (z'.groups.get (groupOf c)).queue
  free : z.free c → z'.free c
  lane : ∀ l, z.laneOf cfg c = some l → z'.lanes.get l = z.lanes.get l

theorem Zone.gate_of_laneOf (h : z.laneOf cfg c = some l) : (cfg.lanes.get l).gate = c := by
  unfold Zone.laneOf at h
  split at h
  · have := List.find?_some h
    simp only [Bool.and_eq_true, beq_iff_eq] at this
    exact this.2
  · cases h

theorem Zone.Apart.own (h : z.Apart c) : ∀ d ∈ (z.groups.get (groupOf c)).queue, groupOf d = groupOf c :=
  fun d hd => (h.waits _ d hd).1

theorem Zone.Apart.grants (h : z.Apart c) (n : Nat) : z.Spares cfg c (z.grants cfg (groupOf c) n) := by
  have within := Zone.grants_within (cfg := cfg) n h.own
  have absent : c ∉ ((z.grants cfg (groupOf c) n).groups.get (groupOf c)).queue := fun hc =>
    h.absent _ (within.queue_sub (fun _ hd => hd) c hc)
  obtain ⟨slot0, slot1⟩ := within.slots c (h.absent _)
  refine ⟨within.channels c (h.absent _), absent, fun ⟨_, free0, free1⟩ => ⟨absent, slot0.not.mpr free0, slot1.not.mpr free1⟩,
    fun l named => within.lanes l fun d hd other => ?_⟩
  obtain rfl : d = c := (Zone.gate_of_laneOf other).symm.trans (Zone.gate_of_laneOf named)
  exact h.absent _ hd

theorem Zone.Apart.settle (h : z.Apart c) : z.Spares cfg c (z.settle cfg c) := h.grants 32

theorem Zone.grant_idle (h : (z.groups.get g).queue = [] ∨ (z.groups.get g).slot0 ≠ none ∧ (z.groups.get g).slot1 ≠ none) :
    z.grant cfg g = z := by
  rcases z.grant_cases cfg g with e | ⟨c, rest, st, hq, room, -, -, -⟩
  · exact e
  · rcases h with empty | ⟨full0, full1⟩
    · simp [empty] at hq
    · simp [full0, full1] at room

/-- With no one waiting, or no slot free, the arbiter does nothing. -/
theorem Zone.grants_idle (n : Nat)
    (h : (z.groups.get g).queue = [] ∨ (z.groups.get g).slot0 ≠ none ∧ (z.groups.get g).slot1 ≠ none) : z.grants cfg g n = z := by
  induction n with
  | zero => rfl
  | succ n ih => rw [Zone.grants, Zone.grant_idle h, ih]

/-! ## Requests -/

/-- The channel waits at the tail of its group's queue. -/
def Zone.wait (cfg : Setup) (c : Chan) (st : ChanState) (z : Zone) : Zone :=
  (z.enter cfg c st).setGroup (groupOf c) (fun g => { g with queue := g.queue ++ [c] })

theorem Zone.waitOpen_inhibited (h : (z.groups.get (groupOf c)).inhibited = true) :
    z.waitOpen cfg c a = z.enter cfg c (.inhibited (.openEnd a)) := if_pos h

theorem Zone.waitClose_inhibited (h : (z.groups.get (groupOf c)).inhibited = true) :
    z.waitClose cfg c = z.enter cfg c (.inhibited .closedEnd) := if_pos h

theorem Zone.waitOpen_wait (h : (z.groups.get (groupOf c)).inhibited = false) :
    z.waitOpen cfg c a = z.wait cfg c (.unlockWait a) := if_neg (by simp [h])

theorem Zone.waitClose_wait (h : (z.groups.get (groupOf c)).inhibited = false) :
    z.waitClose cfg c = z.wait cfg c .lockWait := if_neg (by simp [h])

theorem Zone.wait_channel : (z.wait cfg c st).channels.get c = (z.channels.get c).enter cfg c st := Zone.enter_get_self _ _ _ _

theorem Zone.wait_group : (z.wait cfg c st).groups.get (groupOf c) =
    { z.groups.get (groupOf c) with queue := (z.groups.get (groupOf c)).queue ++ [c] } := Zone.setGroup_get_self _ _ _

/-- With both slots taken the channel waits (R62). -/
theorem Zone.wait_full (full0 : (z.groups.get (groupOf c)).slot0 ≠ none) (full1 : (z.groups.get (groupOf c)).slot1 ≠ none) :
    (z.wait cfg c st).settle cfg c = z.wait cfg c st :=
  Zone.grants_idle 32 (.inr (by rw [Zone.wait_group]; exact ⟨full0, full1⟩))

/-- The drive for which a channel waits. -/
def ChanState.wanted : ChanState → ChanState
  | .unlockWait a => .unlocking a
  | _ => .locking

/-- The sense at the end of a drive is asserted already. -/
def ChanState.reached (st : ChanState) (ch : Channel) : Bool :=
  match st with
  | .unlocking _ => ch.withdrawn
  | _ => ch.home

theorem Zone.drive_eq : z.drive cfg c st =
    if st.reached (z.channels.get c) then (z.setChan c (·.begin cfg c st)).endDrive cfg c else z.setChan c (·.begin cfg c st) := by
  unfold Zone.drive ChanState.reached
  dsimp only
  rw [Zone.setChan_get_self]
  cases st <;> rfl

/-- The zone in which the drive of a channel has begun with a slot of its own. -/
structure Zone.Begun (cfg : Setup) (c : Chan) (st : ChanState) (z zb : Zone) : Prop where
  state : (zb.channels.get c).state = st
  timed : (zb.channels.get c).driveLeft = some cfg.timing.driveTimeout
  inputs : (z.channels.get c).SameInputs (zb.channels.get c)
  group : zb.groups.get (groupOf c) = (z.groups.get (groupOf c)).take c
  laneOf : ∀ d, zb.laneOf cfg d = z.laneOf cfg d
  lanes : zb.lanes = z.lanes
  apart : zb.Apart c

theorem ChanState.reached_enter (st st' : ChanState) (ch : Channel) : st.reached (ch.enter cfg c st') = st.reached ch := by
  cases st <;> rfl

/-- The grant of the one channel that waits. -/
theorem Zone.grant_only {w : Zone} (only : (w.groups.get g).queue = [c])
    (room : ((w.groups.get g).slot0.isNone || (w.groups.get g).slot1.isNone) = true) :
    w.grant cfg g = (w.setGroup g (fun x => { x with queue := [] }.take c)).drive cfg c (w.channels.get c).state.wanted := by
  unfold Zone.grant
  dsimp only
  rw [only]
  dsimp only
  rw [if_pos room, Zone.setGroup_channels]
  cases (w.channels.get c).state <;> rfl

/-- With no one before it and a slot free the channel takes the slot and begins its drive, which ends at once where its sense is
asserted already (R52, R55, R62). -/
theorem Zone.Apart.wait_next (h : z.Apart c) (waits : st.waits = true) (still : st.drives = false)
    (empty : (z.groups.get (groupOf c)).queue = [])
    (room : (z.groups.get (groupOf c)).slot0 = none ∨ (z.groups.get (groupOf c)).slot1 = none) :
    ∃ zb, z.Begun cfg c st.wanted zb ∧ (z.wait cfg c st).settle cfg c =
      if st.wanted.reached (z.channels.get c) then (zb.endDrive cfg c).grants cfg (groupOf c) 31 else zb := by
  have group : (z.wait cfg c st).groups.get (groupOf c) = { z.groups.get (groupOf c) with queue := [c] } := by
    rw [Zone.wait_group, empty]; rfl
  have only : ((z.wait cfg c st).groups.get (groupOf c)).queue = [c] := by rw [group]
  have room' : (((z.wait cfg c st).groups.get (groupOf c)).slot0.isNone ||
      ((z.wait cfg c st).groups.get (groupOf c)).slot1.isNone) = true := by
    rw [group]; simpa using room
  obtain ⟨apart, -⟩ := (h.orderly_queue (cfg := cfg) waits still).granted only room'
  have first := Zone.grant_only (cfg := cfg) only room'
  generalize hz : (z.wait cfg c st).setGroup (groupOf c) (fun x => { x with queue := [] }.take c) = z₂ at first
  have channel : z₂.channels.get c = (z.channels.get c).enter cfg c st := by rw [← hz]; exact Zone.wait_channel
  have group₂ : z₂.groups.get (groupOf c) = (z.groups.get (groupOf c)).take c := by
    rw [← hz, Zone.setGroup_get_self, group, ← empty]
  have lanes : z₂.lanes = z.lanes := by rw [← hz]; rfl
  have apart₂ : z₂.Apart c := hz ▸ apart
  rw [Zone.wait_channel, Channel.enter_state, Zone.drive_eq, channel, ChanState.reached_enter] at first
  refine ⟨z₂.setChan c (·.begin cfg c st.wanted), ⟨?_, ?_, ?_, group₂, Zone.laneOf_congr fun l => ?_, lanes, apart₂.setChan _⟩, ?_⟩
  · rw [Zone.setChan_get_self]; rfl
  · rw [Zone.setChan_get_self]; rfl
  · rw [Zone.setChan_get_self, channel]; exact ⟨rfl, rfl, rfl, rfl⟩
  · rw [Zone.setChan_lanes, lanes]
  · have begun : (z.wait cfg c st).settle cfg c = ((z.wait cfg c st).grant cfg (groupOf c)).grants cfg (groupOf c) 31 := rfl
    rw [begun, first]
    split
    · rfl
    · refine Zone.grants_idle 31 (.inl ?_)
      rw [Zone.setChan_groups, group₂, Group.take_queue, empty]

/-! ## The end of a drive -/

theorem Zone.endDrive_release (h : (z.channels.get c).state = .unlocking a) (hr : (z.channels.get c).release = true) :
    z.endDrive cfg c = (z.leave c).enter cfg c .released := by
  unfold Zone.endDrive
  rw [h]
  exact if_pos hr

theorem Zone.endDrive_hold (h : (z.channels.get c).state = .unlocking a) (hr : (z.channels.get c).release = false) :
    z.endDrive cfg c = (z.leave c).hold cfg c a := by
  unfold Zone.endDrive
  rw [h]
  exact if_neg (by simp [hr])

theorem Zone.endDrive_locked (h : (z.channels.get c).state = .locking) :
    z.endDrive cfg c = (z.leave c).enter cfg c .locked := by
  unfold Zone.endDrive
  rw [h]

/-! ## Holds -/

theorem Zone.hold_cabin_fresh (h : cfg.kind c = .cabin) :
    z.hold cfg c .fresh = z.enter cfg c (.openHold (.holding (cfg.timing.holdTime * 1000))) := by
  unfold Zone.hold
  rw [h]

theorem Zone.hold_cabin_expired (h : cfg.kind c = .cabin) :
    z.hold cfg c .expired = if z.doorOpen cfg c then z.enter cfg c (.openHold .waitClose) else z.relock cfg c := by
  unfold Zone.hold
  rw [h]

theorem Zone.hold_gate_expired (h : cfg.kind c = .gate) : z.hold cfg c .expired = z.relock cfg c := by
  unfold Zone.hold
  rw [h]

theorem Zone.hold_gate_alone (h : cfg.kind c = .gate) (none : z.laneOf cfg c = none) :
    z.hold cfg c .fresh = z.enter cfg c (.openHold .laneHeld) := by
  have alone : (z.enter cfg c (.openHold .laneHeld)).laneOf cfg c = Option.none := none
  unfold Zone.hold
  rw [h]
  dsimp only
  rw [alone]

theorem Zone.hold_gate_lane (h : cfg.kind c = .gate) (named : z.laneOf cfg c = some l) :
    z.hold cfg c .fresh = (z.enter cfg c (.openHold .laneHeld)).gateWithdrawn cfg c l := by
  have lane : (z.enter cfg c (.openHold .laneHeld)).laneOf cfg c = some l := named
  unfold Zone.hold
  rw [h]
  dsimp only
  rw [lane]

theorem Zone.relock_delayed (h : cfg.timing.relockDelay ≠ 0) :
    z.relock cfg c = z.enter cfg c (.openHold (.relockDelay (cfg.timing.relockDelay * 1000))) := if_neg h

theorem Zone.relock_at_once (h : cfg.timing.relockDelay = 0) : z.relock cfg c = z.waitClose cfg c := if_pos h

end Sys2Proof.Machine
end

section
/-! Open claims and relock claims by the state of the channel (R50, R61). -/

namespace Sys2Proof.Machine

variable {cfg : Setup} {c : Chan} {g : Grp} {z z₁ zb z' w : Zone} {st : ChanState} {a : Hold} {n : Nat} {l : LaneNo}

/-! ## A gate's fresh hold at its lane -/

theorem Zone.gateWithdrawn_released {m : Movement} (h : (z.lanes.get l).state = .released m) :
    z.gateWithdrawn cfg c l =
      z.setLane l (fun x => { x with state := .released { m with window := some (cfg.timing.passWindow * 1000) } }) := by
  unfold Zone.gateWithdrawn
  dsimp only
  rw [h]

theorem Zone.gateWithdrawn_closing {m : Movement} (h : (z.lanes.get l).state = .closing m) :
    z.gateWithdrawn cfg c l =
      z.setLane l (fun x => { x with state := .closing { m with window := some (cfg.timing.passWindow * 1000) } }) := by
  unfold Zone.gateWithdrawn
  dsimp only
  rw [h]

theorem Zone.gateWithdrawn_heldOpen {r : Return} (h : (z.lanes.get l).state = .heldOpen r) : z.gateWithdrawn cfg c l = z := by
  unfold Zone.gateWithdrawn
  dsimp only
  rw [h]

theorem Zone.gateWithdrawn_idle (h : (z.lanes.get l).state = .ready ∨ (z.lanes.get l).state = .closed) :
    z.gateWithdrawn cfg c l = if (z.channels.get c).release then z else z.relock cfg c := by
  unfold Zone.gateWithdrawn
  dsimp only
  rcases h with h | h <;> rw [h]

theorem Zone.Apart.setLane (h : z.Apart c) (f : Lane → Lane) : (z.setLane l f).Apart c := ⟨h.nodup, h.waits, h.absent, h.slots⟩

theorem Zone.Apart.entered (h : z.Apart c) (n : Nat) :
    (((z.enter cfg c st).grants cfg (groupOf c) n).channels.get c).state = st := by
  rw [((h.enter st).grants n).channel, Zone.enter_get_self, Channel.enter_state]

/-- What a gate's fresh hold gives at its lane, once the arbiter has settled (R53, R93). -/
theorem Zone.Apart.hold_gate_lane (h : z.Apart c) (gate : cfg.kind c = .gate) (named : z.laneOf cfg c = some l) (n : Nat) :
    let z' := (z.hold cfg c .fresh).grants cfg (groupOf c) n
    let st' := (z'.channels.get c).state
    let window := some (cfg.timing.passWindow * 1000)
    (∀ m, (z.lanes.get l).state = .released m →
        st' = .openHold .laneHeld ∧ (z'.lanes.get l).state = .released { m with window := window }) ∧
      (∀ m, (z.lanes.get l).state = .closing m →
        st' = .openHold .laneHeld ∧ (z'.lanes.get l).state = .closing { m with window := window }) ∧
      (∀ r, (z.lanes.get l).state = .heldOpen r → st' = .openHold .laneHeld) ∧
      ((z.lanes.get l).state = .ready ∨ (z.lanes.get l).state = .closed →
        ((z.channels.get c).release = true → st' = .openHold .laneHeld) ∧
        ((z.channels.get c).release = false → cfg.timing.relockDelay ≠ 0 →
          st' = .openHold (.relockDelay (cfg.timing.relockDelay * 1000)))) := by
  have held := h.enter (cfg := cfg) (.openHold .laneHeld)
  have moves (st : LaneState) :
      let z₂ := ((z.enter cfg c (.openHold .laneHeld)).setLane l (fun x => { x with state := st })).grants cfg (groupOf c) n
      (z₂.channels.get c).state = .openHold .laneHeld ∧ (z₂.lanes.get l).state = st := by
    intro z₂
    have spares : Zone.Spares cfg c _ z₂ := (held.setLane (l := l) (fun x => { x with state := st })).grants n
    have same := (Zone.By.setLane (z := z.enter cfg c (.openHold .laneHeld)) (f := fun x => { x with state := st }) named rfl).laneOf c
    have lane := spares.lane l (same.trans named)
    rw [spares.channel, lane, Zone.setLane_channels, Zone.enter_get_self, Zone.setLane_get_self]
    exact ⟨rfl, rfl⟩
  rw [Zone.hold_gate_lane gate named]
  refine ⟨fun m hm => ?_, fun m hm => ?_, fun r hr => ?_, fun idle => ⟨fun hr => ?_, fun hr delay => ?_⟩⟩
  · rw [Zone.gateWithdrawn_released (z := z.enter cfg c _) hm]
    exact moves _
  · rw [Zone.gateWithdrawn_closing (z := z.enter cfg c _) hm]
    exact moves _
  · rw [Zone.gateWithdrawn_heldOpen (z := z.enter cfg c _) hr]
    exact h.entered n
  · rw [Zone.gateWithdrawn_idle (z := z.enter cfg c _) idle, if_pos (by rw [Zone.enter_get_self]; exact hr)]
    exact h.entered n
  · rw [Zone.gateWithdrawn_idle (z := z.enter cfg c _) idle, if_neg (by rw [Zone.enter_get_self]; simp [hr]),
      Zone.relock_delayed delay]
    exact held.entered n

theorem Zone.Apart.hold_gate_alone (h : z.Apart c) (gate : cfg.kind c = .gate) (none : z.laneOf cfg c = none) (n : Nat) :
    (((z.hold cfg c .fresh).grants cfg (groupOf c) n).channels.get c).state = .openHold .laneHeld := by
  rw [Zone.hold_gate_alone gate none]
  exact h.entered n

theorem Zone.Apart.hold_cabin (h : z.Apart c) (cabin : cfg.kind c = .cabin) (n : Nat) :
    (((z.hold cfg c .fresh).grants cfg (groupOf c) n).channels.get c).state = .openHold (.holding (cfg.timing.holdTime * 1000)) := by
  rw [Zone.hold_cabin_fresh cabin]
  exact h.entered n

/-! ## Ends of drives, once the arbiter has settled -/

theorem Zone.free.enter (h : z.free c) : (z.enter cfg c st).free c := h

theorem Zone.ended_release (h : w.orderly) (hs : (w.channels.get c).state = .unlocking a) (hr : (w.channels.get c).release = true)
    (n : Nat) : (((w.endDrive cfg c).grants cfg (groupOf c) n).channels.get c).state = .released ∧
      ((w.endDrive cfg c).grants cfg (groupOf c) n).free c := by
  rw [Zone.endDrive_release hs hr]
  exact ⟨(h.leave c).entered n, (((h.leave c).enter _).grants n).free (w.leave_free c).enter⟩

theorem Zone.ended_cabin (h : w.orderly) (hs : (w.channels.get c).state = .unlocking .fresh)
    (hr : (w.channels.get c).release = false) (cabin : cfg.kind c = .cabin) (n : Nat) :
    (((w.endDrive cfg c).grants cfg (groupOf c) n).channels.get c).state = .openHold (.holding (cfg.timing.holdTime * 1000)) ∧
      ((w.endDrive cfg c).grants cfg (groupOf c) n).free c := by
  rw [Zone.endDrive_hold hs hr, Zone.hold_cabin_fresh cabin]
  exact ⟨(h.leave c).entered n, (((h.leave c).enter _).grants n).free (w.leave_free c).enter⟩

theorem Zone.ended_locked (h : w.orderly) (hs : (w.channels.get c).state = .locking) (n : Nat) :
    (((w.endDrive cfg c).grants cfg (groupOf c) n).channels.get c).state = .locked ∧
      ((w.endDrive cfg c).grants cfg (groupOf c) n).free c := by
  rw [Zone.endDrive_locked hs]
  exact ⟨(h.leave c).entered n, (((h.leave c).enter _).grants n).free (w.leave_free c).enter⟩

/-! ## Requests, once the arbiter has settled -/

theorem Group.take_first {x : Group} (h : x.slot0 = none) : x.take c = { x with slot0 := some c } := by simp [Group.take, h]

theorem Group.take_second {x : Group} (h : x.slot0 ≠ none) : x.take c = { x with slot1 := some c } := by simp [Group.take, h]

theorem Zone.Begun.orderly (h : z.Begun cfg c st zb) : zb.orderly :=
  h.apart.orderly fun _ => by rw [Zone.holdsSlot, h.group]; exact Group.take_gives_slot _ c

theorem Zone.Apart.openRequest_inhibited (h : z.Apart c) (inhibited : (z.groups.get (groupOf c)).inhibited = true) :
    (((z.waitOpen cfg c a).settle cfg c).channels.get c).state = .inhibited (.openEnd a) ∧
      c ∉ (((z.waitOpen cfg c a).settle cfg c).groups.get (groupOf c)).queue := by
  rw [Zone.waitOpen_inhibited inhibited]
  exact ⟨h.entered 32, (h.enter _).settle.absent⟩

theorem Zone.openRequest_full (inhibited : (z.groups.get (groupOf c)).inhibited = false)
    (full0 : (z.groups.get (groupOf c)).slot0 ≠ none) (full1 : (z.groups.get (groupOf c)).slot1 ≠ none) :
    (((z.waitOpen cfg c a).settle cfg c).channels.get c).state = .unlockWait a ∧
      ((z.waitOpen cfg c a).settle cfg c).groups.get (groupOf c) =
        { z.groups.get (groupOf c) with queue := (z.groups.get (groupOf c)).queue ++ [c] } := by
  rw [Zone.waitOpen_wait inhibited, Zone.wait_full full0 full1]
  exact ⟨by rw [Zone.wait_channel, Channel.enter_state], Zone.wait_group⟩

theorem Zone.Apart.openRequest_next (h : z.Apart c) (inhibited : (z.groups.get (groupOf c)).inhibited = false)
    (empty : (z.groups.get (groupOf c)).queue = [])
    (room : (z.groups.get (groupOf c)).slot0 = none ∨ (z.groups.get (groupOf c)).slot1 = none) :
    ∃ zb, z.Begun cfg c (.unlocking a) zb ∧ (z.waitOpen cfg c a).settle cfg c =
      if (z.channels.get c).withdrawn then (zb.endDrive cfg c).grants cfg (groupOf c) 31 else zb := by
  rw [Zone.waitOpen_wait inhibited]
  exact h.wait_next (st := .unlockWait a) rfl rfl empty room

/-- What a request to close comes to (R54, R55, R62, R79). -/
structure Zone.ClosesTo (cfg : Setup) (c : Chan) (ch : Channel) (g : Group) (z' : Zone) : Prop where
  inhibited : g.inhibited = true →
    (z'.channels.get c).state = .inhibited .closedEnd ∧ c ∉ (z'.groups.get (groupOf c)).queue
  full : g.inhibited = false → g.slot0 ≠ none → g.slot1 ≠ none →
    (z'.channels.get c).state = .lockWait ∧ z'.groups.get (groupOf c) = { g with queue := g.queue ++ [c] }
  first : g.inhibited = false → g.queue = [] → ch.home = false → g.slot0 = none →
    (z'.channels.get c).state = .locking ∧ z'.groups.get (groupOf c) = { g with slot0 := some c } ∧
      (z'.channels.get c).driveLeft = some cfg.timing.driveTimeout
  second : g.inhibited = false → g.queue = [] → ch.home = false → g.slot0 ≠ none → g.slot1 = none →
    (z'.channels.get c).state = .locking ∧ z'.groups.get (groupOf c) = { g with slot1 := some c } ∧
      (z'.channels.get c).driveLeft = some cfg.timing.driveTimeout
  home : g.inhibited = false → g.queue = [] → g.slot0 = none ∨ g.slot1 = none → ch.home = true →
    (z'.channels.get c).state = .locked ∧ z'.free c

theorem Zone.Apart.closeRequest (h : z.Apart c) :
    Zone.ClosesTo cfg c (z.channels.get c) (z.groups.get (groupOf c)) ((z.waitClose cfg c).settle cfg c) := by
  have next (inhibited : (z.groups.get (groupOf c)).inhibited = false) (empty : (z.groups.get (groupOf c)).queue = [])
      (room : (z.groups.get (groupOf c)).slot0 = none ∨ (z.groups.get (groupOf c)).slot1 = none) :
      ∃ zb, z.Begun cfg c .locking zb ∧ (z.waitClose cfg c).settle cfg c =
        if (z.channels.get c).home then (zb.endDrive cfg c).grants cfg (groupOf c) 31 else zb := by
    rw [Zone.waitClose_wait inhibited]
    exact h.wait_next (st := .lockWait) rfl rfl empty room
  refine ⟨fun inhibited => ?_, fun inhibited full0 full1 => ?_, fun inhibited empty away free0 => ?_,
    fun inhibited empty away held0 free1 => ?_, fun inhibited empty room home => ?_⟩
  · rw [Zone.waitClose_inhibited inhibited]
    exact ⟨h.entered 32, (h.enter _).settle.absent⟩
  · rw [Zone.waitClose_wait inhibited, Zone.wait_full full0 full1]
    exact ⟨by rw [Zone.wait_channel, Channel.enter_state], Zone.wait_group⟩
  · obtain ⟨zb, begun, e⟩ := next inhibited empty (.inl free0)
    rw [e, if_neg (by simp [away])]
    exact ⟨begun.state, by rw [begun.group, Group.take_first free0], begun.timed⟩
  · obtain ⟨zb, begun, e⟩ := next inhibited empty (.inr free1)
    rw [e, if_neg (by simp [away])]
    exact ⟨begun.state, by rw [begun.group, Group.take_second held0], begun.timed⟩
  · obtain ⟨zb, begun, e⟩ := next inhibited empty room
    rw [e, if_pos home]
    exact Zone.ended_locked begun.orderly begun.state 31

/-- A channel that turns about to open, once the arbiter has settled (R50, R55, R64). -/
theorem Zone.orderly.turnOpen (h : z.orderly) (hs : (z.channels.get c).state = .locking) :
    let zb := z.setChan c (·.begin cfg c (.unlocking a))
    zb.orderly ∧ (zb.channels.get c).state = .unlocking a ∧ (z.channels.get c).SameInputs (zb.channels.get c) ∧
    ((z.channels.get c).withdrawn = false →
      (((z.drive cfg c (.unlocking a)).settle cfg c).channels.get c).state = .unlocking a ∧
      (((z.drive cfg c (.unlocking a)).settle cfg c).channels.get c).driveLeft = some cfg.timing.driveTimeout) ∧
    ((z.channels.get c).withdrawn = true → (z.drive cfg c (.unlocking a)).settle cfg c =
      (zb.endDrive cfg c).grants cfg (groupOf c) 32) := by
  have apart : z.Apart c := h.apart (by rw [hs]; rfl)
  have zb_apart := apart.setChan (·.begin cfg c (.unlocking a))
  refine ⟨zb_apart.orderly fun _ => h.2.2 c (by rw [hs]; rfl), by rw [Zone.setChan_get_self]; rfl,
    by rw [Zone.setChan_get_self]; exact ⟨rfl, rfl, rfl, rfl⟩, fun away => ?_, fun there => ?_⟩
  · have away : ¬(ChanState.unlocking a).reached (z.channels.get c) = true := by simp [ChanState.reached, away]
    rw [Zone.drive_eq, if_neg away, (zb_apart.settle).channel, Zone.setChan_get_self]
    exact ⟨rfl, rfl⟩
  · have there : (ChanState.unlocking a).reached (z.channels.get c) = true := there
    rw [Zone.drive_eq, if_pos there]
    rfl

/-! ## The claims by the state of the channel -/

theorem Zone.openClaim_request (h : (z.channels.get c).state = .locked ∨
    (z.channels.get c).state = .fault ∧ cfg.policy.scope.get (groupOf c) = .isolate) :
    z.openClaim cfg c = (z.waitOpen cfg c .fresh).settle cfg c := by
  unfold Zone.openClaim
  rcases h with h | ⟨h, scope⟩
  · rw [h]
  · rw [h]
    dsimp only
    rw [scope]

theorem Zone.openClaim_unlockWait (h : (z.channels.get c).state = .unlockWait a) :
    z.openClaim cfg c = z.enter cfg c (.unlockWait .fresh) := by
  unfold Zone.openClaim
  rw [h]

theorem Zone.openClaim_unlocking (h : (z.channels.get c).state = .unlocking a) :
    z.openClaim cfg c = z.enter cfg c (.unlocking .fresh) := by
  unfold Zone.openClaim
  rw [h]

theorem Zone.openClaim_locking (h : (z.channels.get c).state = .locking) :
    z.openClaim cfg c = (z.drive cfg c (.unlocking .fresh)).settle cfg c := by
  unfold Zone.openClaim
  rw [h]

theorem Zone.openClaim_idle (h : (z.channels.get c).state = .off ∨ (z.channels.get c).state = .released ∨
    (∃ t, (z.channels.get c).state = .inhibited t) ∨
    (z.channels.get c).state = .fault ∧ cfg.policy.scope.get (groupOf c) = .group) : z.openClaim cfg c = z := by
  unfold Zone.openClaim
  rcases h with h | h | ⟨t, h⟩ | ⟨h, scope⟩
  · rw [h]
  · rw [h]
  · rw [h]
  · rw [h]
    dsimp only
    rw [scope]

/-- The states from which an open claim requests a slot. -/
def Zone.requestsOpen (cfg : Setup) (c : Chan) (z : Zone) : Prop :=
  (z.channels.get c).state = .locked ∨ (z.channels.get c).state = .fault ∧ cfg.policy.scope.get (groupOf c) = .isolate

theorem Zone.orderly.openClaim_next (h : z.orderly) (claims : z.requestsOpen cfg c)
    (inhibited : (z.groups.get (groupOf c)).inhibited = false) (empty : (z.groups.get (groupOf c)).queue = [])
    (room : (z.groups.get (groupOf c)).slot0 = none ∨ (z.groups.get (groupOf c)).slot1 = none) :
    ∃ zb, z.Begun cfg c (.unlocking .fresh) zb ∧
      ((z.channels.get c).withdrawn = false → z.openClaim cfg c = zb) ∧
      ((z.channels.get c).withdrawn = true → z.openClaim cfg c = (zb.endDrive cfg c).grants cfg (groupOf c) 31) := by
  have apart : z.Apart c := h.apart (by rcases claims with hs | ⟨hs, -⟩ <;> rw [hs] <;> rfl)
  obtain ⟨zb, begun, result⟩ := apart.openRequest_next (cfg := cfg) (a := .fresh) inhibited empty room
  rw [← Zone.openClaim_request claims] at result
  exact ⟨zb, begun, fun away => result.trans (if_neg (by simp [away])), fun there => result.trans (if_pos there)⟩

/-- From OPEN_HOLD and from LOCK_WAIT an open claim gives a fresh hold to a channel that stands in no queue. -/
theorem Zone.orderly.openClaim_holds (h : z.orderly)
    (hs : (∃ st, (z.channels.get c).state = .openHold st) ∨ (z.channels.get c).state = .lockWait) :
    ∃ w : Zone, w.Apart c ∧ z.openClaim cfg c = (w.hold cfg c .fresh).settle cfg c ∧ w.channels = z.channels ∧ w.lanes = z.lanes := by
  rcases hs with ⟨st, hs⟩ | hs
  · refine ⟨z, h.apart (by rw [hs]; rfl), ?_, rfl, rfl⟩
    unfold Zone.openClaim
    rw [hs]
  · refine ⟨z.leave c, h.leave c, ?_, rfl, rfl⟩
    unfold Zone.openClaim
    rw [hs]

theorem Zone.Apart.relock_apart (h : z.Apart c) (delay : cfg.timing.relockDelay ≠ 0) : (z.relock cfg c).Apart c := by
  rw [Zone.relock_delayed delay]
  exact h.enter _

/-- A fresh hold that does not relock at once leaves its channel in no queue. -/
theorem Zone.Apart.hold_apart (h : z.Apart c) (stays : cfg.kind c = .cabin ∨ cfg.timing.relockDelay ≠ 0) :
    (z.hold cfg c .fresh).Apart c := by
  rcases stays with cabin | delay
  · rw [Zone.hold_cabin_fresh cabin]
    exact h.enter _
  · have held := h.enter (cfg := cfg) (.openHold .laneHeld)
    unfold Zone.hold
    split
    · dsimp only
      split
      · next l named =>
        unfold Zone.gateWithdrawn
        split
        · exact held.setLane _
        · exact held.setLane _
        · exact held
        · split
          · exact held
          · exact held.relock_apart delay
        · split
          · exact held
          · exact held.relock_apart delay
      · exact held
    · exact h.relock_apart delay
    · exact h.enter _
    · split
      · exact h.enter _
      · exact h.relock_apart delay

theorem Zone.orderly.apart_of_state (h : z.orderly) (hs : (z.channels.get c).state = st) (calm : st.waits = false) : z.Apart c :=
  h.apart (by rw [hs, calm])

theorem Zone.relockClaim_holding {stage : HoldStage} (hs : (z.channels.get c).state = .openHold stage)
    (hr : (z.channels.get c).release = false) (running : ∀ n, stage ≠ .relockDelay n) :
    z.relockClaim cfg c = (z.relock cfg c).settle cfg c := by
  unfold Zone.relockClaim
  dsimp only
  rw [if_neg (by simp [hr]), hs]
  cases stage with
  | relockDelay n => exact absurd rfl (running n)
  | _ => rfl

theorem Zone.relockClaim_unlockWait (hs : (z.channels.get c).state = .unlockWait a) (hr : (z.channels.get c).release = false) :
    z.relockClaim cfg c =
      if (z.channels.get c).home then (z.leave c).enter cfg c .locked else z.enter cfg c .lockWait := by
  unfold Zone.relockClaim
  dsimp only
  rw [if_neg (by simp [hr]), hs]

theorem Zone.relockClaim_unlocking (hs : (z.channels.get c).state = .unlocking a) (hr : (z.channels.get c).release = false) :
    z.relockClaim cfg c = (z.drive cfg c .locking).settle cfg c := by
  unfold Zone.relockClaim
  dsimp only
  rw [if_neg (by simp [hr]), hs]

theorem Zone.relockClaim_inhibited {t : Target} (hs : (z.channels.get c).state = .inhibited t)
    (hr : (z.channels.get c).release = false) : z.relockClaim cfg c = z.enter cfg c (.inhibited .closedEnd) := by
  unfold Zone.relockClaim
  dsimp only
  rw [if_neg (by simp [hr]), hs]

theorem Zone.relockClaim_idle (hs : (z.channels.get c).state = .locked ∨ (z.channels.get c).state = .lockWait ∨
    (z.channels.get c).state = .locking ∨ (z.channels.get c).state = .fault ∨ (z.channels.get c).state = .released ∨
    (z.channels.get c).state = .off) : z.relockClaim cfg c = z := by
  unfold Zone.relockClaim
  dsimp only
  split
  · rfl
  · rcases hs with hs | hs | hs | hs | hs | hs <;> rw [hs]

/-- A channel that turns about to close, once the arbiter has settled (R61). -/
theorem Zone.orderly.turnClosed (h : z.orderly) (hs : (z.channels.get c).state = .unlocking a) :
    ((z.channels.get c).home = false →
      (((z.drive cfg c .locking).settle cfg c).channels.get c).state = .locking ∧
      (((z.drive cfg c .locking).settle cfg c).channels.get c).driveLeft = some cfg.timing.driveTimeout) ∧
    ((z.channels.get c).home = true →
      (((z.drive cfg c .locking).settle cfg c).channels.get c).state = .locked ∧ ((z.drive cfg c .locking).settle cfg c).free c) := by
  have zb_apart := (h.apart_of_state hs rfl).setChan (·.begin cfg c .locking)
  have zb_state : ((z.setChan c (·.begin cfg c .locking)).channels.get c).state = .locking := by rw [Zone.setChan_get_self]; rfl
  refine ⟨fun away => ?_, fun there => ?_⟩
  · have away : ¬ChanState.locking.reached (z.channels.get c) = true := by simp [ChanState.reached, away]
    rw [Zone.drive_eq, if_neg away, (zb_apart.settle).channel, zb_state, Zone.setChan_get_self]
    exact ⟨rfl, rfl⟩
  · have there : ChanState.locking.reached (z.channels.get c) = true := there
    rw [Zone.drive_eq, if_pos there]
    exact Zone.ended_locked (zb_apart.orderly fun _ => h.2.2 c (by rw [hs]; rfl)) zb_state 32

end Sys2Proof.Machine

namespace Sys2Proof.Channels
open Sys2Proof.Machine

/-- Settles O36: by the state of the channel. -/
theorem openAndRelockClaimsByState : Obligations.OpenAndRelockClaimsByState := by
  intro cfg c z h ch g full timed free held delayed
  refine ⟨?opens, ?relocks⟩
  case opens =>
    intro z' ch' g' claims next
    have room : ¬full → g.slot0 = none ∨ g.slot1 = none := fun x => by
      simpa only [full, not_and_or, not_not] using x
    refine ⟨fun claim inhibited => ?inhibited, fun claim inhibited full => ?full, fun next away => ⟨fun free0 => ?first,
      fun held0 free1 => ?second⟩, fun next notFull there => ?ends, fun a hs => ?unlockWait, fun a hs => ?unlocking,
      fun hs => ⟨fun wait stays => ?absent, fun cabin => ?cabin, fun gate => ⟨fun none => ?alone, fun l named => ?lane⟩⟩,
      fun hs => ?locking, Zone.openClaim_idle⟩
    case inhibited =>
      have apart : z.Apart c := h.apart (by rcases claim with hs | ⟨hs, -⟩ <;> rw [hs] <;> rfl)
      have e : z' = _ := Zone.openClaim_request claim
      simp only [ch', g', e]
      exact apart.openRequest_inhibited inhibited
    case full =>
      have e : z' = _ := Zone.openClaim_request claim
      simp only [ch', g', e]
      exact Zone.openRequest_full inhibited full.1 full.2
    case first =>
      obtain ⟨claim, inhibited, empty⟩ := next
      obtain ⟨zb, begun, e, -⟩ := h.openClaim_next claim inhibited empty (.inl free0)
      simp only [ch', g', timed, show z' = zb from e away]
      exact ⟨begun.state, by rw [begun.group, Group.take_first free0], begun.timed⟩
    case second =>
      obtain ⟨claim, inhibited, empty⟩ := next
      obtain ⟨zb, begun, e, -⟩ := h.openClaim_next claim inhibited empty (.inr free1)
      simp only [ch', g', timed, show z' = zb from e away]
      exact ⟨begun.state, by rw [begun.group, Group.take_second held0], begun.timed⟩
    case ends =>
      obtain ⟨claim, inhibited, empty⟩ := next
      obtain ⟨zb, begun, -, e⟩ := h.openClaim_next claim inhibited empty (room notFull)
      simp only [ch', g', free, show z' = _ from e there]
      exact ⟨fun hr => Zone.ended_release begun.orderly begun.state (begun.inputs.release.trans hr) 31,
        fun hr cabin => Zone.ended_cabin begun.orderly begun.state (begun.inputs.release.trans hr) cabin 31⟩
    case unlockWait =>
      simp only [ch', g', show z' = _ from Zone.openClaim_unlockWait hs, Zone.enter_get_self]
      exact ⟨rfl, rfl⟩
    case unlocking =>
      simp only [ch', g', show z' = _ from Zone.openClaim_unlocking hs, Zone.enter_get_self]
      exact ⟨rfl, rfl, rfl⟩
    case absent =>
      obtain ⟨w, apart, e, -, -⟩ := h.openClaim_holds (cfg := cfg) hs
      simp only [g', show z' = _ from e]
      exact (apart.hold_apart stays).settle.absent
    case cabin =>
      obtain ⟨w, apart, e, -, -⟩ := h.openClaim_holds (cfg := cfg) hs
      simp only [ch', show z' = _ from e]
      exact apart.hold_cabin cabin 32
    case alone =>
      obtain ⟨w, apart, e, -, lanes⟩ := h.openClaim_holds (cfg := cfg) hs
      simp only [ch', show z' = _ from e]
      exact apart.hold_gate_alone gate ((Zone.laneOf_congr (fun l => by rw [lanes]) c).trans none) 32
    case lane =>
      obtain ⟨w, apart, e, channels, lanes⟩ := h.openClaim_holds (cfg := cfg) hs
      simp only [ch', show z' = _ from e]
      have report := apart.hold_gate_lane gate ((Zone.laneOf_congr (fun l => by rw [lanes]) c).trans named) 32
      rw [lanes, channels] at report
      exact report
    case locking =>
      obtain ⟨orderly, state, inputs, begins, ends⟩ := h.turnOpen (cfg := cfg) (a := .fresh) hs
      simp only [ch', g', timed, free, show z' = _ from Zone.openClaim_locking hs]
      refine ⟨begins, fun there hr => ?_, fun there hr cabin => ?_⟩
      · rw [ends there]
        exact Zone.ended_release orderly state (inputs.release.trans hr) 32
      · rw [ends there]
        exact Zone.ended_cabin orderly state (inputs.release.trans hr) cabin 32
  case relocks =>
    intro z' ch' g'
    refine ⟨fun hr => if_pos hr, fun hr => ⟨fun n hs => ?runs, fun stage hs running => ⟨fun delay => ?delayed, fun atOnce => ?request⟩,
      fun a hs home => ?home, fun a hs away => ?away, fun a hs away => ?turns, fun a hs home => ?turned, fun t hs => ?inhibited,
      Zone.relockClaim_idle⟩⟩
    case runs =>
      change z.relockClaim cfg c = z
      unfold Zone.relockClaim
      dsimp only
      rw [if_neg (by simp [show (z.channels.get c).release = false from hr]), show (z.channels.get c).state = _ from hs]
    case delayed =>
      have e : z' = _ := Zone.relockClaim_holding hs hr running
      rw [Zone.relock_delayed delay] at e
      simp only [ch', e]
      exact (h.apart_of_state hs rfl).entered 32
    case request =>
      have e : z' = _ := Zone.relockClaim_holding hs hr running
      rw [Zone.relock_at_once atOnce] at e
      have closes := (h.apart_of_state hs rfl).closeRequest (cfg := cfg)
      rw [← e] at closes
      exact ⟨closes.inhibited, fun i full => closes.full i full.1 full.2, fun i empty away => ⟨closes.first i empty away,
        closes.second i empty away⟩, fun i empty notFull => closes.home i empty (by simpa only [full, not_and_or, not_not] using notFull)⟩
    case home =>
      have e : z' = _ := (Zone.relockClaim_unlockWait hs hr).trans (if_pos home)
      simp only [ch', g', e, Zone.enter_get_self]
      exact ⟨rfl, (z.leave_free c).1⟩
    case away =>
      have e : z' = _ := (Zone.relockClaim_unlockWait hs hr).trans (if_neg (by simp [show (z.channels.get c).home = false from away]))
      simp only [ch', g', e, Zone.enter_get_self]
      exact ⟨rfl, rfl⟩
    case turns =>
      simp only [ch', timed, show z' = _ from Zone.relockClaim_unlocking hs hr]
      exact (h.turnClosed hs).1 away
    case turned =>
      simp only [ch', g', free, show z' = _ from Zone.relockClaim_unlocking hs hr]
      exact (h.turnClosed hs).2 home
    case inhibited =>
      simp only [ch', g', show z' = _ from Zone.relockClaim_inhibited hs hr, Zone.enter_get_self]
      exact ⟨rfl, rfl⟩

end Sys2Proof.Channels
end

section
/-! Release claims and end-of-release claims by the state of the channel (R64, R65). -/

namespace Sys2Proof.Machine

variable {cfg : Setup} {c : Chan} {g : Grp} {z z₁ zb z' w : Zone} {st : ChanState} {a : Hold} {n : Nat} {l : LaneNo}

theorem Zone.hold_expired_relock (shut : cfg.kind c = .gate ∨ z.doorOpen cfg c = false) : z.hold cfg c .expired = z.relock cfg c := by
  rcases shut with gate | shut
  · exact Zone.hold_gate_expired gate
  · unfold Zone.hold
    cases cfg.kind c with
    | gate => rfl
    | none => exact if_neg (by simp [shut])
    | cabin => exact if_neg (by simp [shut])

/-- An expired hold, once the arbiter has settled (R53, R54). -/
theorem Zone.Apart.hold_expired (h : z.Apart c) (n : Nat) :
    let st' := (((z.hold cfg c .expired).grants cfg (groupOf c) n).channels.get c).state
    (cfg.kind c = .cabin → z.doorOpen cfg c = true → st' = .openHold .waitClose) ∧
      (cfg.kind c = .gate ∨ z.doorOpen cfg c = false → cfg.timing.relockDelay ≠ 0 →
        st' = .openHold (.relockDelay (cfg.timing.relockDelay * 1000))) := by
  refine ⟨fun cabin opened => ?_, fun shut delay => ?_⟩
  · rw [Zone.hold_cabin_expired cabin, if_pos opened]
    exact h.entered n
  · rw [Zone.hold_expired_relock shut, Zone.relock_delayed delay]
    exact h.entered n

/-- The zone once the release marker of a channel is written. -/
def Zone.mark (c : Chan) (v : Bool) (z : Zone) : Zone := z.setChan c (fun ch => { ch with release := v })

theorem Zone.mark_get (v : Bool) : (z.mark c v).channels.get c = { z.channels.get c with release := v } := Zone.setChan_get_self _ _ _

theorem Zone.orderly.mark (h : z.orderly) (v : Bool) : (z.mark c v).orderly := h.setChan rfl

theorem Zone.releaseClaim_eq (used : cfg.inUse c = true) :
    z.releaseClaim cfg c = match (z.channels.get c).state with
      | .locked => ((z.mark c true).waitOpen cfg c .expired).settle cfg c
      | .openHold _ => if (z.channels.get c).withdrawn then (z.mark c true).enter cfg c .released
        else ((z.mark c true).waitOpen cfg c .expired).settle cfg c
      | .lockWait => ((z.mark c true).leave c).enter cfg c .released
      | .locking => ((z.mark c true).drive cfg c (.unlocking .expired)).settle cfg c
      | .fault => ((z.mark c true).waitOpen cfg c .expired).settle cfg c
      | .inhibited t => (z.mark c true).enter cfg c (.inhibited t.toOpen)
      | _ => z.mark c true := by
  unfold Zone.releaseClaim
  rw [if_pos used]
  dsimp only
  rw [Zone.setChan_get_self]
  cases (z.channels.get c).state <;> rfl

theorem Zone.releaseClaim_request (used : cfg.inUse c = true)
    (hs : (z.channels.get c).state = .locked ∨ (z.channels.get c).state = .fault ∨
      (∃ st, (z.channels.get c).state = .openHold st) ∧ (z.channels.get c).withdrawn = false) :
    z.releaseClaim cfg c = ((z.mark c true).waitOpen cfg c .expired).settle cfg c := by
  rw [Zone.releaseClaim_eq used]
  rcases hs with hs | hs | ⟨⟨stage, hs⟩, away⟩
  · rw [hs]
  · rw [hs]
  · rw [hs]
    exact if_neg (by simp [away])

theorem Zone.mark_groups (v : Bool) : (z.mark c v).groups = z.groups := rfl

/-- The request of a release claim, once the arbiter has settled. -/
theorem Zone.orderly.releaseClaim_requests (h : z.orderly) (used : cfg.inUse c = true)
    (hs : (z.channels.get c).state = .locked ∨ (z.channels.get c).state = .fault ∨
      (∃ st, (z.channels.get c).state = .openHold st) ∧ (z.channels.get c).withdrawn = false) :
    let g := z.groups.get (groupOf c)
    let z' := z.releaseClaim cfg c
    let ch' := z'.channels.get c
    let g' := z'.groups.get (groupOf c)
    (g.inhibited = true → ch'.state = .inhibited (.openEnd .expired) ∧ c ∉ g'.queue) ∧
      (g.inhibited = false → g.slot0 ≠ none → g.slot1 ≠ none →
        ch'.state = .unlockWait .expired ∧ g' = { g with queue := g.queue ++ [c] }) ∧
      (g.inhibited = false → g.queue = [] → g.slot0 = none → (z.channels.get c).withdrawn = false →
        ch'.state = .unlocking .expired ∧ g' = { g with slot0 := some c }) := by
  have calm : (z.mark c true).Apart c :=
    (h.mark true).apart (by rw [Zone.mark_get]; rcases hs with hs | hs | ⟨⟨_, hs⟩, -⟩ <;> rw [hs] <;> rfl)
  dsimp only
  rw [Zone.releaseClaim_request used hs, ← Zone.mark_groups (z := z) (c := c) true]
  refine ⟨calm.openRequest_inhibited, Zone.openRequest_full, fun inhibited empty free0 away => ?_⟩
  obtain ⟨zb, begun, result⟩ := calm.openRequest_next (cfg := cfg) (a := .expired) inhibited empty (.inl free0)
  rw [if_neg (by rw [Zone.mark_get]; simp [away])] at result
  rw [result]
  exact ⟨begun.state, by rw [begun.group, Group.take_first free0]⟩

theorem Zone.endRelease_eq (used : cfg.inUse c = true) :
    z.endRelease cfg c = match (z.channels.get c).state with
      | .released => ((z.mark c false).hold cfg c .expired).settle cfg c
      | .unlockWait _ => (z.mark c false).enter cfg c (.unlockWait .expired)
      | .unlocking _ => (z.mark c false).enter cfg c (.unlocking .expired)
      | _ => z.mark c false := by
  unfold Zone.endRelease
  rw [if_pos used]
  dsimp only
  rw [Zone.setChan_get_self]
  cases (z.channels.get c).state <;> rfl

end Sys2Proof.Machine

namespace Sys2Proof.Channels
open Sys2Proof.Machine

/-- Settles O37: by the state of the channel, from the zone in which its marker is written. -/
theorem releaseAndEndOfReleaseByState : Obligations.ReleaseAndEndOfReleaseByState := by
  intro cfg c z h ch g
  refine ⟨fun unused => ⟨if_neg (by simp [unused]), if_neg (by simp [unused])⟩, fun used => ⟨?release, ?endOfRelease⟩⟩
  case release =>
    intro z' ch' g'
    have marked : (z.mark c true).orderly := h.mark true
    have apart : ch.state.waits = false → (z.mark c true).Apart c := fun calm => marked.apart (by rw [Zone.mark_get]; exact calm)
    have value {w : Zone} (e : z.releaseClaim cfg c = w) : z' = w := e
    refine ⟨?marker, fun hs => ?request, fun ⟨stage, hs⟩ there => ?released, fun hs => ?lockWait, fun hs away => ?locking,
      fun a hs => ?inhibitedOpen, fun hs => ?inhibited, fun hs => ?idle⟩
    case marker =>
      have kept := ((Zone.releaseClaim_within h used).inputs c).release
      rwa [Zone.setChan_get_self] at kept
    case request => exact h.releaseClaim_requests used hs
    case released =>
      have e := Zone.releaseClaim_eq (z := z) used
      rw [show (z.channels.get c).state = _ from hs] at e
      simp only [ch', value (e.trans (if_pos there)), Zone.enter_get_self, Channel.enter_state]
    case lockWait =>
      have e := Zone.releaseClaim_eq (z := z) used
      rw [show (z.channels.get c).state = _ from hs] at e
      simp only [ch', g', value e, Zone.enter_get_self, Channel.enter_state]
      exact ⟨trivial, (Zone.leave_free c _).1⟩
    case locking =>
      have e := Zone.releaseClaim_eq (z := z) used
      rw [show (z.channels.get c).state = _ from hs] at e
      have turns := (marked.turnOpen (cfg := cfg) (a := .expired) (by rw [Zone.mark_get]; exact hs)).2.2.2.1
      simp only [ch', value e]
      exact (turns (by rw [Zone.mark_get]; exact away)).1
    case inhibitedOpen =>
      have e := Zone.releaseClaim_eq (z := z) used
      rw [show (z.channels.get c).state = _ from hs] at e
      simp only [ch', value e, Zone.enter_get_self, Channel.enter_state]
      rfl
    case inhibited =>
      have e := Zone.releaseClaim_eq (z := z) used
      rcases hs with hs | hs
      · rw [show (z.channels.get c).state = _ from hs] at e
        simp only [ch', value e, Zone.enter_get_self, Channel.enter_state]
        rfl
      · rw [show (z.channels.get c).state = _ from hs] at e
        simp only [ch', value e, Zone.enter_get_self, Channel.enter_state]
        rfl
    case idle =>
      have e : z' = z.mark c true := by
        refine value ((Zone.releaseClaim_eq used).trans ?_)
        rcases hs with ⟨a, hs | hs⟩ | hs | hs <;> rw [show (z.channels.get c).state = _ from hs]
      simp only [ch', g', e, Zone.mark_get]
      exact ⟨rfl, rfl⟩
  case endOfRelease =>
    intro z' ch'
    have marked : (z.mark c false).orderly := h.mark false
    have e : z' = _ := Zone.endRelease_eq (z := z) used
    have same : (z.mark c false).doorOpen cfg c = z.doorOpen cfg c := by
      unfold Zone.doorOpen
      rw [Zone.mark_get]
    have holds (hs : ch.state = .released) := (marked.apart_of_state (st := .released) (by rw [Zone.mark_get]; exact hs) rfl).hold_expired
      (cfg := cfg) 32
    refine ⟨?marker, fun hs cabin opened => ?waitClose, fun hs shut delay => ?relock, fun ⟨a, hs⟩ => ?unlockWait,
      fun ⟨a, hs⟩ => ?unlocking, fun other idle => ?idle⟩
    case marker =>
      have kept := ((Zone.endRelease_within h used).inputs c).release
      rwa [Zone.setChan_get_self] at kept
    case waitClose =>
      rw [show (z.channels.get c).state = _ from hs] at e
      simp only [ch', e]
      exact (holds hs).1 cabin (same.trans opened)
    case relock =>
      rw [show (z.channels.get c).state = _ from hs] at e
      simp only [ch', e]
      exact (holds hs).2 (by rw [same]; exact shut) delay
    case unlockWait =>
      rw [show (z.channels.get c).state = _ from hs] at e
      simp only [ch', e, Zone.enter_get_self, Channel.enter_state]
    case unlocking =>
      rw [show (z.channels.get c).state = _ from hs] at e
      simp only [ch', e, Zone.enter_get_self, Channel.enter_state]
    case idle =>
      have marks : z' = z.mark c false := by
        rw [e]
        cases hs : (z.channels.get c).state with
        | released => exact absurd hs other
        | unlockWait a => exact absurd hs (idle a).1
        | unlocking a => exact absurd hs (idle a).2
        | _ => rfl
      simp only [ch', marks, Zone.mark_get]
      rfl

end Sys2Proof.Channels
end

section
/-! CHANNEL OPEN and CHANNEL LOCKOUT (R51, R59). -/

namespace Sys2Proof.Machine

variable {tag : Octet} {s u : State} {n v : Nat} {c : Chan} {f : Frame} {r : Reply}

theorem State.openable_iff : s.openable c = true ↔
    ¬(s.evac.state = .evacuation ∨ s.setup.kind c ≠ .cabin ∨ (s.zone.channels.get c).state = .off ∨
      (s.zone.channels.get c).state = .released ∨ (∃ t, (s.zone.channels.get c).state = .inhibited t) ∨
      (s.zone.channels.get c).state = .fault ∧ s.setup.policy.scope.get (groupOf c) = .group) := by
  have scope : s.setup.policy.scope.get (groupOf c) = .isolate ↔ ¬s.setup.policy.scope.get (groupOf c) = .group := by
    cases s.setup.policy.scope.get (groupOf c) <;> simp
  unfold State.openable
  cases (s.zone.channels.get c).state <;> simp [State.evacuating, scope, and_assoc]

theorem State.openable_arrive : (s.arrive f).openable c = s.openable c := by simp [State.openable, State.evacuating]

/-- What CHANNEL OPEN does once its channel and its flag are read. -/
def State.channelOpen (c : Chan) (forced : Bool) (s : State) : State × Reply :=
  if s.inMaintenance then (s, refuse .maintenance)
  else if !s.openable c then (s, refuse .state)
  else if (s.zone.channels.get c).privacy && !forced then (s, refuse .privacy)
  else ({ s with zone := s.zone.openClaim s.setup c }, ok (o1 ((s.zone.openClaim s.setup c).channels.get c).state.code))

theorem serveChannelOpen_body (ht : tag ≠ 0) (hn : n < 256) (hv : v < 256) :
    serveChannelOpen tag (be 1 n ++ be 1 v) s =
      match indexOf 32 n, flagOf v with
      | some c, some forced => ((s.channelOpen c forced).1.relockTest, (s.channelOpen c forced).2)
      | _, _ => (s.relockTest, refuse .range) := by
  rw [serveChannelOpen, framed_serves ht (by simp), zoned]
  dsimp only
  rw [fields_octets hn hv]
  dsimp only
  cases indexOf 32 n <;> cases flagOf v <;> rfl

theorem serveChannelLockout_body (ht : tag ≠ 0) (hn : n < 256) (hv : v < 256) :
    serveChannelLockout tag (be 1 n ++ be 1 v) s =
      match indexOf 32 n, flagOf v with
      | some c, some lockout => (s.onZone (·.setChan c (fun ch => { ch with lockout := lockout })), ok (flag lockout))
      | _, _ => (s, refuse .range) := by
  rw [serveChannelLockout, framed_serves ht (by simp)]
  rw [fields_octets hn hv] <;> rfl

theorem flagOf_bit (h : v < 2) : flagOf v = some (decide (v = 1)) := by
  interval_cases v <;> rfl

theorem index_or_flag_beyond (h : 32 ≤ n ∨ 2 ≤ v) : indexOf 32 n = none ∨ flagOf v = none :=
  h.imp indexOf_beyond flagOf_beyond

theorem flag_bit (h : v < 2) : flag (decide (v = 1)) = be 1 v := by
  interval_cases v <;> rfl

end Sys2Proof.Machine

namespace Sys2Proof.Channels
open Sys2Proof.Machine

/-- Settles O39: the checks of CHANNEL OPEN in their order, and the one marker of CHANNEL LOCKOUT. -/
theorem channelOpenAndChannelLockout : Obligations.ChannelOpenAndChannelLockout := by
  intro tag n v s ht hn hv
  refine ⟨fun turn => ⟨fun beyond => ?openRange, fun c hc bit => ?opens⟩, fun turn => ⟨fun beyond => ?lockoutRange, fun c hc bit => ?lockout⟩⟩
  case openRange =>
    refine next_request turn ?_
    rw [serveChannelOpen_body ht hn hv]
    rcases index_or_flag_beyond beyond with none | none
    · rw [none]; cases flagOf v <;> rfl
    · rw [none]; cases indexOf 32 n <;> rfl
  case opens =>
    subst hc
    intro ch barred z
    have served := serveChannelOpen_body (s := s.arrive ⟨0x09, tag, be 1 c.val ++ be 1 v⟩) ht hn hv
    simp only [indexOf_val, flagOf_bit bit] at served
    have openable : (s.arrive ⟨0x09, tag, be 1 c.val ++ be 1 v⟩).openable c = true ↔ ¬barred :=
      by rw [State.openable_arrive]; exact State.openable_iff
    refine ⟨fun mode => next_request turn ?_, fun mode bars => next_request turn ?_, fun mode free privacy zero => next_request turn ?_,
      fun mode free passes => next_request turn ?_⟩
    all_goals rw [served, State.channelOpen]
    · rw [if_pos (State.inMaintenance_of_maintenance (by simpa using mode))]
      rfl
    · rw [if_neg (by simp [State.inMaintenance_of_normal (s := s.arrive _) (by simpa using mode)]),
        if_pos (by simpa using fun x => openable.mp x bars)]
      rfl
    · rw [if_neg (by simp [State.inMaintenance_of_normal (s := s.arrive _) (by simpa using mode)]),
        if_neg (by simpa using openable.mpr free), if_pos (by simp [zero, show (s.zone.channels.get c).privacy = true from privacy])]
      rfl
    · have forced : ¬(((s.arrive ⟨0x09, tag, be 1 c.val ++ be 1 v⟩).zone.channels.get c).privacy && !decide (v = 1)) = true := by
        rcases passes with unset | forced
        · simp [show (s.zone.channels.get c).privacy = false from unset]
        · simp [forced]
      rw [if_neg (by simp [State.inMaintenance_of_normal (s := s.arrive _) (by simpa using mode)]),
        if_neg (by simpa using openable.mpr free), if_neg forced]
      simp only [State.arrive_zone, State.arrive_setup]
      rfl
  case lockoutRange =>
    refine next_request turn ?_
    rw [serveChannelLockout_body ht hn hv]
    rcases index_or_flag_beyond beyond with none | none
    · rw [none]; cases flagOf v <;> rfl
    · rw [none]; cases indexOf 32 n <;> rfl
  case lockout =>
    subst hc
    refine next_request turn ?_
    rw [serveChannelLockout_body ht hn hv, indexOf_val, flagOf_bit bit]
    dsimp only
    rw [flag_bit bit, State.onZone, State.arrive_zone]
    rfl

end Sys2Proof.Channels
end

section
/-! The bolt senses (R49, R52, R53, R55). -/

namespace Sys2Proof.Machine

variable {cfg : Setup} {c d : Chan} {g : Grp} {z z₁ zb z' w : Zone} {st : ChanState} {a : Hold} {n : Nat} {l : LaneNo} {s : State}

/-! ## A channel that does not drive has no drive timer and no slot -/

/-- The channel has no drive timer and holds no slot. -/
structure Zone.atRest (c : Chan) (z : Zone) : Prop where
  timer : (z.channels.get c).driveLeft = none
  slot0 : (z.groups.get (groupOf c)).slot0 ≠ some c
  slot1 : (z.groups.get (groupOf c)).slot1 ≠ some c

/-- The channel holds no slot. -/
def Zone.slotless (c : Chan) (z : Zone) : Prop :=
  (z.groups.get (groupOf c)).slot0 ≠ some c ∧ (z.groups.get (groupOf c)).slot1 ≠ some c

theorem Zone.slotless.enter (h : z.slotless c) (hs : st.drives = false) : (z.enter cfg c st).atRest c :=
  ⟨by rw [Zone.enter_get_self]; simp [Channel.enter, hs], h.1, h.2⟩

theorem Zone.slotless.waitClose (h : z.slotless c) : (z.waitClose cfg c).atRest c := by
  rcases Zone.waitClose_cases cfg c z with ⟨-, e⟩ | ⟨-, e⟩ <;> rw [e]
  · exact h.enter rfl
  · obtain ⟨timer, slot0, slot1⟩ := h.enter (cfg := cfg) (st := .lockWait) rfl
    refine ⟨timer, ?_, ?_⟩
    · rw [Zone.setGroup_get_self]; exact slot0
    · rw [Zone.setGroup_get_self]; exact slot1

theorem Zone.slotless.relock (h : z.slotless c) : (z.relock cfg c).atRest c := by
  unfold Zone.relock
  split
  · exact h.waitClose
  · exact h.enter rfl

theorem Zone.atRest.gateWithdrawn (h : z.atRest c) (l : LaneNo) : (z.gateWithdrawn cfg c l).atRest c := by
  have none : z.slotless c := ⟨h.slot0, h.slot1⟩
  unfold Zone.gateWithdrawn
  split
  · exact ⟨h.timer, h.slot0, h.slot1⟩
  · exact ⟨h.timer, h.slot0, h.slot1⟩
  · exact h
  · split
    · exact h
    · exact none.relock
  · split
    · exact h
    · exact none.relock

theorem Zone.slotless.hold (h : z.slotless c) : (z.hold cfg c a).atRest c := by
  unfold Zone.hold
  split
  · dsimp only
    split
    · exact (h.enter rfl).gateWithdrawn _
    · exact h.enter rfl
  · exact h.relock
  · exact h.enter rfl
  · split
    · exact h.enter rfl
    · exact h.relock

theorem Zone.leave_slotless (c : Chan) (z : Zone) : (z.leave c).slotless c := (z.leave_free c).2

theorem Zone.endDrive_atRest (hs : (z.channels.get c).state.drives = true) : (z.endDrive cfg c).atRest c := by
  unfold Zone.endDrive
  split
  · dsimp only
    split
    · exact (z.leave_slotless c).enter rfl
    · exact (z.leave_slotless c).hold
  · exact (z.leave_slotless c).enter rfl
  · next other other' =>
    cases st : (z.channels.get c).state with
    | unlocking a => exact absurd st (other a)
    | locking => exact absurd st other'
    | _ => simp [st, ChanState.drives] at hs

/-- The channel drives, or is at rest. -/
def Zone.tidy (c : Chan) (z : Zone) : Prop := (z.channels.get c).state.drives = false → z.atRest c

theorem Zone.drive_tidy (hd : st.drives = true) : (z.drive cfg c st).tidy c := by
  have begun : ((z.setChan c (·.begin cfg c st)).channels.get c).state.drives = true := by
    rw [Zone.setChan_get_self]; exact hd
  rcases z.drive_cases cfg c st with e | e <;> rw [e]
  · exact fun still => absurd (begun.symm.trans still) (by simp)
  · exact fun _ => Zone.endDrive_atRest begun

theorem Zone.tidy.grant (h : z.tidy c) (own : ∀ d ∈ (z.groups.get (groupOf c)).queue, groupOf d = groupOf c) :
    (z.grant cfg (groupOf c)).tidy c := by
  rcases z.grant_cases cfg (groupOf c) with e | ⟨d, rest, st, hq, room, drives, -, e⟩ <;> rw [e]
  · exact h
  · have hd : st.drives = true := by rcases drives with rfl | ⟨a, -, rfl⟩ <;> rfl
    by_cases same : d = c
    · subst same
      exact Zone.drive_tidy hd
    · have here : groupOf d = groupOf c := own d (by simp [hq])
      have by_d := (Zone.By.granted (cfg := cfg) here hq room).andThen (.drive (st := st))
      unfold Zone.By at by_d
      rw [here] at by_d
      have other : ¬c = d := fun e => same e.symm
      intro still
      rw [by_d.channels c other] at still
      obtain ⟨timer, slot0, slot1⟩ := h still
      exact ⟨by rw [by_d.channels c other]; exact timer, (by_d.slots c other).1.not.mpr slot0, (by_d.slots c other).2.not.mpr slot1⟩

theorem Zone.tidy.grants (h : z.tidy c) (own : ∀ d ∈ (z.groups.get (groupOf c)).queue, groupOf d = groupOf c) (n : Nat) :
    (z.grants cfg (groupOf c) n).tidy c := by
  induction n generalizing z with
  | zero => exact h
  | succ n ih =>
    have sub := (Zone.grant_within (cfg := cfg) own).queue_sub fun _ hd => hd
    exact ih (h.grant own) fun d hd => own d (sub d hd)

/-! ## The end of an opening drive -/

theorem Zone.orderly.own (h : z.orderly) (c : Chan) : ∀ d ∈ (z.groups.get (groupOf c)).queue, groupOf d = groupOf c :=
  fun d hd => (h.2.1 _ d hd).1

theorem Zone.orderly.ended_tidy (h : z.orderly) (hs : (z.channels.get c).state.drives = true) :
    ((z.endDrive cfg c).settle cfg c).tidy c :=
  Zone.tidy.grants (fun _ => Zone.endDrive_atRest hs) (h.endDrive.own c) 32

/-- The room that a channel which drives leaves behind. -/
theorem Zone.orderly.leave_room (h : z.orderly) (hs : (z.channels.get c).state.drives = true) :
    ((z.leave c).groups.get (groupOf c)).slot0 = none ∨ ((z.leave c).groups.get (groupOf c)).slot1 = none := by
  rw [Zone.leave_get, if_pos rfl]
  rcases h.2.2 c hs with held | held
  · exact .inl (if_pos held)
  · exact .inr (if_pos held)

/-- An opening drive that ends in an expired hold which relocks at once toward a bolt that is not home. -/
theorem Zone.orderly.ended_locking (h : z.orderly) (hs : (z.channels.get c).state = .unlocking .expired)
    (hr : (z.channels.get c).release = false) (shut : cfg.kind c = .gate ∨ z.doorOpen cfg c = false)
    (atOnce : cfg.timing.relockDelay = 0) (inhibited : (z.groups.get (groupOf c)).inhibited = false)
    (empty : (z.groups.get (groupOf c)).queue = []) (away : (z.channels.get c).home = false) :
    (((z.endDrive cfg c).settle cfg c).channels.get c).state = .locking := by
  have closes := (h.leave c).closeRequest (cfg := cfg)
  have group : (z.leave c).groups.get (groupOf c) = (z.groups.get (groupOf c)).leave c := by rw [Zone.leave_get, if_pos rfl]
  have inhibited' : ((z.leave c).groups.get (groupOf c)).inhibited = false := by rw [group]; exact inhibited
  have empty' : ((z.leave c).groups.get (groupOf c)).queue = [] := by rw [group, Group.leave, empty]; rfl
  rw [Zone.endDrive_hold hs hr, Zone.hold_expired_relock (z := z.leave c) shut, Zone.relock_at_once atOnce]
  by_cases free0 : ((z.leave c).groups.get (groupOf c)).slot0 = none
  · exact (closes.first inhibited' empty' away free0).1
  · have free1 := (h.leave_room (by rw [hs]; rfl)).resolve_left free0
    exact (closes.second inhibited' empty' away free0 free1).1

/-! ## The events -/

theorem execBoltWithdrawnSense_off (h : (s.zone.channels.get c).state = .off) (v : Bool) :
    execBoltWithdrawnSense c v s = .next { s with pins := { s.pins with withdrawn := vset s.pins.withdrawn c v } } :=
  congrArg _ (if_neg (by simp [State.watches, h]))

theorem execBoltHomeSense_off (h : (s.zone.channels.get c).state = .off) (v : Bool) :
    execBoltHomeSense c v s = .next { s with pins := { s.pins with home := vset s.pins.home c v } } :=
  congrArg _ (if_neg (by simp [State.watches, h]))

theorem execBoltWithdrawnSense_watched (h : (s.zone.channels.get c).state ≠ .off) (v : Bool) :
    execBoltWithdrawnSense c v s =
      .next (({ s with pins := { s.pins with withdrawn := vset s.pins.withdrawn c v } }.withdrawnSense c v).closeZone) :=
  congrArg _ (if_pos (by simpa [State.watches] using h))

theorem execBoltHomeSense_watched (h : (s.zone.channels.get c).state ≠ .off) (v : Bool) :
    execBoltHomeSense c v s = .next (({ s with pins := { s.pins with home := vset s.pins.home c v } }.homeSense c v).closeZone) :=
  congrArg _ (if_pos (by simpa [State.watches] using h))

/-- A withdrawn sense that ends no drive and is not lost where the channel rests. -/
theorem State.withdrawnSense_taken {v : Bool}
    (rests : (s.zone.channels.get c).state.isOpenHold = false ∨ (s.zone.channels.get c).withdrawn = false ∨ v = true)
    (drives : ∀ a, (s.zone.channels.get c).state = .unlocking a → v = false) :
    s.withdrawnSense c v = s.onZone (·.setChan c (fun ch => { ch with withdrawn := v })) := by
  unfold State.withdrawnSense
  dsimp only [State.onZone]
  rw [Zone.setChan_get_self]
  dsimp only
  split
  · next a hs => rw [if_neg (by simp [drives a hs])]
  · next st hs =>
    rw [if_neg]
    rcases rests with still | was | now
    · simp [hs, ChanState.isOpenHold] at still
    · simp [was]
    · simp [now]
  · rfl

theorem State.homeSense_taken {v : Bool}
    (rests : (s.zone.channels.get c).state ≠ .locked ∨ (s.zone.channels.get c).home = false ∨ v = true)
    (drives : (s.zone.channels.get c).state = .locking → v = false) :
    s.homeSense c v = s.onZone (·.setChan c (fun ch => { ch with home := v })) := by
  unfold State.homeSense
  dsimp only [State.onZone]
  rw [Zone.setChan_get_self]
  dsimp only
  split
  · next hs => rw [if_neg (by simp [drives hs])]
  · next hs =>
    rw [if_neg]
    rcases rests with still | was | now
    · exact absurd hs still
    · simp [was]
    · simp [now]
  · rfl

theorem State.withdrawnSense_ends (h : (s.zone.channels.get c).state = .unlocking a) :
    s.withdrawnSense c true = { s with
      zone := ((s.zone.setChan c (fun ch => { ch with withdrawn := true })).endDrive s.setup c).settle s.setup c } := by
  unfold State.withdrawnSense
  dsimp only [State.onZone]
  rw [Zone.setChan_get_self]
  dsimp only
  rw [h]
  rfl

theorem State.homeSense_ends (h : (s.zone.channels.get c).state = .locking) :
    s.homeSense c true = { s with
      zone := ((s.zone.setChan c (fun ch => { ch with home := true })).endDrive s.setup c).settle s.setup c } := by
  unfold State.homeSense
  dsimp only [State.onZone]
  rw [Zone.setChan_get_self]
  dsimp only
  rw [h]
  rfl

end Sys2Proof.Machine

namespace Sys2Proof.Channels
open Sys2Proof.Machine

/-- Settles O40: a drive that ends is followed from the zone in which its sense is written. -/
theorem theBoltSensesEndTheDrive : Obligations.TheBoltSensesEndTheDrive := by
  intro c v s h ch cfg
  refine ⟨⟨fun off => execBoltWithdrawnSense_off off v, fun on rests drives => ?withdrawnTaken, fun a hs => ?opens⟩,
    ⟨fun off => execBoltHomeSense_off off v, fun on rests drives => ?homeTaken, fun hs => ?closes⟩⟩
  case withdrawnTaken =>
    exact (execBoltWithdrawnSense_watched on v).trans
      (congrArg (fun t : State => Host.Outcome.next t.closeZone) (State.withdrawnSense_taken rests drives))
  case homeTaken =>
    exact (execBoltHomeSense_watched on v).trans
      (congrArg (fun t : State => Host.Outcome.next t.closeZone) (State.homeSense_taken rests drives))
  case opens =>
    have hs : (s.zone.channels.get c).state = .unlocking a := hs
    refine ⟨((s.zone.setChan c (fun ch => { ch with withdrawn := true })).endDrive s.setup c).settle s.setup c,
      (execBoltWithdrawnSense_watched (by simp [hs]) true).trans
      (congrArg (fun t : State => Host.Outcome.next t.closeZone) (State.withdrawnSense_ends hs)), ?_⟩
    generalize hw : s.zone.setChan c (fun ch => { ch with withdrawn := true }) = w
    have orderly : w.orderly := hw ▸ h.setChan rfl
    have chan : w.channels.get c = { s.zone.channels.get c with withdrawn := true } := by rw [← hw, Zone.setChan_get_self]
    have state : (w.channels.get c).state = .unlocking a := by rw [chan]; exact hs
    have drives : (w.channels.get c).state.drives = true := by rw [state]; rfl
    have groups : w.groups = s.zone.groups := by rw [← hw]; rfl
    have lanes : w.lanes = s.zone.lanes := by rw [← hw]; rfl
    have marker : (w.channels.get c).release = ch.release := by rw [chan]
    have door : (w.leave c).doorOpen s.setup c = s.zone.doorOpen s.setup c := by
      simp only [Zone.doorOpen, Zone.leave_channels, chan]
    have laneOf : (w.leave c).laneOf s.setup c = s.zone.laneOf s.setup c := Zone.laneOf_congr (fun l => by rw [Zone.leave_lanes, lanes]) c
    have within := (Zone.By.endDrive (cfg := s.setup)).settled (c := c) orderly
    have left := orderly.leave c
    refine ⟨?around, ?sense, fun still => ?rest, fun hr => ?released, fun hr cabin fresh => ?holding, fun hr cabin expired opened => ?waitClose,
      fun hr expired shut delay => ?relock, fun hr expired shut atOnce inhibited empty away => ?locking,
      fun hr gate fresh => ⟨fun none => ?alone, fun l named => ?lane⟩⟩
    case around =>
      subst hw
      exact within.around_setChan
    case sense =>
      have kept := (within.inputs c).withdrawn
      rw [chan] at kept
      exact kept
    case rest =>
      obtain ⟨timer, slot0, slot1⟩ := orderly.ended_tidy drives still
      exact ⟨timer, slot0, slot1⟩
    case released => exact (Zone.ended_release orderly state (marker.trans hr) 32).1
    case holding =>
      subst fresh
      exact (Zone.ended_cabin orderly state (marker.trans hr) cabin 32).1
    case waitClose =>
      subst expired
      rw [Zone.endDrive_hold state (marker.trans hr)]
      exact (left.hold_expired 32).1 cabin (door.trans opened)
    case relock =>
      subst expired
      rw [Zone.endDrive_hold state (marker.trans hr)]
      exact (left.hold_expired 32).2 (by rw [door]; exact shut) delay
    case locking =>
      subst expired
      exact orderly.ended_locking state (marker.trans hr) (door ▸ shut) atOnce (by rw [groups]; exact inhibited)
        (by rw [groups]; exact empty) (by rw [chan]; exact away)
    case alone =>
      subst fresh
      rw [Zone.endDrive_hold state (marker.trans hr)]
      exact left.hold_gate_alone gate (laneOf.trans none) 32
    case lane =>
      subst fresh
      rw [Zone.endDrive_hold state (marker.trans hr)]
      have report := left.hold_gate_lane gate (laneOf.trans named) 32
      simp only [Zone.leave_lanes, lanes, Zone.leave_channels] at report
      obtain ⟨released, closing, heldOpen, idle⟩ := report
      exact ⟨released, closing, heldOpen, fun rests delay => (idle rests).2 (marker.trans hr) delay⟩
  case closes =>
    have hs : (s.zone.channels.get c).state = .locking := hs
    refine ⟨((s.zone.setChan c (fun ch => { ch with home := true })).endDrive s.setup c).settle s.setup c,
      (execBoltHomeSense_watched (by simp [hs]) true).trans
      (congrArg (fun t : State => Host.Outcome.next t.closeZone) (State.homeSense_ends hs)), ?_⟩
    generalize hw : s.zone.setChan c (fun ch => { ch with home := true }) = w
    have orderly : w.orderly := hw ▸ h.setChan rfl
    have state : (w.channels.get c).state = .locking := by rw [← hw, Zone.setChan_get_self]; exact hs
    have around := (Zone.By.endDrive (cfg := s.setup)).settled (c := c) orderly
    obtain ⟨locked, -, slot0, slot1⟩ := Zone.ended_locked (cfg := s.setup) orderly state 32
    have rest := orderly.ended_tidy (cfg := s.setup) (by rw [state]; rfl) (congrArg ChanState.drives locked)
    refine ⟨?_, (around.inputs c).home.trans (by rw [← hw, Zone.setChan_get_self]), locked, rest.timer,
      slot0, slot1⟩
    subst hw
    exact around.around_setChan

end Sys2Proof.Channels
end

section
/-! The timers of a channel (R53, R54, R57). -/

namespace Sys2Proof.Machine

variable {cfg : Setup} {c : Chan} {s : State}

/-- An expired hold of a CABIN channel. -/
theorem execHoldTimerExpiry_runs {n : Nat} (h : (s.zone.channels.get c).state = .openHold (.holding n)) :
    execHoldTimerExpiry c s = .next ({ s with zone := (s.zone.hold s.setup c .expired).settle s.setup c }.closeZone) := by
  rw [execHoldTimerExpiry, h] <;> rfl

theorem execHoldTimerExpiry_none (h : ∀ n, (s.zone.channels.get c).state ≠ .openHold (.holding n)) :
    execHoldTimerExpiry c s = .next s := by
  unfold execHoldTimerExpiry
  split
  · next n hs => exact absurd hs (h n)
  · rfl

theorem execRelockDelayExpiry_runs {n : Nat} (h : (s.zone.channels.get c).state = .openHold (.relockDelay n)) :
    execRelockDelayExpiry c s = .next ({ s with zone := (s.zone.waitClose s.setup c).settle s.setup c }.closeZone) := by
  rw [execRelockDelayExpiry, h] <;> rfl

theorem execRelockDelayExpiry_none (h : ∀ n, (s.zone.channels.get c).state ≠ .openHold (.relockDelay n)) :
    execRelockDelayExpiry c s = .next s := by
  unfold execRelockDelayExpiry
  split
  · next n hs => exact absurd hs (h n)
  · rfl

end Sys2Proof.Machine

namespace Sys2Proof.Channels
open Sys2Proof.Machine

/-- Settles O41: each timer, with what the request of the relock comes to. -/
theorem theChannelTimersRunOut : Obligations.TheChannelTimersRunOut := by
  intro c s h ch cfg g requests
  have closes {z : Zone} (x : Zone.ClosesTo cfg c ch g z) : requests z :=
    ⟨x.inhibited, x.full, fun i empty away => ⟨x.first i empty away, x.second i empty away⟩, x.home⟩
  refine ⟨execHoldTimerExpiry_none, fun n hs cabin => ?hold, execRelockDelayExpiry_none, fun n hs => ?relock, fun stopped => ?_, fun n running => ?_⟩
  case hold =>
    have apart : s.zone.Apart c := h.apart_of_state hs rfl
    refine ⟨_, execHoldTimerExpiry_runs hs, (Zone.By.hold.settled h).around_self, (apart.hold_expired 32).1 cabin,
      fun shut => (apart.hold_expired 32).2 (.inr shut), fun shut atOnce => closes ?_⟩
    rw [Zone.hold_expired_relock (.inr shut), Zone.relock_at_once atOnce]
    exact apart.closeRequest
  case relock =>
    have apart : s.zone.Apart c := h.apart_of_state hs rfl
    exact ⟨_, execRelockDelayExpiry_runs hs, (Zone.By.waitClose.settled h).around_self, closes apart.closeRequest⟩
  · change execDoorHeldExpiry c s = .next s
    rw [execDoorHeldExpiry, show (s.zone.channels.get c).doorHeld = Option.none from stopped] <;> rfl
  · change execDoorHeldExpiry c s = _
    rw [execDoorHeldExpiry, show (s.zone.channels.get c).doorHeld = some n from running] <;> rfl

end Sys2Proof.Channels
end

section
/-! The qualified door contact, the pulse, the gate's contact and the privacy input (R49, R54 to R60). -/

namespace Sys2Proof.Machine

variable {cfg : Setup} {c d : Chan} {g : Grp} {z z₁ z' : Zone} {st : ChanState} {a : Hold} {n : Nat} {s : State} {active : Bool}
  {P : Channel → Prop}

/-! ## What every entry of a state keeps of a channel's record -/

/-- A property of a channel's record that holds through every state it enters and every drive it begins. -/
def Channel.Lasting (cfg : Setup) (P : Channel → Prop) : Prop :=
  ∀ d ch st, P ch → P (ch.enter cfg d st) ∧ P (ch.begin cfg d st)

/-- The property holds of every channel in `z'` of which it holds in `z`. -/
def Zone.Hands (P : Channel → Prop) (z z' : Zone) : Prop := ∀ d, P (z.channels.get d) → P (z'.channels.get d)

theorem Zone.Hands.refl (z : Zone) : z.Hands P z := fun _ h => h

theorem Zone.Hands.setChan {f : Channel → Channel} (h : ∀ ch, P ch → P (f ch)) : z.Hands P (z.setChan c f) := by
  intro d hd
  by_cases e : d = c
  · subst e; rw [Zone.setChan_get_self]; exact h _ hd
  · rwa [Zone.setChan_get_other _ _ _ _ e]

section
variable (lasting : Channel.Lasting cfg P)
include lasting

theorem Zone.Hands.enter : z.Hands P (z.enter cfg c st) := .setChan fun ch h => (lasting c ch st h).1

theorem Zone.Hands.waitClose : z.Hands P (z.waitClose cfg c) := by
  rcases Zone.waitClose_cases cfg c z with ⟨-, e⟩ | ⟨-, e⟩ <;> rw [e]
  · exact .enter lasting
  · exact fun d hd => Zone.Hands.enter lasting d hd

theorem Zone.Hands.relock : z.Hands P (z.relock cfg c) := by
  unfold Zone.relock
  split
  · exact .waitClose lasting
  · exact .enter lasting

theorem Zone.Hands.gateWithdrawn {l : LaneNo} : z.Hands P (z.gateWithdrawn cfg c l) := by
  unfold Zone.gateWithdrawn
  split
  · exact .refl z
  · exact .refl z
  · exact .refl z
  · split
    · exact .refl z
    · exact .relock lasting
  · split
    · exact .refl z
    · exact .relock lasting

theorem Zone.Hands.hold : z.Hands P (z.hold cfg c a) := by
  unfold Zone.hold
  split
  · dsimp only
    split
    · exact fun d hd => Zone.Hands.gateWithdrawn lasting d (Zone.Hands.enter lasting d hd)
    · exact .enter lasting
  · exact .relock lasting
  · exact .enter lasting
  · split
    · exact .enter lasting
    · exact .relock lasting

theorem Zone.Hands.endDrive : z.Hands P (z.endDrive cfg c) := by
  unfold Zone.endDrive
  split
  · dsimp only
    split
    · exact fun d hd => Zone.Hands.enter (z := z.leave c) lasting d hd
    · exact fun d hd => Zone.Hands.hold (z := z.leave c) lasting d hd
  · exact fun d hd => Zone.Hands.enter (z := z.leave c) lasting d hd
  · exact .refl z

theorem Zone.Hands.drive : z.Hands P (z.drive cfg c st) := by
  have begun : z.Hands P (z.setChan c (·.begin cfg c st)) := .setChan fun ch h => (lasting c ch st h).2
  rcases z.drive_cases cfg c st with e | e <;> rw [e]
  · exact begun
  · exact fun d hd => Zone.Hands.endDrive lasting d (begun d hd)

theorem Zone.Hands.grants (n : Nat) : z.Hands P (z.grants cfg g n) := by
  induction n generalizing z with
  | zero => exact .refl z
  | succ n ih =>
    intro d hd
    refine ih d ?_
    rcases z.grant_cases cfg g with e | ⟨k, rest, st, -, -, -, -, e⟩ <;> rw [e]
    · exact hd
    · exact Zone.Hands.drive (z := z.setGroup g _) lasting d hd

theorem Zone.Hands.settle : z.Hands P (z.settle cfg c) := .grants lasting 32

end

/-- The door is shut, and neither its timer nor its marker is set. -/
structure Channel.DoorAtRest (ch : Channel) : Prop where
  contact : ch.contact = false
  doorHeld : ch.doorHeld = none
  heldReported : ch.heldReported = false

theorem Channel.doorAtRest_lasting : Channel.Lasting cfg Channel.DoorAtRest := by
  intro d ch st ⟨contact, held, reported⟩
  have entered : (ch.enter cfg d st).DoorAtRest :=
    ⟨contact, by simp [Channel.enter, contact, held], by simp [Channel.enter, reported]⟩
  exact ⟨entered, entered.contact, entered.doorHeld, entered.heldReported⟩

/-! ## One channel's record, written twice -/

theorem Zone.setChan_setChan (c : Chan) (f k : Channel → Channel) (z : Zone) :
    (z.setChan c f).setChan c k = z.setChan c (fun ch => k (f ch)) := by
  unfold Zone.setChan vmod
  dsimp only
  rw [vget_vset_self]
  simp [vset]

theorem Zone.changesAround_of_setChan {f : Channel → Channel} (h : (z.setChan c f).changesAround cfg c z') :
    z.changesAround cfg c z' := by
  obtain ⟨channels, groups, lanes⟩ := h
  refine ⟨fun d hd => ?_, groups, lanes⟩
  rw [channels d hd, Zone.setChan_get_other]
  exact fun e => hd (e ▸ List.mem_cons_self)

/-! ## The door opens and closes -/

/-- The door field of a channel, as its opening writes it. -/
def Zone.openDoor (c : Chan) (z : Zone) : Zone := z.setChan c (fun ch => { ch with contact := true })

/-- The door field, timer and marker of a channel, as its closing writes them. -/
def Zone.shutDoor (c : Chan) (z : Zone) : Zone :=
  z.setChan c (fun ch => { ch with contact := false, doorHeld := none, heldReported := false })

theorem Zone.openDoor_get : (z.openDoor c).channels.get c = { z.channels.get c with contact := true } := Zone.setChan_get_self _ _ _

theorem Zone.shutDoor_get : (z.shutDoor c).channels.get c =
    { z.channels.get c with contact := false, doorHeld := none, heldReported := false } := Zone.setChan_get_self _ _ _

theorem Zone.doorOpens_relockDelay (h : (z.channels.get c).state = .openHold (.relockDelay n)) :
    z.doorOpens cfg c = z.setChan c (fun ch => { ch with
      contact := true, state := .openHold .waitClose, doorHeld := some (cfg.timing.doorHeld * 1000), driveLeft := none, oc := none }) := by
  have state : ((z.openDoor c).channels.get c).state = .openHold (.relockDelay n) := by rw [Zone.openDoor_get]; exact h
  have unfolded : z.doorOpens cfg c = ((z.openDoor c).enter cfg c (.openHold .waitClose)).setChan c
      (fun ch => { ch with doorHeld := some (cfg.timing.doorHeld * 1000) }) := by
    unfold Zone.doorOpens
    dsimp only
    rw [show ((z.setChan c (fun ch => { ch with contact := true })).channels.get c).state = _ from state] <;> rfl
  rw [unfolded, Zone.enter, Zone.openDoor, Zone.setChan_setChan, Zone.setChan_setChan]
  unfold Zone.setChan vmod
  simp [Channel.enter, h, ChanState.isOpenHold, ChanState.drives]

theorem Zone.doorOpens_hold {stage : HoldStage} (h : (z.channels.get c).state = .openHold stage) (other : ∀ n, stage ≠ .relockDelay n) :
    z.doorOpens cfg c = z.setChan c (fun ch => { ch with contact := true, doorHeld := some (cfg.timing.doorHeld * 1000) }) := by
  have state : ((z.openDoor c).channels.get c).state = .openHold stage := by rw [Zone.openDoor_get]; exact h
  rw [← Zone.setChan_setChan c (fun ch => { ch with contact := true })
    (fun ch => { ch with doorHeld := some (cfg.timing.doorHeld * 1000) })]
  unfold Zone.doorOpens
  dsimp only
  rw [show ((z.setChan c (fun ch => { ch with contact := true })).channels.get c).state = _ from state]
  cases stage with
  | relockDelay n => exact absurd rfl (other n)
  | _ => rfl

theorem Zone.doorOpens_lockWait (h : (z.channels.get c).state = .lockWait) :
    z.doorOpens cfg c = ((z.openDoor c).leave c).enter cfg c (.openHold .waitClose) := by
  have state : ((z.openDoor c).channels.get c).state = .lockWait := by rw [Zone.openDoor_get]; exact h
  unfold Zone.doorOpens
  dsimp only
  rw [show ((z.setChan c (fun ch => { ch with contact := true })).channels.get c).state = _ from state] <;> rfl

theorem Zone.doorOpens_locking (h : (z.channels.get c).state = .locking) :
    z.doorOpens cfg c = ((z.openDoor c).drive cfg c (.unlocking .expired)).settle cfg c := by
  have state : ((z.openDoor c).channels.get c).state = .locking := by rw [Zone.openDoor_get]; exact h
  unfold Zone.doorOpens
  dsimp only
  rw [show ((z.setChan c (fun ch => { ch with contact := true })).channels.get c).state = _ from state] <;> rfl

theorem Zone.doorOpens_other (hold : (z.channels.get c).state.isOpenHold = false) (wait : (z.channels.get c).state ≠ .lockWait)
    (lock : (z.channels.get c).state ≠ .locking) : z.doorOpens cfg c = z.openDoor c := by
  have state : ((z.openDoor c).channels.get c).state = (z.channels.get c).state := by rw [Zone.openDoor_get]
  unfold Zone.doorOpens
  dsimp only
  rw [show ((z.setChan c (fun ch => { ch with contact := true })).channels.get c).state = _ from state]
  cases hs : (z.channels.get c).state with
  | openHold stage => simp [hs, ChanState.isOpenHold] at hold
  | lockWait => exact absurd hs wait
  | locking => exact absurd hs lock
  | _ => rfl

theorem Zone.doorCloses_waitClose (h : (z.channels.get c).state = .openHold .waitClose) :
    z.doorCloses cfg c = ((z.shutDoor c).relock cfg c).settle cfg c := by
  have state : ((z.shutDoor c).channels.get c).state = .openHold .waitClose := by rw [Zone.shutDoor_get]; exact h
  unfold Zone.doorCloses
  dsimp only
  rw [show ((z.setChan c (fun ch => { ch with contact := false, doorHeld := none, heldReported := false })).channels.get c).state = _
    from state] <;> rfl

theorem Zone.doorCloses_other (h : (z.channels.get c).state ≠ .openHold .waitClose) : z.doorCloses cfg c = z.shutDoor c := by
  have state : ((z.shutDoor c).channels.get c).state = (z.channels.get c).state := by rw [Zone.shutDoor_get]
  unfold Zone.doorCloses
  dsimp only
  split
  · next hs => exact absurd (state.symm.trans hs) h
  · rfl

theorem Channel.enter_doorHeld {ch : Channel} (hold : st.isOpenHold = true) (was : ch.state.isOpenHold = false)
    (watched : cfg.watched c = true) (opened : ch.contact = true) :
    (ch.enter cfg c st).doorHeld = some (cfg.timing.doorHeld * 1000) := by simp [Channel.enter, hold, was, watched, opened]

theorem Zone.doorOpens_within (h : z.orderly) :
    (z.openDoor c).Within cfg ((z.openDoor c).near c) (groupOf c) (z.doorOpens cfg c) := by
  have h₁ : (z.openDoor c).orderly := h.setChan rfl
  unfold Zone.doorOpens
  dsimp only
  split
  · exact (Zone.By.enter.andThen (.setChan ⟨rfl, rfl, rfl, rfl⟩)).near
  · exact (Zone.By.setChan ⟨rfl, rfl, rfl, rfl⟩).near
  · exact (Zone.By.leave.andThen .enter).near
  · exact Zone.By.drive.settled h₁
  · exact .refl _

/-- The door opens under a closing drive whose bolt is still withdrawn: the drive that turns ends at once (R55). -/
theorem Zone.orderly.doorOpens_turned (h : z.orderly) (hs : (z.channels.get c).state = .locking)
    (there : (z.channels.get c).withdrawn = true) (watched : cfg.watched c = true) :
    (z.doorOpens cfg c).free c ∧
      ((z.channels.get c).release = true → ((z.doorOpens cfg c).channels.get c).state = .released) ∧
      ((z.channels.get c).release = false → ((z.doorOpens cfg c).channels.get c).state = .openHold .waitClose ∧
        ((z.doorOpens cfg c).channels.get c).doorHeld = some (cfg.timing.doorHeld * 1000)) := by
  rw [Zone.doorOpens_locking hs]
  have chan : (z.openDoor c).channels.get c = { z.channels.get c with contact := true } := Zone.openDoor_get
  generalize hw : z.openDoor c = w at chan
  have orderly : w.orderly := hw ▸ h.setChan rfl
  obtain ⟨zb_orderly, state, inputs, -, ended⟩ := orderly.turnOpen (cfg := cfg) (a := .expired) (by rw [chan]; exact hs)
  rw [ended (by rw [chan]; exact there)]
  have marker : ((w.setChan c (·.begin cfg c (.unlocking .expired))).channels.get c).release = (z.channels.get c).release := by
    rw [inputs.release, chan]
  have contact : ((w.setChan c (·.begin cfg c (.unlocking .expired))).channels.get c).contact = true := by rw [inputs.contact, chan]
  generalize w.setChan c (·.begin cfg c (.unlocking .expired)) = zb at zb_orderly state marker contact
  cases hr : (z.channels.get c).release with
  | true =>
    obtain ⟨released, free⟩ := Zone.ended_release (cfg := cfg) zb_orderly state (marker.trans hr) 32
    exact ⟨free, fun _ => released, fun no => by simp at no⟩
  | false =>
    obtain ⟨cabin, level⟩ : (cfg.channels.get c).kind = .cabin ∧ (cfg.channels.get c).mode = .level := by
      simpa [Setup.watched] using watched
    have opened : (zb.leave c).doorOpen cfg c = true := by simp [Zone.doorOpen, level, contact]
    have left := zb_orderly.leave c
    have spares := (left.enter (cfg := cfg) (.openHold .waitClose)).grants (cfg := cfg) 32
    rw [Zone.endDrive_hold state (marker.trans hr), Zone.hold_cabin_expired cabin, if_pos opened]
    refine ⟨spares.free (zb.leave_free c).enter, fun no => by simp at no, fun _ => ⟨left.entered 32, ?_⟩⟩
    rw [spares.channel, Zone.enter_get_self]
    exact Channel.enter_doorHeld rfl (by rw [Zone.leave_channels, state]; rfl) watched contact

/-- The door opens in a closing stage whose bolt is not at the open end (R54, R55). -/
theorem Zone.orderly.doorOpens_closing (h : z.orderly) (watched : cfg.watched c = true) :
    ((z.channels.get c).state = .lockWait →
      ((z.doorOpens cfg c).channels.get c).state = .openHold .waitClose ∧
        ((z.doorOpens cfg c).channels.get c).doorHeld = some (cfg.timing.doorHeld * 1000) ∧
        c ∉ ((z.doorOpens cfg c).groups.get (groupOf c)).queue) ∧
      ((z.channels.get c).state = .locking → (z.channels.get c).withdrawn = false →
        ((z.doorOpens cfg c).channels.get c).state = .unlocking .expired) := by
  refine ⟨fun hs => ?_, fun hs away => ?_⟩
  · rw [Zone.doorOpens_lockWait hs, Zone.enter_get_self, Zone.leave_channels, Zone.openDoor_get]
    exact ⟨rfl, Channel.enter_doorHeld rfl (by rw [hs]; rfl) watched rfl, ((z.openDoor c).leave_free c).1⟩
  · have orderly : (z.openDoor c).orderly := h.setChan rfl
    obtain ⟨-, -, -, turns, -⟩ := orderly.turnOpen (cfg := cfg) (a := .expired) (by rw [Zone.openDoor_get]; exact hs)
    rw [Zone.doorOpens_locking hs]
    exact (turns (by rw [Zone.openDoor_get]; exact away)).1

theorem Zone.orderly.doorOpens_contact (h : z.orderly) : ((z.doorOpens cfg c).channels.get c).contact = true := by
  have opened : (z.openDoor c).Within cfg ((z.openDoor c).near c) (groupOf c) (z.doorOpens cfg c) := Zone.doorOpens_within h
  rw [(opened.inputs c).contact, Zone.openDoor_get]

/-- A request to close that is the next one (R55, R62). -/
theorem Zone.ClosesTo.next {ch : Channel} {x : Group} (h : Zone.ClosesTo cfg c ch x z') (inhibited : x.inhibited = false)
    (empty : x.queue = []) (room : x.slot0 = none ∨ x.slot1 = none) :
    (z'.channels.get c).state = if ch.home then .locked else .locking := by
  cases home : ch.home with
  | true => exact (h.home inhibited empty room home).1
  | false =>
    by_cases free0 : x.slot0 = none
    · exact (h.first inhibited empty home free0).1
    · exact (h.second inhibited empty home free0 (room.resolve_left free0)).1

/-- The door closes in WAIT_CLOSE (R54, R57). -/
theorem Zone.orderly.doorCloses_waited (h : z.orderly) (hs : (z.channels.get c).state = .openHold .waitClose) :
    ((z.doorCloses cfg c).channels.get c).DoorAtRest ∧
      (cfg.timing.relockDelay ≠ 0 →
        ((z.doorCloses cfg c).channels.get c).state = .openHold (.relockDelay (cfg.timing.relockDelay * 1000))) ∧
      (cfg.timing.relockDelay = 0 →
        Zone.ClosesTo cfg c (z.channels.get c) (z.groups.get (groupOf c)) (z.doorCloses cfg c)) := by
  have chan : (z.shutDoor c).channels.get c = _ := Zone.shutDoor_get
  have groups : (z.shutDoor c).groups = z.groups := rfl
  rw [Zone.doorCloses_waitClose hs]
  have orderly : (z.shutDoor c).orderly := h.setChan rfl
  generalize z.shutDoor c = w at chan groups orderly
  have apart : w.Apart c := orderly.apart_of_state (st := .openHold .waitClose) (by rw [chan, hs]) rfl
  have rest : (w.channels.get c).DoorAtRest := by rw [chan]; exact ⟨rfl, rfl, rfl⟩
  refine ⟨Zone.Hands.settle Channel.doorAtRest_lasting c (Zone.Hands.relock Channel.doorAtRest_lasting c rest), fun delay => ?_,
    fun atOnce => ?_⟩
  · rw [Zone.relock_delayed delay]
    exact apart.entered 32
  · have closes := apart.closeRequest (cfg := cfg)
    rw [Zone.relock_at_once atOnce]
    rw [groups] at closes
    rw [chan] at closes
    exact ⟨closes.inhibited, closes.full, closes.first, closes.second, closes.home⟩

/-! ## The events -/

/-- The contact qualifier of a channel stopped. -/
def Zone.qualified (c : Chan) (z : Zone) : Zone := z.setChan c (fun ch => { ch with contactQual := none })

theorem Zone.qualified_get : (z.qualified c).channels.get c = { z.channels.get c with contactQual := none } :=
  Zone.setChan_get_self _ _ _

theorem execContactQualified_off (h : (s.zone.channels.get c).state = .off) (high : Bool) :
    execContactQualified c high s = .next { s with pins := { s.pins with contact := vset s.pins.contact c high } } :=
  congrArg _ (if_neg (by simp [State.watches, h]))

theorem execContactQualified_watched (h : (s.zone.channels.get c).state ≠ .off) (high : Bool) :
    execContactQualified c high s = .next (({ s with pins := { s.pins with contact := vset s.pins.contact c high } }.contactChange c
      (high == (s.setup.channels.get c).contactHigh)).closeZone) :=
  congrArg _ (if_pos (by simpa [State.watches] using h))

theorem State.contactChange_level (cabin : s.setup.kind c = .cabin) (level : (s.setup.channels.get c).mode = .level) :
    s.contactChange c active =
      if active = (s.zone.channels.get c).contact then s.onZone (·.qualified c) else (s.onZone (·.qualified c)).doorChange c active := by
  unfold State.contactChange
  dsimp only [State.onZone]
  rw [cabin, level] <;> rfl

theorem State.contactChange_edge (cabin : s.setup.kind c = .cabin) (edge : (s.setup.channels.get c).mode = .edge) :
    s.contactChange c active =
      let set := s.onZone (·.setChan c (fun ch => { ch with contactQual := none, contact := active }))
      if active && !(s.zone.channels.get c).contact then set.cabinPulse c else set := by
  unfold State.contactChange
  dsimp only [State.onZone]
  rw [cabin, edge, Zone.setChan_setChan] <;> rfl

theorem State.contactChange_gate (gate : s.setup.kind c = .gate) :
    s.contactChange c active =
      let set := s.onZone (·.setChan c (fun ch => { ch with contactQual := none, contact := active }))
      if active && !(s.zone.channels.get c).contact then set.passage c else set := by
  unfold State.contactChange
  dsimp only [State.onZone]
  rw [gate, Zone.setChan_setChan] <;> rfl

theorem State.doorChange_forced (h : (s.zone.channels.get c).state = .locked) :
    s.doorChange c true = (s.onZone (·.doorOpens s.setup c)).raise (.forced c) := by
  unfold State.doorChange
  simp [h]

theorem State.doorChange_open (h : (s.zone.channels.get c).state ≠ .locked) :
    s.doorChange c true = s.onZone (·.doorOpens s.setup c) := by
  unfold State.doorChange
  simp [h]

section
variable (cabin : s.setup.kind c = .cabin) (level : (s.setup.channels.get c).mode = .level)
include cabin level

/-- A qualified level that is the door field already. -/
theorem State.contactChange_same (same : active = (s.zone.channels.get c).contact) :
    s.contactChange c active = { s with zone := s.zone.qualified c } :=
  (State.contactChange_level cabin level).trans (if_pos same)

theorem State.contactChange_forced (shut : (s.zone.channels.get c).contact = false) (locked : (s.zone.channels.get c).state = .locked) :
    s.contactChange c true = State.raise (.forced c) { s with zone := (s.zone.qualified c).doorOpens s.setup c } :=
  ((State.contactChange_level cabin level).trans (if_neg (by simp [shut]))).trans
    (State.doorChange_forced (s := s.onZone (·.qualified c)) ((congrArg Channel.state Zone.qualified_get).trans locked))

theorem State.contactChange_opened (shut : (s.zone.channels.get c).contact = false)
    (unlocked : (s.zone.channels.get c).state ≠ .locked) :
    s.contactChange c true = { s with zone := (s.zone.qualified c).doorOpens s.setup c } :=
  ((State.contactChange_level cabin level).trans (if_neg (by simp [shut]))).trans
    (State.doorChange_open (s := s.onZone (·.qualified c)) fun locked =>
      unlocked ((congrArg Channel.state Zone.qualified_get).symm.trans locked))

theorem State.contactChange_shut (opened : (s.zone.channels.get c).contact = true) :
    s.contactChange c false = { s with zone := (s.zone.qualified c).doorCloses s.setup c } :=
  (State.contactChange_level cabin level).trans (if_neg (by simp [opened]))

end

theorem State.cabinPulse_forced (h : (s.zone.channels.get c).state = .locked) : s.cabinPulse c = s.raise (.forced c) := if_pos h

theorem State.cabinPulse_none (h : (s.zone.channels.get c).state ≠ .locked) : s.cabinPulse c = s := if_neg h

theorem execPassageEdge_gate (gate : s.setup.kind c = .gate) (on : (s.zone.channels.get c).state ≠ .off) :
    execPassageEdge c s =
      .next (((s.onZone (·.setChan c (fun ch => { ch with contact := true, contactQual := none }))).passage c).closeZone) :=
  congrArg _ (if_pos ⟨gate, on⟩)

theorem execPrivacyQualified_ignored (high : Bool) (h : (s.zone.channels.get c).state = .off ∨ s.setup.kind c ≠ .cabin) :
    execPrivacyQualified c high s = .next { s with pins := { s.pins with privacy := vset s.pins.privacy c high } } :=
  congrArg _ (if_neg (by rcases h with h | h <;> simp [State.watches, h]))

theorem execPrivacyQualified_taken (high : Bool) (on : (s.zone.channels.get c).state ≠ .off) (cabin : s.setup.kind c = .cabin) :
    execPrivacyQualified c high s = .next ({ s with pins := { s.pins with privacy := vset s.pins.privacy c high } }.onZone
      (·.setChan c (fun ch => { ch with privacy := high == (s.setup.channels.get c).privacyHigh, privacyQual := none }))) :=
  congrArg _ (if_pos (by simpa [State.watches, cabin] using on))

end Sys2Proof.Machine

namespace Sys2Proof.Channels
open Sys2Proof.Machine

/-- Settles O42: each input through the change of its field, with the door's operations by the state of the channel. -/
theorem doorAndPrivacyInputs : Obligations.DoorAndPrivacyInputs := by
  intro c high s h ch cfg x
  let p : State := { s with pins := { s.pins with contact := vset s.pins.contact c high } }
  have put {z z' : Zone} (e : z = z') : { p with zone := z } = { p with zone := z' } := by rw [e]
  have event {active : Bool} {t : State} (on : ch.state ≠ .off) (is : (high == x.contactHigh) = active)
      (e : p.contactChange c active = t) :
      exec (.contactQualified c high) s = .next t.closeZone := by
    subst is
    exact (execContactQualified_watched on high).trans (congrArg (fun t : State => Host.Outcome.next t.closeZone) e)
  refine ⟨⟨fun off => execContactQualified_off off high, fun on cabin level => ?level, fun on cabin edge => ⟨fun opens shut locked => ?pulse,
    fun no => ?noPulse⟩, fun on gate => ⟨fun opens shut => ?passes, fun no => ?noPassage⟩⟩,
    fun no => execPrivacyQualified_ignored high no, fun on cabin => execPrivacyQualified_taken high on cabin⟩
  case level =>
    have watched : s.setup.watched c = true := by
      rw [Setup.watched, show (s.setup.channels.get c).kind = _ from cabin, show (s.setup.channels.get c).mode = _ from level]
      rfl
    have chan : (s.zone.qualified c).channels.get c = { ch with contactQual := none } := Zone.qualified_get
    have state : ((s.zone.qualified c).channels.get c).state = ch.state := by rw [chan]
    have is {st r : ChanState} (hs : ch.state = st) (ne : st ≠ r) : ((s.zone.qualified c).channels.get c).state ≠ r := fun e =>
      ne (hs.symm.trans (state.symm.trans e))
    have away {st r : ChanState} (hs : ch.state = st) (ne : st ≠ r) : ch.state ≠ r := fun e => ne (hs.symm.trans e)
    have q : (s.zone.qualified c).orderly := h.setChan rfl
    refine ⟨fun same => event on rfl (State.contactChange_same (s := p) cabin level (Bool.eq_iff_iff.mpr (beq_iff_eq.trans same))),
      fun opens shut locked => ?forced, fun n opens shut delay => ?delay, fun st opens shut hold other => ?hold,
      fun opens shut closing => ?closing, fun opens shut locking there => ?turned, fun opens shut unlocked noHold noWait noLock => ?plain,
      fun closes opened other => ?closes, fun closes opened wait => ?waited⟩
    case forced =>
      refine event on (beq_iff_eq.mpr opens) ((State.contactChange_forced (s := p) cabin level shut locked).trans ?_)
      refine congrArg (fun z : Zone => State.raise (.forced c)
        { p with zone := z }) ?_
      exact (Zone.doorOpens_other ((congrArg _ (state.trans locked)).trans rfl) (is locked (by simp)) (is locked (by simp))).trans
        (Zone.setChan_setChan _ _ _ _)
    case delay =>
      refine event on (beq_iff_eq.mpr opens) ((State.contactChange_opened (s := p) cabin level shut (away delay (by simp))).trans (put ?_))
      exact (Zone.doorOpens_relockDelay (state.trans delay)).trans (Zone.setChan_setChan _ _ _ _)
    case hold =>
      refine event on (beq_iff_eq.mpr opens) ((State.contactChange_opened (s := p) cabin level shut (away hold (by simp))).trans (put ?_))
      exact (Zone.doorOpens_hold (state.trans hold) other).trans (Zone.setChan_setChan _ _ _ _)
    case plain =>
      refine event on (beq_iff_eq.mpr opens) ((State.contactChange_opened (s := p) cabin level shut unlocked).trans (put ?_))
      exact (Zone.doorOpens_other ((congrArg _ state).trans noHold) (is rfl noWait) (is rfl noLock)).trans
        (Zone.setChan_setChan _ _ _ _)
    case closes =>
      refine event on (beq_eq_false_iff_ne.mpr closes) ((State.contactChange_shut (s := p) cabin level opened).trans (put ?_))
      exact (Zone.doorCloses_other (is rfl other)).trans (Zone.setChan_setChan _ _ _ _)
    case closing =>
      have unlocked : ch.state ≠ .locked := by rcases closing with hs | ⟨hs, -⟩ <;> simp [hs]
      refine ⟨_, event on (beq_iff_eq.mpr opens) (State.contactChange_opened (s := p) cabin level shut unlocked),
        Zone.changesAround_of_setChan (Zone.doorOpens_around q), ?_⟩
      obtain ⟨waits, turns⟩ := q.doorOpens_closing watched
      refine ⟨q.doorOpens_contact, fun hs => waits (state.trans hs), fun hs => turns (state.trans hs) ?_⟩
      rw [chan]
      rcases closing with wait | ⟨-, notThere⟩
      · exact absurd hs (away wait (by simp))
      · exact notThere
    case turned =>
      obtain ⟨⟨absent, free0, free1⟩, released, held⟩ := q.doorOpens_turned (state.trans locking) (by rw [chan]; exact there) watched
      refine ⟨_, event on (beq_iff_eq.mpr opens) (State.contactChange_opened (s := p) cabin level shut (away locking (by simp))),
        Zone.changesAround_of_setChan (Zone.doorOpens_around q), q.doorOpens_contact, absent, free0, free1, ?_, ?_⟩
      · rw [chan] at released; exact released
      · rw [chan] at held; exact held
    case waited =>
      refine ⟨_, event on (beq_eq_false_iff_ne.mpr closes) (State.contactChange_shut (s := p) cabin level opened),
        Zone.changesAround_of_setChan (Zone.doorCloses_around q), ?_⟩
      obtain ⟨rest, delayed, atOnce⟩ := q.doorCloses_waited (state.trans wait)
      refine ⟨rest.contact, rest.doorHeld, rest.heldReported, delayed, fun now =>
        ⟨fun i => ((atOnce now).inhibited i).1, (atOnce now).full, fun i empty room => ?_⟩⟩
      have next := (atOnce now).next i empty room
      rw [chan] at next
      exact next
  case pulse =>
    exact event on (beq_iff_eq.mpr opens) ((State.contactChange_edge (s := p) cabin edge).trans
      ((if_pos (by simpa using shut)).trans (State.cabinPulse_forced (by simpa using locked))))
  case noPulse => 
    refine event on rfl ((State.contactChange_edge (s := p) cabin edge).trans ?_)
    split
    · next pulse =>
      obtain ⟨opens, shut⟩ : high = x.contactHigh ∧ ch.contact = false := by simpa using pulse
      exact State.cabinPulse_none (by simpa [opens, shut] using no)
    · rfl
  case passes =>
    refine (event on (beq_iff_eq.mpr opens) ((State.contactChange_gate (s := p) gate).trans (if_pos (by simpa using shut)))).trans 
      (execPassageEdge_gate (s := p) gate on).symm
  case noPassage =>
    refine event on rfl ((State.contactChange_gate (s := p) gate).trans (if_neg fun passes => ?_))
    obtain ⟨opens, shut⟩ : high = x.contactHigh ∧ ch.contact = false := by simpa using passes
    exact no.elim (absurd opens) fun opened => by simp [opened] at shut

end Sys2Proof.Channels
end

section
/-! A fault of a channel: its record, its scope, and the report to the lane of a gate (R61, R71 to R75, R97). -/

namespace Sys2Proof.Machine

variable {cfg : Setup} {c d : Chan} {g : Grp} {z z₁ z' w : Zone} {st : ChanState} {a : Hold} {n : Nat} {l : LaneNo} {s : State}
  {k : FaultKind} {m : Movement}

/-! ## What the arbiter leaves of a power group -/

/-- The power group without its slots and its queue is the same: rail, latch and their counts. -/
structure Zone.SameGround (z z' : Zone) : Prop where
  ground : ∀ g, (z'.groups.get g).clear = (z.groups.get g).clear

theorem Zone.SameGround.of_eq (h : z'.groups = z.groups) : z.SameGround z' := ⟨fun g => by rw [h]⟩

theorem Zone.SameGround.trans {z₂ : Zone} (h : z.SameGround z₁) (i : z₁.SameGround z₂) : z.SameGround z₂ := 
  ⟨fun g => (i.ground g).trans (h.ground g)⟩

theorem Zone.SameGround.setChan {f : Channel → Channel} : z.SameGround (z.setChan c f) := .of_eq rfl

theorem Zone.SameGround.enter : z.SameGround (z.enter cfg c st) := .setChan

theorem Zone.SameGround.setGroup {f : Group → Group} (h : ∀ x, (f x).clear = x.clear) : z.SameGround (z.setGroup g f) := by
  refine ⟨fun k => ?_⟩
  by_cases e : k = g
  · subst e; rw [Zone.setGroup_get_self, h]
  · rw [Zone.setGroup_get_other _ _ _ _ e]

theorem Zone.SameGround.waitClose : z.SameGround (z.waitClose cfg c) := by
  rcases Zone.waitClose_cases cfg c z with ⟨-, e⟩ | ⟨-, e⟩ <;> rw [e]
  · exact .of_eq rfl
  · exact Zone.SameGround.enter.trans (.setGroup fun _ => rfl)

theorem Zone.SameGround.waitOpen : z.SameGround (z.waitOpen cfg c a) := by
  rcases Zone.waitOpen_cases cfg c a z with ⟨-, e⟩ | ⟨-, e⟩ <;> rw [e]
  · exact .enter
  · exact Zone.SameGround.enter.trans (.setGroup fun _ => rfl)

theorem Zone.SameGround.relock : z.SameGround (z.relock cfg c) := by
  unfold Zone.relock
  split
  · exact .waitClose
  · exact .of_eq rfl

theorem Zone.SameGround.gateWithdrawn : z.SameGround (z.gateWithdrawn cfg c l) := by
  unfold Zone.gateWithdrawn
  split
  · exact .of_eq rfl
  · exact .of_eq rfl
  · exact .of_eq rfl
  · split
    · exact .of_eq rfl
    · exact .relock
  · split
    · exact .of_eq rfl
    · exact .relock

theorem Zone.SameGround.hold : z.SameGround (z.hold cfg c a) := by
  unfold Zone.hold
  split
  · dsimp only
    split
    · exact Zone.SameGround.enter.trans .gateWithdrawn
    · exact .of_eq rfl
  · exact .relock
  · exact .of_eq rfl
  · split
    · exact .of_eq rfl
    · exact .relock

theorem Zone.SameGround.leave : z.SameGround (z.leave c) := .setGroup fun _ => rfl

theorem Zone.SameGround.endDrive : z.SameGround (z.endDrive cfg c) := by
  unfold Zone.endDrive
  split
  · dsimp only
    split
    · exact Zone.SameGround.leave.trans .enter
    · exact Zone.SameGround.leave.trans .hold
  · exact Zone.SameGround.leave.trans .enter
  · exact .of_eq rfl

theorem Zone.SameGround.drive : z.SameGround (z.drive cfg c st) := by
  rcases z.drive_cases cfg c st with e | e <;> rw [e]
  · exact .of_eq rfl
  · exact Zone.SameGround.setChan.trans .endDrive

theorem Group.take_clear (x : Group) : (x.take c).clear = x.clear := by
  unfold Group.take
  split <;> rfl

theorem Zone.SameGround.grants (n : Nat) : z.SameGround (z.grants cfg g n) := by
  induction n generalizing z with
  | zero => exact .of_eq rfl
  | succ n ih =>
    refine .trans ?_ ih
    rcases z.grant_cases cfg g with e | ⟨k, rest, st, -, -, -, -, e⟩ <;> rw [e]
    · exact .of_eq rfl
    · have granted : z.SameGround (z.setGroup g (fun x => { x with queue := rest }.take k)) :=
        .setGroup fun x => Group.take_clear { x with queue := rest }
      exact granted.trans .drive

theorem Zone.SameGround.settle : z.SameGround (z.settle cfg c) := by
  unfold Zone.settle
  exact .grants 32

theorem Zone.SameGround.latch (h : z.SameGround z') (g : Grp) : (z'.groups.get g).latch = (z.groups.get g).latch :=
  (congrArg Group.latch (h.ground g) : (z'.groups.get g).clear.latch = (z.groups.get g).clear.latch)

/-! ## The record -/

theorem Channel.record_lasting (r : FaultRecord) : Channel.Lasting cfg (fun ch => ch.record = r) := fun _ _ _ h => ⟨h, h⟩

/-! ## ISOLATE scope (R73) -/

/-- A channel that its fault has isolated. -/
structure Zone.Isolated (cfg : Setup) (c : Chan) (z z' : Zone) : Prop where
  around : z.changesAround cfg c z'
  state : (z'.channels.get c).state = .fault
  driveLeft : (z'.channels.get c).driveLeft = none
  free : z'.free c
  latch : (z'.groups.get (groupOf c)).latch = (z.groups.get (groupOf c)).latch

theorem Zone.orderly.isolated (h : z.orderly) {f : Channel → Channel} (hf : (f (z.channels.get c)).state = (z.channels.get c).state) :
    z.Isolated cfg c ((z.setChan c f).isolate cfg c) := by
  have marked : (z.setChan c f).orderly := h.setChan hf
  have apart := marked.leave c
  have spares := (apart.enter (cfg := cfg) .fault).settle (cfg := cfg)
  have chan : ((z.setChan c f).isolate cfg c).channels.get c = ((z.setChan c f).channels.get c).enter cfg c .fault :=
    spares.channel.trans (Zone.enter_get_self _ _ _ _)
  have entered : z.SameGround (((z.setChan c f).leave c).enter cfg c .fault) :=
    (Zone.SameGround.setChan.trans .leave).trans .enter
  have ground : z.SameGround ((z.setChan c f).isolate cfg c) := entered.trans .settle
  exact ⟨(Zone.isolate_within marked).around_setChan, by rw [chan]; rfl, by rw [chan]; rfl,
    spares.free (Zone.leave_free c _).enter, ground.latch _⟩

/-! ## GROUP scope (R74) -/

/-- The record of a channel that its group's latch inhibits. -/
def Channel.inhibit (cfg : Setup) (c : Chan) (ch : Channel) : Channel :=
  match ch.state with
  | .off => ch
  | st => ch.enter cfg c (.inhibited (st.stopped (cfg.kind c)))

theorem Channel.inhibit_off {ch : Channel} (h : ch.state = .off) : ch.inhibit cfg c = ch := by
  unfold Channel.inhibit
  rw [h]

theorem Channel.inhibit_on {ch : Channel} (h : ch.state ≠ .off) :
    ch.inhibit cfg c = ch.enter cfg c (.inhibited (ch.state.stopped (cfg.kind c))) := by
  unfold Channel.inhibit
  split
  · next off => exact absurd off h
  · rfl

/-- The states in which a fault leaves its channel. -/
def ChanState.faulted (st : ChanState) : Prop := st = .fault ∨ st = .off ∨ ∃ t, st = .inhibited t

theorem Channel.inhibit_leaves (ch : Channel) : (ch.inhibit cfg c).record = ch.record ∧ (ch.inhibit cfg c).release = ch.release ∧
    (ch.inhibit cfg c).state.faulted := by
  by_cases h : ch.state = .off
  · rw [Channel.inhibit_off h]
    exact ⟨rfl, rfl, .inr (.inl h)⟩
  · rw [Channel.inhibit_on h]
    exact ⟨rfl, rfl, .inr (.inr ⟨_, rfl⟩)⟩

theorem Zone.setChan_eq_self {f : Channel → Channel} (h : f (z.channels.get c) = z.channels.get c) : z.setChan c f = z := by
  unfold Zone.setChan vmod vset
  rw [h]
  simp [Vector.get]

theorem Zone.inhibit_eq : z.inhibit cfg c = z.setChan c (·.inhibit cfg c) := by
  by_cases h : (z.channels.get c).state = .off
  · rw [Zone.setChan_eq_self (Channel.inhibit_off h), Zone.inhibit, h]
  · have entered : z.setChan c (·.inhibit cfg c) = z.enter cfg c (.inhibited ((z.channels.get c).state.stopped (cfg.kind c))) := by
      unfold Zone.enter Zone.setChan vmod
      dsimp only
      rw [Channel.inhibit_on h]
    rw [entered, Zone.inhibit]
    split
    · next off => exact absurd off h
    · rfl

theorem members_nodup (g : Grp) : (members g).Nodup := (List.nodup_finRange 32).filter _

/-- What the latch of a group leaves: its arbiter is cleared and its channels are inhibited. -/
theorem Zone.inhibitGroup_eq : z.inhibitGroup cfg g =
    { z.setGroup g (fun x => { x.clear with latch := true }) with
      channels := (members g).foldl (fun v c => vmod v c (·.inhibit cfg c)) z.channels } := by
  have op : (fun z c => Zone.inhibit cfg c z) = fun z c => z.setChan c (·.inhibit cfg c) := by
    funext z c
    exact Zone.inhibit_eq
  rw [Zone.inhibitGroup, op, Zone.foldl_setChan (fun c ch => ch.inhibit cfg c)]
  rfl

theorem Zone.inhibitGroup_get (d : Chan) : (z.inhibitGroup cfg g).channels.get d =
    if groupOf d = g then (z.channels.get d).inhibit cfg d else z.channels.get d := by
  rw [Zone.inhibitGroup_eq]
  refine (vget_foldl_vmod_of (fun c ch => ch.inhibit cfg c) d (members g) z.channels (members_nodup g)).trans ?_
  simp only [mem_members]

/-! ## The report to the lane -/

/-- What the report of a fault to the lane of its gate leaves of the channel and of the rest of the zone: the lane's relock claim
makes the target end of an INHIBITED gate the closed one (R61, R97). -/
structure Zone.Reported (cfg : Setup) (c : Chan) (z z' : Zone) : Prop where
  groups : z'.groups = z.groups
  lanes : ∀ l, z.laneOf cfg c ≠ some l → z'.lanes.get l = z.lanes.get l
  by_channel : z.By cfg c z'
  record : (z'.channels.get c).record = (z.channels.get c).record
  fault : (z.channels.get c).state = .fault → z'.channels = z.channels
  held : (z.channels.get c).release = true → z'.channels = z.channels
  off : (z.channels.get c).state = .off → z'.channels = z.channels
  inhibited : ∀ t, (z.channels.get c).state = .inhibited t → ∃ t, (z'.channels.get c).state = .inhibited t

theorem Zone.Reported.refl (z : Zone) : z.Reported cfg c z :=
  ⟨rfl, fun _ _ => rfl, .refl z, rfl, fun _ => rfl, fun _ => rfl, fun _ => rfl, fun t h => ⟨t, h⟩⟩

/-- The relock claim on a gate that a fault has stopped, with the lane's record changed before it. -/
theorem Zone.relockClaim_reported (h : (z.channels.get c).state.faulted) (named : z.laneOf cfg c = some l) {f : Lane → Lane}
    (unfit : ∀ x, (f x).unfit = x.unfit) :
    z.Reported cfg c ((z.setLane l f).relockClaim cfg c) ∧
      ((z.setLane l f).relockClaim cfg c).lanes.get l = f (z.lanes.get l) ∧
      (∀ t, (z.channels.get c).state = .inhibited t → (z.channels.get c).release = false →
        (((z.setLane l f).relockClaim cfg c).channels.get c).state = .inhibited .closedEnd) := by
  have lanes : ∀ i, z.laneOf cfg c ≠ some i → (z.setLane l f).lanes.get i = z.lanes.get i := fun i hi =>
    Zone.setLane_get_other _ _ _ _ fun e => hi (e ▸ named)
  have moved : z.By cfg c (z.setLane l f) := .setLane named (unfit _)
  have still (e : (z.setLane l f).relockClaim cfg c = z.setLane l f)
      (no : ∀ t, (z.channels.get c).state = .inhibited t → (z.channels.get c).release = true) :
      z.Reported cfg c ((z.setLane l f).relockClaim cfg c) ∧
      ((z.setLane l f).relockClaim cfg c).lanes.get l = f (z.lanes.get l) ∧
      (∀ t, (z.channels.get c).state = .inhibited t → (z.channels.get c).release = false →
        (((z.setLane l f).relockClaim cfg c).channels.get c).state = .inhibited .closedEnd) := by
    rw [e]
    exact ⟨⟨rfl, lanes, moved, rfl, fun _ => rfl, fun _ => rfl, fun _ => rfl, fun t h => ⟨t, h⟩⟩, Zone.setLane_get_self _ _ _,
      fun t ht hr => by simp [no t ht] at hr⟩
  rcases h with h | h | ⟨t, h⟩
  · exact still (Zone.relockClaim_idle (z := z.setLane l f) (.inr (.inr (.inr (.inl h))))) (by simp [h])
  · exact still (Zone.relockClaim_idle (z := z.setLane l f) (.inr (.inr (.inr (.inr (.inr h)))))) (by simp [h])
  · rcases Bool.eq_false_or_eq_true (z.channels.get c).release with hr | hr
    · exact still (if_pos hr) fun _ _ => hr
    · rw [Zone.relockClaim_inhibited (z := z.setLane l f) h hr]
      have closed : (((z.setLane l f).enter cfg c (.inhibited .closedEnd)).channels.get c).state = .inhibited .closedEnd := by
        rw [Zone.enter_get_self]
        rfl
      exact ⟨⟨rfl, lanes, moved.andThen .enter, by rw [Zone.enter_get_self]; rfl, by simp [h], by simp [hr], by simp [h],
        fun _ _ => ⟨_, closed⟩⟩, Zone.setLane_get_self _ _ _, fun _ _ _ => closed⟩

/-! ## The fault -/

/-- The zone that a fault's scope leaves. -/
def Zone.scoped (cfg : Setup) (c : Chan) (sc : Scope) (z : Zone) : Zone :=
  match sc with
  | .isolate => z.isolate cfg c
  | .group => z.inhibitGroup cfg (groupOf c)

theorem State.applyScope_eq (c : Chan) (sc : Scope) (s : State) : s.applyScope c sc = { s with zone := s.zone.scoped s.setup c sc } := by
  cases sc <;> rfl

/-- The record of a channel that takes a fault. -/
def Zone.recorded (c : Chan) (k : FaultKind) (now : ShipTime) (z : Zone) : Zone :=
  z.setChan c (fun ch => { ch with record := ch.record.take k now })

/-- The state in which a fault is recorded, announced and applied. -/
def State.faulted (c : Chan) (k : FaultKind) (s : State) : State :=
  { s with
    zone := (s.zone.recorded c k s.clock.time).scoped s.setup c (s.scopeApplied c)
    link := s.link.notify (.fault (groupOf c) (some c) (.taken k (s.scopeApplied c))) }

theorem State.takeFault_eq : s.takeFault c k = (s.faulted c k).driveFault c k := by
  rw [State.takeFault, State.applyScope_eq]
  rfl

theorem State.driveFault_silent (h : k ≠ .positionLost → ∀ l m, s.zone.laneOf s.setup c = some l →
    (s.zone.lanes.get l).state.movement ≠ some m) : s.driveFault c k = s := by
  unfold State.driveFault
  split
  · next drive =>
    have lost : k ≠ .positionLost := fun e => by simp [e, FaultKind.isDrive] at drive
    split
    · next l named =>
      unfold State.abandonMovement
      dsimp only
      split
      · next m moving => exact absurd moving (h lost l m named)
      · rfl
    · rfl
  · rfl

theorem State.driveFault_reports (drive : k ≠ .positionLost) (named : s.zone.laneOf s.setup c = some l)
    (moving : (s.zone.lanes.get l).state.movement = some m) :
    s.driveFault c k = s.abandon l m .gateFault (s.zone.lanes.get l).state.ended := by
  have isDrive : k.isDrive = true := by
    cases k with
    | positionLost => exact absurd rfl drive
    | _ => rfl
  unfold State.driveFault State.abandonMovement
  rw [if_pos isDrive, named]
  dsimp only
  rw [moving]

/-- What an abandonment leaves (R97). -/
theorem State.abandon_eq (l : LaneNo) (m : Movement) (cause : AbandonCause) (after : LaneState) (s : State) :
    ∃ cs ta fs, s.abandon l m cause after = { s with
      cards := cs, tally := ta, folios := fs,
      zone := (s.zone.setLane l (fun x => { x with state := after, abandoned := satInc x.abandoned })).relockClaim s.setup
        (s.setup.lanes.get l).gate,
      link := s.link.notify (.lane l m.card m.dir m.accepted cause after) } ∧
      ∀ e, s.known m.card = some e → (s.abandon l m cause after).known m.card =
        some { e with engaged := if e.engaged = some (.movement l) then none else e.engaged } := by
  obtain ⟨cs, ta, fs, changed, frame⟩ := State.changeKnown_frame m.card
    (fun k => if k.engaged = some (.movement l) then { k with engaged := none } else k) s
  have disengaged := frame { s with zone := s.zone.setLane l (fun x => { x with state := after, abandoned := satInc x.abandoned }) } rfl rfl rfl
  have eq : s.abandon l m cause after = { s with
      cards := cs, tally := ta, folios := fs,
      zone := (s.zone.setLane l (fun x => { x with state := after, abandoned := satInc x.abandoned })).relockClaim s.setup
        (s.setup.lanes.get l).gate,
      link := s.link.notify (.lane l m.card m.dir m.accepted cause after) } := by
    rw [State.abandon, State.disengage]
    dsimp only [State.onZone]
    rw [disengaged]
    rfl
  refine ⟨cs, ta, fs, eq, fun e he => ?_⟩
  have known := State.known_changeKnown_self he (f := fun k => if k.engaged = some (.movement l) then { k with engaged := none } else k)
  rw [changed] at known
  rw [eq]
  refine Eq.trans known (congrArg some ?_)
  split
  · rfl
  · rfl

theorem Zone.inhibitGroup_group (g : Grp) (z : Zone) :
    (z.inhibitGroup cfg g).groups.get g = { (z.groups.get g).clear with latch := true } := by
  rw [Zone.inhibitGroup_eq]
  exact Zone.setGroup_get_self _ _ _

/-- The zone that a fault's scope leaves: the record, the state, and the lane of a gate, which is not reached yet. -/
structure Zone.Scoped (cfg : Setup) (c : Chan) (k : FaultKind) (now : ShipTime) (z z' : Zone) : Prop where
  record : (z'.channels.get c).record = (z.channels.get c).record.take k now
  release : (z'.channels.get c).release = (z.channels.get c).release
  stopped : (z'.channels.get c).state.faulted
  laneOf : z'.laneOf cfg c = z.laneOf cfg c
  lane : ∀ l, z.laneOf cfg c = some l → z'.lanes.get l = z.lanes.get l

theorem Zone.orderly.scoped (h : z.orderly) (sc : Scope) (now : ShipTime) :
    Zone.Scoped cfg c k now z ((z.recorded c k now).scoped cfg c sc) := by
  have chan : (z.recorded c k now).channels.get c = _ := Zone.setChan_get_self _ _ _
  cases sc with
  | isolate =>
    change Zone.Scoped cfg c k now z ((z.recorded c k now).isolate cfg c)
    have marked : (z.recorded c k now).orderly := h.setChan rfl
    have within := Zone.isolate_within (cfg := cfg) (c := c) marked
    have spares := ((marked.leave c).enter (cfg := cfg) .fault).settle (cfg := cfg)
    have stopped : (((z.recorded c k now).isolate cfg c).channels.get c) = ((z.recorded c k now).channels.get c).enter cfg c .fault :=
      spares.channel.trans (Zone.enter_get_self _ _ _ _)
    rw [chan] at stopped
    exact ⟨by rw [stopped]; rfl, by rw [stopped]; rfl, .inl (by rw [stopped]; rfl), within.laneOf c, spares.lane⟩
  | group =>
    have stopped := Zone.inhibitGroup_get (cfg := cfg) (g := groupOf c) (z := z.recorded c k now) c
    rw [if_pos rfl, chan] at stopped
    have lanes : ((z.recorded c k now).inhibitGroup cfg (groupOf c)).lanes = z.lanes := by
      rw [Zone.inhibitGroup_eq]
      rfl
    obtain ⟨record, release, faulted⟩ := Channel.inhibit_leaves (cfg := cfg) (c := c)
      { z.channels.get c with record := (z.channels.get c).record.take k now }
    rw [← stopped] at record release faulted
    exact ⟨record, release, faulted, Zone.laneOf_congr (fun l => by rw [Zone.scoped, lanes]) c, fun l _ => by rw [Zone.scoped, lanes]⟩

theorem LaneState.movement_iff {x : LaneState} : x.movement = some m ↔ x = .released m ∨ x = .closing m := by
  cases x <;> simp [LaneState.movement]

/-- The movement that a drive fault of a gate has its lane abandon (R72, R97). -/
def State.faultAbandons (c : Chan) (k : FaultKind) (l : LaneNo) (m : Movement) (s : State) : Prop :=
  k ≠ .positionLost ∧ s.zone.laneOf s.setup c = some l ∧ (s.zone.lanes.get l).state.movement = some m

/-- A taken fault: the scope, and the report where a movement is abandoned. -/
structure State.FaultTaken (c : Chan) (k : FaultKind) (s t : State) : Prop where
  zone : (s.faulted c k).zone.Reported s.setup c t.zone
  lanes : ∀ l, (∀ m, ¬s.faultAbandons c k l m) → t.zone.lanes.get l = (s.faulted c k).zone.lanes.get l
  quiet : (∀ l m, ¬s.faultAbandons c k l m) → t = s.faulted c k
  loud : ∀ l m, s.faultAbandons c k l m →
    (∃ cs ta fs, t = { s.faulted c k with
      cards := cs, tally := ta, folios := fs, zone := t.zone,
      link := (s.faulted c k).link.notify (.lane l m.card m.dir m.accepted .gateFault (s.zone.lanes.get l).state.ended) }) ∧
    (∀ e, s.known m.card = some e →
      t.known m.card = some { e with engaged := if e.engaged = some (.movement l) then none else e.engaged }) ∧
    t.zone.lanes.get l = { s.zone.lanes.get l with
      state := (s.zone.lanes.get l).state.ended, abandoned := satInc (s.zone.lanes.get l).abandoned } ∧
    (∀ x, ((s.faulted c k).zone.channels.get c).state = .inhibited x → (s.zone.channels.get c).release = false →
      (t.zone.channels.get c).state = .inhibited .closedEnd)

theorem State.faultTaken (h : s.zone.orderly) : s.FaultTaken c k (s.takeFault c k) := by
  have left : Zone.Scoped s.setup c k s.clock.time s.zone (s.faulted c k).zone := h.scoped (s.scopeApplied c) s.clock.time
  by_cases loud : ∃ l m, s.faultAbandons c k l m
  · obtain ⟨l, m, hm⟩ := loud
    obtain ⟨drive, named, moving⟩ := hm
    have named' : (s.faulted c k).zone.laneOf s.setup c = some l := left.laneOf.trans named
    have lane := left.lane l named
    have e : s.takeFault c k = (s.faulted c k).abandon l m .gateFault (s.zone.lanes.get l).state.ended := by
      rw [State.takeFault_eq, State.driveFault_reports drive named' (by rw [lane]; exact moving), lane]
    have gate : (s.setup.lanes.get l).gate = c := Zone.gate_of_laneOf named
    obtain ⟨cs, ta, fs, abandoned, known⟩ := State.abandon_eq l m .gateFault (s.zone.lanes.get l).state.ended (s.faulted c k)
    obtain ⟨reported, changed, closed⟩ := Zone.relockClaim_reported (cfg := s.setup) left.stopped named'
      (f := fun x => { x with state := (s.zone.lanes.get l).state.ended, abandoned := satInc x.abandoned }) (fun _ => rfl)
    have zone : (s.takeFault c k).zone = ((s.faulted c k).zone.setLane l
        (fun x => { x with state := (s.zone.lanes.get l).state.ended, abandoned := satInc x.abandoned })).relockClaim s.setup c := by
      rw [e, abandoned]
      exact congrArg (fun g => Zone.relockClaim s.setup g _) gate
    refine ⟨by rw [zone]; exact reported, fun i none => ?_, fun none => absurd ⟨drive, named, moving⟩ (none l m), fun l' m' hm' => ?_⟩
    · rw [zone]
      refine reported.lanes i fun other => ?_
      obtain rfl : l = i := Option.some.inj (named'.symm.trans other)
      exact none m ⟨drive, named, moving⟩
    · obtain ⟨-, named₁, moving₁⟩ := hm'
      obtain rfl : l = l' := Option.some.inj (named.symm.trans named₁)
      obtain rfl : m = m' := Option.some.inj (moving.symm.trans moving₁)
      refine ⟨⟨cs, ta, fs, ?_⟩, fun x hx => ?_, ?_, fun x hx hr => ?_⟩
      · rw [e, abandoned]
      · rw [e]
        exact known x hx
      · rw [zone, changed, lane]
      · rw [zone]
        exact closed x hx (left.release.trans hr)
  · have none : ∀ l m, ¬s.faultAbandons c k l m := fun l m hm => loud ⟨l, m, hm⟩
    have e : s.takeFault c k = s.faulted c k := by
      refine State.takeFault_eq.trans (State.driveFault_silent fun drive l m named moving => none l m ⟨drive, ?_, ?_⟩)
      · exact left.laneOf.symm.trans named
      · rw [← left.lane l (left.laneOf.symm.trans named)]
        exact moving
    rw [e]
    exact ⟨.refl _, fun _ _ => rfl, fun _ => rfl, fun l m hm => absurd hm (none l m)⟩

end Sys2Proof.Machine

namespace Sys2Proof.Protection
open Sys2Proof.Machine

/-- Settles O43: the scope as it leaves the zone, and then the report to the lane, which reaches the channel alone. -/
theorem aFaultStopsItsChannelOrItsGroup : Obligations.AFaultStopsItsChannelOrItsGroup := by
  intro c k s h r cfg sc t ch' moving abandons
  have scope : s.scopeApplied c = sc := by
    unfold State.scopeApplied
    simp only [State.evacuating_iff]
    rfl
  obtain ⟨zone, lanes, quiet, loud⟩ : s.FaultTaken c k t := State.faultTaken h
  have left : Zone.Scoped s.setup c k s.clock.time s.zone (s.faulted c k).zone := h.scoped (s.scopeApplied c) s.clock.time
  have abandons_iff (l : LaneNo) (m : Movement) : s.faultAbandons c k l m ↔ k ≠ .positionLost ∧ moving l m := by
    rw [State.faultAbandons, LaneState.movement_iff]
  have none (no : ¬abandons) (l : LaneNo) (m : Movement) : ¬s.faultAbandons c k l m := fun hm =>
    no ⟨((abandons_iff l m).mp hm).1, l, m, ((abandons_iff l m).mp hm).2⟩
  have scoped_as {x : Scope} (is : sc = x) : (s.faulted c k).zone = (s.zone.recorded c k s.clock.time).scoped s.setup c x := by
    rw [← is, ← scope]
    rfl
  refine ⟨zone.record.trans left.record, fun no => ?quiet, fun isolate => ?isolate, fun group => ?group, fun l m hm drive => ?loud⟩
  case quiet =>
    have as_faulted : ∀ u, u = s.faulted c k →
        u = { s with zone := u.zone, link := s.link.notify (.fault (groupOf c) (some c) (.taken k (s.scopeApplied c))) } := by
      rintro _ rfl
      rfl
    rw [← scope]
    exact as_faulted t (quiet (none no))
  case isolate =>
    have stops : Zone.Isolated s.setup c s.zone (s.faulted c k).zone := by
      rw [scoped_as isolate]
      exact h.isolated rfl
    have reach : (s.zone.recorded c k s.clock.time).Within s.setup ((s.zone.recorded c k s.clock.time).near c) (groupOf c) t.zone := by
      refine .trans ?_ (zone.by_channel.mono fun d hd => .inl hd)
      rw [scoped_as isolate]
      exact Zone.isolate_within (h.setChan rfl)
    have chan : ch' = (s.faulted c k).zone.channels.get c := congrArg (·.get c) (zone.fault stops.state)
    have free := stops.free
    rw [Zone.free, ← zone.groups] at free
    obtain ⟨absent, slot0, slot1⟩ := free
    exact ⟨reach.around_setChan, chan ▸ stops.state, chan ▸ stops.driveLeft, absent, slot0, slot1, by rw [zone.groups]; exact stops.latch⟩
  case group => 
    have stops : (s.faulted c k).zone = (s.zone.recorded c k s.clock.time).inhibitGroup s.setup (groupOf c) := scoped_as group
    have cleared := Zone.inhibitGroup_group (cfg := s.setup) (groupOf c) (s.zone.recorded c k s.clock.time)
    rw [← stops, ← zone.groups] at cleared
    have stopped (d : Chan) (hd : groupOf d = groupOf c) (on : (s.zone.channels.get d).state ≠ .off) :
        ((s.faulted c k).zone.channels.get d).state = .inhibited ((s.zone.channels.get d).state.stopped (s.setup.kind d)) := by
      have same : ((s.zone.recorded c k s.clock.time).channels.get d).state = (s.zone.channels.get d).state := by
        by_cases e : d = c
        · rw [e, Zone.recorded, Zone.setChan_get_self]
        · rw [Zone.recorded, Zone.setChan_get_other _ _ _ _ e]
      rw [stops, Zone.inhibitGroup_get, if_pos hd, Channel.inhibit_on (by rw [same]; exact on), Channel.enter_state, same]
    refine ⟨?arbiter, fun g hg => ?otherGroup, fun l away => ?lane, fun d hd => ?otherChannel, fun d hd on => ?someTarget,
      fun d hd on kept => ?target⟩
    case arbiter =>
      dsimp only
      rw [cleared]
      exact ⟨rfl, rfl, rfl, rfl⟩
    case otherGroup =>
      rw [zone.groups, stops, Zone.inhibitGroup_eq]
      exact Zone.setGroup_get_other _ _ _ _ hg
    case lane =>
      rw [lanes l fun m hm => away m ((abandons_iff l m).mp hm).2, stops, Zone.inhibitGroup_eq]
      rfl
    case otherChannel =>
      have apart : d ≠ c := fun e => hd (e ▸ rfl)
      rw [zone.by_channel.channels d apart, stops, Zone.inhibitGroup_get, if_neg hd]
      exact Zone.setChan_get_other _ _ _ _ apart
    case someTarget =>
      by_cases e : d = c
      · subst e
        exact zone.inhibited _ (stopped d hd on)
      · rw [zone.by_channel.channels d e]
        exact ⟨_, stopped d hd on⟩
    case target =>
      intro target
      have as_stopped : target = (s.zone.channels.get d).state.stopped (s.setup.kind d) := by
        dsimp only [target]
        generalize (s.zone.channels.get d).state = st at on kept
        cases st with
        | openHold stage => cases stage <;> rfl
        | released => exact absurd rfl kept
        | _ => rfl
      refine ⟨fun same => ?_, fun e free loudly => ?_⟩
      · rw [as_stopped, ← stopped d hd on]
        by_cases e : d = c
        · subst e
          rcases same with other | held | no
          · exact absurd rfl other
          · rw [zone.held (left.release.trans held)]
          · exact congrArg (fun u : State => (u.zone.channels.get d).state) (quiet (none no))
        · rw [zone.by_channel.channels d e]
      · subst e
        obtain ⟨drive, l, m, hm⟩ := loudly
        obtain ⟨-, -, -, closed⟩ := loud l m ((abandons_iff l m).mpr ⟨drive, hm⟩)
        exact closed _ (stopped d hd on) free
  case loud =>
    obtain ⟨⟨cs, ta, fs, eq⟩, known, lane, -⟩ := loud l m ((abandons_iff l m).mpr ⟨drive, hm⟩)
    have after : (s.zone.lanes.get l).state.ended = if (s.zone.lanes.get l).state = .released m then LaneState.ready else .closed := by
      rcases hm.2 with hs | hs <;> rw [hs] 
      · exact (if_pos rfl).symm
      · exact (if_neg (by simp)).symm
    rw [after] at lane
    rw [after] at eq
    have link := congrArg State.link eq
    rw [State.faulted, scope] at link
    refine ⟨lane, link, known, ?_⟩
    have as_abandoned : ∀ u z' link, u = { s.faulted c k with cards := cs, tally := ta, folios := fs, zone := z', link := link } →
        u = { s with cards := u.cards, tally := u.tally, folios := u.folios, zone := u.zone, link := u.link } := by
      rintro _ _ _ rfl
      rfl
    exact as_abandoned t _ _ eq

end Sys2Proof.Protection
end

section
/-! The drive timer, the over-current qualifier and the position watch (R68 to R71). -/

namespace Sys2Proof.Machine

variable {c : Chan} {s : State} {k : FaultKind} {n : Nat} {stage : HoldStage}

theorem State.fault_taken (h : s.setup.policy.mask.has k = false) : s.fault c k = s.takeFault c k :=
  if_neg (by simp [State.masked, h])

theorem State.fault_masked (h : s.setup.policy.mask.has k = true) : s.fault c k = s := if_pos h

theorem execDriveTimeout_idle (h : (s.zone.channels.get c).driveLeft = none ∨ (s.zone.channels.get c).state.drives = false) :
    execDriveTimeout c s = .next s := by
  unfold execDriveTimeout
  split
  · next left st => rcases h with h | h <;> simp [left, st, ChanState.drives] at h
  · next left st => rcases h with h | h <;> simp [left, st, ChanState.drives] at h
  · rfl

/-- The jam of a drive, by the end it drives toward. -/
def ChanState.jam (st : ChanState) (k : FaultKind) : Prop := (∃ a, st = .unlocking a) ∧ k = .jamOpening ∨ st = .locking ∧ k = .jamClosing

theorem execDriveTimeout_runs (left : (s.zone.channels.get c).driveLeft = some n) (jam : (s.zone.channels.get c).state.jam k) :
    execDriveTimeout c s = .next ((s.onZone (·.setChan c (fun ch => { ch with driveLeft := none }))).fault c k).closeZone := by
  rcases jam with ⟨⟨a, st⟩, rfl⟩ | ⟨st, rfl⟩ <;> rw [execDriveTimeout, left, st] <;> rfl

theorem execOvercurrentQualified_idle (h : (s.zone.channels.get c).state.drives = false) :
    execOvercurrentQualified c s = .next s := congrArg _ (if_neg (by simp [h]))

theorem execOvercurrentQualified_drives (h : (s.zone.channels.get c).state.drives = true) :
    execOvercurrentQualified c s = .next (s.fault c .overcurrent).closeZone := congrArg _ (if_pos h)

theorem execPositionLost_other (locked : (s.zone.channels.get c).state ≠ .locked)
    (hold : (s.zone.channels.get c).state.isOpenHold = false) : execPositionLost c s = .next s := by
  unfold execPositionLost
  split
  · next st => exact absurd st locked
  · next st => simp [st, ChanState.isOpenHold] at hold
  · rfl

theorem execPositionLost_locked (h : (s.zone.channels.get c).state = .locked) :
    execPositionLost c s =
      .next (({ s with pins := { s.pins with home := vset s.pins.home c false } }.homeSense c false).closeZone) := by
  rw [execPositionLost, h] <;> rfl

theorem execPositionLost_hold (h : (s.zone.channels.get c).state = .openHold stage) :
    execPositionLost c s =
      .next (({ s with pins := { s.pins with withdrawn := vset s.pins.withdrawn c false } }.withdrawnSense c false).closeZone) := by
  rw [execPositionLost, h] <;> rfl

/-- The home sense of a channel in LOCKED is lost. -/
theorem State.homeSense_lost (h : (s.zone.channels.get c).state = .locked) :
    s.homeSense c false =
      if (s.zone.channels.get c).home then (s.onZone (·.setChan c (fun ch => { ch with home := false }))).fault c .positionLost
      else s.onZone (·.setChan c (fun ch => { ch with home := false })) := by
  have state : (((s.onZone (·.setChan c (fun ch => { ch with home := false }))).zone.channels.get c).state) = .locked :=
    (congrArg Channel.state (Zone.setChan_get_self _ _ _)).trans h
  unfold State.homeSense
  dsimp only
  rw [state]
  simp

/-- The withdrawn sense of a channel in OPEN_HOLD is lost. -/
theorem State.withdrawnSense_lost (h : (s.zone.channels.get c).state = .openHold stage) :
    s.withdrawnSense c false =
      if (s.zone.channels.get c).withdrawn then
        (s.onZone (·.setChan c (fun ch => { ch with withdrawn := false }))).fault c .positionLost
      else s.onZone (·.setChan c (fun ch => { ch with withdrawn := false })) := by
  have state : (((s.onZone (·.setChan c (fun ch => { ch with withdrawn := false }))).zone.channels.get c).state) = .openHold stage :=
    (congrArg Channel.state (Zone.setChan_get_self _ _ _)).trans h
  unfold State.withdrawnSense
  dsimp only
  rw [state]
  simp

/-- What a sense that is lost at its end gives: POSITION_LOST where it was asserted and is not masked. -/
theorem State.lost_cases {u : State} {was : Bool} :
    (was = true → u.setup.policy.mask.positionLost = false →
      (if was then u.fault c .positionLost else u) = u.takeFault c .positionLost) ∧
    (was = false ∨ u.setup.policy.mask.positionLost = true → (if was then u.fault c .positionLost else u) = u) := by
  refine ⟨fun asserted taken => (if_pos asserted).trans (State.fault_taken taken), fun no => ?_⟩
  rcases no with no | masked
  · exact if_neg (by simp [no])
  · rw [State.fault_masked (k := .positionLost) masked, ite_self]

end Sys2Proof.Machine

namespace Sys2Proof.Protection
open Sys2Proof.Machine

/-- Settles O44: each event where it runs, with its fault taken or masked. -/
theorem theProtectionEventsTakeTheirFault : Obligations.TheProtectionEventsTakeTheirFault := by
  intro c s ch mask put
  let atHome : State := { s with pins := { s.pins with home := vset s.pins.home c false } }
  let away : State := { s with pins := { s.pins with withdrawn := vset s.pins.withdrawn c false } }
  have closed {t u : State} (e : t = u) : Host.Outcome.next t.closeZone = (Host.Outcome.next u.closeZone : Out) := by rw [e]
  refine ⟨execDriveTimeout_idle, fun n k left jam => ⟨fun taken => ?_, fun masked => ?_⟩, execOvercurrentQualified_idle,
    fun drives => ⟨fun taken => ?_, fun masked => ?_⟩, execPositionLost_other, fun locked => ⟨fun was taken => ?_, fun no => ?_⟩,
    fun st hold => ⟨fun was taken => ?_, fun no => ?_⟩⟩
  · exact (execDriveTimeout_runs left jam).trans (closed (State.fault_taken taken))
  · exact (execDriveTimeout_runs left jam).trans (closed (State.fault_masked masked))
  · exact (execOvercurrentQualified_drives drives).trans (closed (State.fault_taken taken))
  · exact (execOvercurrentQualified_drives drives).trans (closed (State.fault_masked masked))
  · exact (execPositionLost_locked locked).trans (closed ((State.homeSense_lost (s := atHome) locked).trans (State.lost_cases.1 was taken)))
  · exact (execPositionLost_locked locked).trans (closed ((State.homeSense_lost (s := atHome) locked).trans (State.lost_cases.2 no)))
  · exact (execPositionLost_hold hold).trans (closed ((State.withdrawnSense_lost (s := away) hold).trans (State.lost_cases.1 was taken)))
  · exact (execPositionLost_hold hold).trans (closed ((State.withdrawnSense_lost (s := away) hold).trans (State.lost_cases.2 no)))

end Sys2Proof.Protection
end

section
/-! Rails: the inhibition of a group by its rail, and the recovery of its channels (R77 to R80). -/

namespace Sys2Proof.Machine

variable {cfg : Setup} {c d : Chan} {g : Grp} {z z₁ z₂ z' w : Zone} {st : ChanState} {a : Hold} {n : Nat} {l : LaneNo} {s : State}

/-! ## What the arbiter and the other channels do to a channel -/

/-- What operations of other channels, and the arbiter, do to a channel: nothing while it does not wait, and else its own drive. -/
structure Zone.Granted (cfg : Setup) (c : Chan) (z z' : Zone) : Prop where
  calm : (z.channels.get c).state.waits = false → z'.channels.get c = z.channels.get c
  lane : (z.channels.get c).state.waits = false → ∀ l, z.laneOf cfg c = some l → z'.lanes.get l = z.lanes.get l
  laneOf : z'.laneOf cfg c = z.laneOf cfg c
  inputs : (z.channels.get c).SameInputs (z'.channels.get c)
  opens : ∀ a, (z.channels.get c).state = .unlockWait a → (z.channels.get c).withdrawn = false →
    (z'.channels.get c).state = .unlockWait a ∨ (z'.channels.get c).state = .unlocking a
  closes : (z.channels.get c).state = .lockWait → (z'.channels.get c).state = .lockWait ∨
    (z'.channels.get c).state = if (z.channels.get c).home then .locked else .locking

theorem Zone.Granted.refl (z : Zone) : z.Granted cfg c z :=
  ⟨fun _ => rfl, fun _ _ _ => rfl, rfl, .refl _, fun _ h _ => .inl h, fun h => .inl h⟩

theorem Zone.Granted.trans (h : z.Granted cfg c z₁) (k : z₁.Granted cfg c z₂) : z.Granted cfg c z₂ where
  calm still := (k.calm (by rw [h.calm still]; exact still)).trans (h.calm still)
  lane still l named := (k.lane (by rw [h.calm still]; exact still) l (h.laneOf.trans named)).trans (h.lane still l named)
  laneOf := k.laneOf.trans h.laneOf
  inputs := h.inputs.trans k.inputs
  opens a hs away := by
    rcases h.opens a hs away with waits | drives
    · exact k.opens a waits (h.inputs.withdrawn.trans away)
    · exact .inr (by rw [k.calm (by rw [drives]; rfl), drives])
  closes hs := by
    rcases h.closes hs with waits | ended
    · rw [← h.inputs.home]
      exact k.closes waits
    · refine .inr ?_
      rw [k.calm, ended]
      rw [ended]
      split
      · rfl
      · rfl

/-- A lane names one gate. -/
theorem Zone.laneOf_inj (hc : z.laneOf cfg c = some l) (hd : z.laneOf cfg d = some l) : c = d :=
  (Zone.gate_of_laneOf hc).symm.trans (Zone.gate_of_laneOf hd)

theorem Zone.Granted.of_by (h : z.By cfg d z') (other : c ≠ d) : z.Granted cfg c z' := by
  have same := h.channels c other
  refine ⟨fun _ => same, fun _ l named => h.lanes l fun e he taken => other ?_, h.laneOf c, h.inputs c,
    fun a hs _ => .inl (by rw [same, hs]), fun hs => .inl (by rw [same, hs])⟩
  subst he
  exact Zone.laneOf_inj named taken

theorem Zone.drive_away (away : st.reached (z.channels.get c) = false) : ((z.drive cfg c st).channels.get c).state = st := by
  rw [Zone.drive_eq, if_neg (by simp [away]), Zone.setChan_get_self]
  rfl

theorem Zone.drive_home : ((z.drive cfg c .locking).channels.get c).state = if (z.channels.get c).home then .locked else .locking := by
  have begun : ((z.setChan c (·.begin cfg c .locking)).channels.get c).state = .locking := by
    rw [Zone.setChan_get_self]
    rfl
  by_cases home : (z.channels.get c).home = true
  · have reached : ChanState.locking.reached (z.channels.get c) = true := home
    rw [Zone.drive_eq, if_pos reached, if_pos home, Zone.endDrive_locked begun, Zone.enter_get_self]
    rfl
  · have away : ¬ChanState.locking.reached (z.channels.get c) = true := home
    rw [Zone.drive_eq, if_neg away, if_neg home, begun]

theorem Zone.orderly.grant_granted (h : z.orderly) : z.Granted cfg c (z.grant cfg g) := by
  rcases z.grant_cases cfg g with e | ⟨k, rest, st, hq, room, drives, waits, e⟩ <;> rw [e]
  · exact .refl z
  obtain ⟨here, waiting⟩ := h.2.1 g k (by rw [hq]; simp)
  have by_k : z.By cfg k ((z.setGroup g (fun x => { x with queue := rest }.take k)).drive cfg k st) :=
    (Zone.By.granted here hq room).andThen .drive
  by_cases same : c = k
  · subst same
    refine ⟨fun still => by simp [still] at waiting, fun still => by simp [still] at waiting, by_k.laneOf c, by_k.inputs c,
      fun a hs away => .inr ?_, fun hs => .inr ?_⟩
    · obtain rfl : st = .unlocking a := by
        rcases waits with other | notLocking
        · exact absurd hs (other a)
        · rcases drives with locking | ⟨b, hb, rfl⟩
          · exact absurd locking notLocking
          · rw [hs] at hb
            cases hb
            rfl
      exact Zone.drive_away (z := z.setGroup g _) away
    · obtain rfl : st = .locking := by
        rcases drives with locking | ⟨b, hb, -⟩
        · exact locking
        · simp [hs] at hb
      exact Zone.drive_home (z := z.setGroup g _)
  · exact .of_by by_k same

theorem Zone.orderly.grants_granted (h : z.orderly) (n : Nat) : z.Granted cfg c (z.grants cfg g n) := by
  induction n generalizing z with
  | zero => exact .refl z
  | succ n ih => exact h.grant_granted.trans (ih ((Zone.grant_keeps (E := False) (cfg := cfg)).orderly h))

theorem Zone.orderly.settle_granted (h : z.orderly) : z.Granted cfg c (z.settle cfg d) := by
  unfold Zone.settle
  exact h.grants_granted 32

theorem Zone.Granted.state (h : z.Granted cfg c z') (hs : (z.channels.get c).state = st) (still : st.waits = false) :
    (z'.channels.get c).state = st := by
  rw [h.calm (by rw [hs]; exact still), hs]

/-! ## One channel resumes -/

theorem Zone.resume_other (h : ∀ t, (z.channels.get c).state ≠ .inhibited t) : z.resume cfg c = z := by
  unfold Zone.resume
  dsimp only
  split
  · next a hs => exact absurd hs (h _)
  · next hs => exact absurd hs (h _)
  · next hs => exact absurd hs (h _)
  · rfl

theorem Zone.resume_noEnd (h : (z.channels.get c).state = .inhibited .noEnd) : z.resume cfg c = z.enter cfg c .fault := by
  unfold Zone.resume
  dsimp only
  rw [h]

theorem Zone.resume_home (h : (z.channels.get c).state = .inhibited .closedEnd) (home : (z.channels.get c).home = true) :
    z.resume cfg c = z.enter cfg c .locked := by
  unfold Zone.resume
  dsimp only
  rw [h]
  exact if_pos home

theorem Zone.resume_close (h : (z.channels.get c).state = .inhibited .closedEnd) (away : (z.channels.get c).home = false) :
    z.resume cfg c = (z.waitClose cfg c).settle cfg c := by
  unfold Zone.resume
  dsimp only
  rw [h]
  exact if_neg (by simp [away])

theorem Zone.resume_open (h : (z.channels.get c).state = .inhibited (.openEnd a)) (away : (z.channels.get c).withdrawn = false) :
    z.resume cfg c = (z.waitOpen cfg c a).settle cfg c := by
  unfold Zone.resume
  dsimp only
  rw [h]
  exact if_neg (by simp [away])

section
variable (h : (z.channels.get c).state = .inhibited (.openEnd a)) (there : (z.channels.get c).withdrawn = true)
include h there

theorem Zone.resume_released (hr : (z.channels.get c).release = true) : z.resume cfg c = z.enter cfg c .released := by
  unfold Zone.resume
  dsimp only
  rw [h]
  exact (if_pos there).trans (if_pos hr)

theorem Zone.resume_hold (hr : (z.channels.get c).release = false) : z.resume cfg c = (z.hold cfg c a).settle cfg c := by
  unfold Zone.resume
  dsimp only
  rw [h]
  exact (if_pos there).trans (if_neg (by simp [hr]))

end

/-- The channel relocks, in a group that is not inhibited. -/
theorem Zone.relock_granted (inhibited : (z.groups.get (groupOf c)).inhibited = false) (h : (z.relock cfg c).Granted cfg c z') :
    (cfg.timing.relockDelay ≠ 0 → (z'.channels.get c).state = .openHold (.relockDelay (cfg.timing.relockDelay * 1000))) ∧
    (cfg.timing.relockDelay = 0 → (z'.channels.get c).state = .lockWait ∨
      (z'.channels.get c).state = if (z.channels.get c).home then .locked else .locking) := by
  refine ⟨fun delay => ?_, fun atOnce => ?_⟩
  · rw [Zone.relock_delayed delay] at h
    exact h.state (by rw [Zone.enter_get_self]; rfl) rfl
  · rw [Zone.relock_at_once atOnce, Zone.waitClose_wait inhibited] at h
    have home : ((z.wait cfg c .lockWait).channels.get c).home = (z.channels.get c).home := by rw [Zone.wait_channel]; rfl
    rw [← home]
    exact h.closes (by rw [Zone.wait_channel]; rfl)

theorem Zone.hold_expired_granted (inhibited : (z.groups.get (groupOf c)).inhibited = false)
    (h : (z.hold cfg c .expired).Granted cfg c z') : z.relocking cfg c false (z'.channels.get c).state := by
  refine ⟨fun cabin opened => ?_, fun shut delay => ?_, fun shut atOnce => ?_⟩
  · rw [Zone.hold_cabin_expired cabin, if_pos opened] at h
    exact h.state (by rw [Zone.enter_get_self]; rfl) rfl
  · rw [Zone.hold_expired_relock shut] at h
    exact (Zone.relock_granted inhibited h).1 delay
  · rw [Zone.hold_expired_relock shut] at h
    exact (Zone.relock_granted inhibited h).2 atOnce

/-- A gate that takes a fresh hold reports to its lane (R53, R93). -/
theorem Zone.hold_lane_granted (inhibited : (z.groups.get (groupOf c)).inhibited = false) (gate : cfg.kind c = .gate)
    (named : z.laneOf cfg c = some l) (free : (z.channels.get c).release = false) (h : (z.hold cfg c .fresh).Granted cfg c z') :
    let st' := (z'.channels.get c).state
    let window := some (cfg.timing.passWindow * 1000)
    (∀ m, (z.lanes.get l).state = .released m →
        st' = .openHold .laneHeld ∧ (z'.lanes.get l).state = .released { m with window := window }) ∧
      (∀ m, (z.lanes.get l).state = .closing m →
        st' = .openHold .laneHeld ∧ (z'.lanes.get l).state = .closing { m with window := window }) ∧
      (∀ r, (z.lanes.get l).state = .heldOpen r → st' = .openHold .laneHeld) ∧
      ((z.lanes.get l).state = .ready ∨ (z.lanes.get l).state = .closed → z.relocking cfg c false st') := by
  have held : ((z.enter cfg c (.openHold .laneHeld)).channels.get c).state = .openHold .laneHeld := by rw [Zone.enter_get_self]; rfl
  have moves (x : LaneState) (k : ((z.enter cfg c (.openHold .laneHeld)).setLane l (fun y => { y with state := x })).Granted cfg c z') :
      (z'.channels.get c).state = .openHold .laneHeld ∧ (z'.lanes.get l).state = x := by
    have laneOf := (Zone.By.setLane (z := z.enter cfg c (.openHold .laneHeld)) (f := fun y => { y with state := x }) named rfl).laneOf c
    refine ⟨k.state held rfl, ?_⟩
    rw [k.lane (by rw [Zone.setLane_channels, held]; rfl) l (laneOf.trans named), Zone.setLane_get_self]
  rw [Zone.hold_gate_lane gate named] at h
  refine ⟨fun m hm => ?_, fun m hm => ?_, fun r hr => ?_, fun idle => ?_⟩
  · rw [Zone.gateWithdrawn_released (z := z.enter cfg c _) hm] at h
    exact moves _ h
  · rw [Zone.gateWithdrawn_closing (z := z.enter cfg c _) hm] at h
    exact moves _ h
  · rw [Zone.gateWithdrawn_heldOpen (z := z.enter cfg c _) hr] at h
    exact h.state held rfl
  · rw [Zone.gateWithdrawn_idle (z := z.enter cfg c _) idle, if_neg (by rw [Zone.enter_get_self]; simp [Channel.enter, free])] at h
    obtain ⟨delayed, atOnce⟩ := Zone.relock_granted (z := z.enter cfg c (.openHold .laneHeld)) inhibited h
    refine ⟨fun cabin => by simp [gate] at cabin, fun _ => delayed, fun _ now => ?_⟩
    have next := atOnce now
    rw [Zone.enter_get_self] at next
    exact next

/-- What a channel that is INHIBITED comes to, once it has resumed and others have (R80). -/
theorem Zone.orderly.resume_resumes (h : z.orderly) (inhibited : (z.groups.get (groupOf c)).inhibited = false)
    (k : (z.resume cfg c).Granted cfg c z') : z.resumes cfg c z' := by
  have settled {w : Zone} (o : w.orderly) (k : (w.settle cfg c).Granted cfg c z') : w.Granted cfg c z' := o.settle_granted.trans k
  refine ⟨fun still other => ?_, fun hs => ?_, fun hs home => ?_, fun hs away => ?_, fun a hs => ⟨fun away => ?_, fun there hr => ?_,
    fun there hr => ?_⟩⟩
  · rw [Zone.resume_other other] at k
    exact k.calm still
  · rw [Zone.resume_noEnd hs] at k
    exact k.state (by rw [Zone.enter_get_self]; rfl) rfl
  · rw [Zone.resume_home hs home] at k
    exact k.state (by rw [Zone.enter_get_self]; rfl) rfl
  · have calm : (z.channels.get c).state.waits = false := by rw [hs]; rfl
    rw [Zone.resume_close hs away] at k
    have waits := settled ((Zone.waitClose_keeps (E := False) (cfg := cfg) calm False.elim (by simp [hs])).orderly h) k
    rw [Zone.waitClose_wait inhibited] at waits
    have next := waits.closes (by rw [Zone.wait_channel]; rfl)
    rw [Zone.wait_channel] at next
    rwa [if_neg (show ¬((z.channels.get c).enter cfg c .lockWait).home = true by simp [Channel.enter, away])] at next
  · have calm : (z.channels.get c).state.waits = false := by rw [hs]; rfl
    rw [Zone.resume_open hs away] at k
    have waits := settled ((Zone.waitOpen_keeps (E := False) (cfg := cfg) (a := a) calm (by simp [hs])).orderly h) k
    rw [Zone.waitOpen_wait inhibited] at waits
    exact waits.opens a (by rw [Zone.wait_channel]; rfl) (by rw [Zone.wait_channel]; exact away)
  · rw [Zone.resume_released hs there hr] at k
    exact k.state (by rw [Zone.enter_get_self]; rfl) rfl
  · have calm : (z.channels.get c).state.waits = false := by rw [hs]; rfl
    rw [Zone.resume_hold hs there hr] at k
    have holds := settled ((Zone.hold_keeps (E := False) (cfg := cfg) (a := a) calm False.elim (by simp [hs])).orderly h) k
    refine ⟨fun expired => ?_, fun fresh cabin => ?_, fun fresh gate => ⟨fun none => ?_, fun l named => ?_⟩⟩
    · subst expired
      exact Zone.hold_expired_granted inhibited holds
    · subst fresh
      rw [Zone.hold_cabin_fresh cabin] at holds
      exact holds.state (by rw [Zone.enter_get_self]; rfl) rfl
    · subst fresh
      rw [Zone.hold_gate_alone gate none] at holds
      exact holds.state (by rw [Zone.enter_get_self]; rfl) rfl
    · subst fresh
      exact Zone.hold_lane_granted inhibited gate named hr holds

/-! ## The channels of a group resume one after another -/

theorem Zone.By.resume_op : z.resume cfg c = z ∨ (∃ st, st.drives = false ∧ (z.channels.get c).state.waits = false ∧ z.resume cfg c = z.enter cfg c st) ∨
    ∃ w, z.By cfg c w ∧ z.SameGround w ∧ (z.orderly → w.orderly) ∧ z.resume cfg c = w.settle cfg c := by
  by_cases hs : ∃ t, (z.channels.get c).state = .inhibited t
  · obtain ⟨t, hs⟩ := hs
    have calm : (z.channels.get c).state.waits = false := by rw [hs]; rfl
    have on : (z.channels.get c).state ≠ .off := by simp [hs]
    cases t with
    | noEnd => exact .inr (.inl ⟨.fault, rfl, calm, Zone.resume_noEnd hs⟩)
    | closedEnd =>
      rcases Bool.eq_false_or_eq_true (z.channels.get c).home with home | away
      · exact .inr (.inl ⟨.locked, rfl, calm, Zone.resume_home hs home⟩)
      · exact .inr (.inr ⟨_, .waitClose, .waitClose, (Zone.waitClose_keeps (E := False) calm False.elim on).orderly,
          Zone.resume_close hs away⟩)
    | openEnd a =>
      rcases Bool.eq_false_or_eq_true (z.channels.get c).withdrawn with there | away
      · rcases Bool.eq_false_or_eq_true (z.channels.get c).release with hr | hr
        · exact .inr (.inl ⟨.released, rfl, calm, Zone.resume_released hs there hr⟩)
        · exact .inr (.inr ⟨_, .hold, .hold, (Zone.hold_keeps (E := False) calm False.elim on).orderly, Zone.resume_hold hs there hr⟩)
      · exact .inr (.inr ⟨_, .waitOpen, .waitOpen, (Zone.waitOpen_keeps (E := False) calm on).orderly, Zone.resume_open hs away⟩)
  · exact .inl (Zone.resume_other fun t ht => hs ⟨t, ht⟩)

theorem Zone.orderly.resume_within (h : z.orderly) : z.Within cfg (z.near c) (groupOf c) (z.resume cfg c) := by
  rcases Zone.By.resume_op (cfg := cfg) (c := c) (z := z) with e | ⟨st, -, -, e⟩ | ⟨w, op, -, -, e⟩ <;> rw [e]
  · exact .refl z
  · exact Zone.By.enter.near
  · exact op.settled h

theorem Zone.orderly.resume_granted (h : z.orderly) (other : d ≠ c) : z.Granted cfg d (z.resume cfg c) := by
  rcases Zone.By.resume_op (cfg := cfg) (c := c) (z := z) with e | ⟨st, -, -, e⟩ | ⟨w, op, -, orderly, e⟩ <;> rw [e]
  · exact .refl z
  · exact .of_by .enter other
  · exact (Zone.Granted.of_by op other).trans (orderly h).settle_granted

theorem Zone.resume_ground : z.SameGround (z.resume cfg c) := by
  rcases Zone.By.resume_op (cfg := cfg) (c := c) (z := z) with e | ⟨st, -, -, e⟩ | ⟨w, -, ground, -, e⟩ <;> rw [e]
  · exact .of_eq rfl
  · exact .enter
  · exact ground.trans .settle

theorem Zone.relocking_congr (same : z₁.channels.get c = z.channels.get c) :
    z₁.relocking cfg c false st ↔ z.relocking cfg c false st := by
  unfold Zone.relocking Zone.doorOpen
  rw [same]

/-- How a channel resumes is settled by its record and its lane as they stand before any channel of its group resumes. -/
theorem Zone.Granted.resumes (h : z.Granted cfg c z₁) (k : z₁.resumes cfg c z') : z.resumes cfg c z' := by
  by_cases waits : (z.channels.get c).state.waits = true
  · have none : ∀ t, (z.channels.get c).state ≠ .inhibited t := fun t ht => by simp [ht, ChanState.waits] at waits
    exact ⟨fun still => by simp [waits] at still, fun hs => absurd hs (none _), fun hs => absurd hs (none _),
      fun hs => absurd hs (none _), fun a hs => absurd hs (none _)⟩
  · have still : (z.channels.get c).state.waits = false := by simpa using waits
    have same := h.calm still
    obtain ⟨other, noEnd, home, away, opens⟩ := k
    rw [same] at other noEnd home away opens
    refine ⟨other, noEnd, home, away, fun a hs => ?_⟩
    obtain ⟨waits, released, holds⟩ := opens a hs
    refine ⟨waits, released, fun there hr => ?_⟩
    obtain ⟨expired, cabin, gate⟩ := holds there hr
    refine ⟨fun e => (Zone.relocking_congr same).mp (expired e), cabin, fun e isGate => ?_⟩
    obtain ⟨alone, lane⟩ := gate e isGate
    rw [h.laneOf] at alone
    refine ⟨alone, fun l named => ?_⟩
    have report := lane l (h.laneOf.trans named)
    rw [h.lane still l named] at report
    obtain ⟨released, closing, heldOpen, idle⟩ := report
    exact ⟨released, closing, heldOpen, fun rests => (Zone.relocking_congr same).mp (idle rests)⟩

theorem Zone.orderly.foldl_resumes (cs : List Chan) (h : z.orderly) (nodup : cs.Nodup) (own : ∀ c ∈ cs, groupOf c = g)
    (inhibited : (z.groups.get g).inhibited = false) :
    (∀ d, d ∉ cs → z.Granted cfg d (cs.foldl (fun z c => z.resume cfg c) z)) ∧
      ∀ d ∈ cs, z.resumes cfg d (cs.foldl (fun z c => z.resume cfg c) z) := by
  induction cs generalizing z with
  | nil => exact ⟨fun _ _ => .refl z, fun _ hd => absurd hd List.not_mem_nil⟩
  | cons c cs ih =>
    obtain ⟨new, nodup⟩ := List.nodup_cons.mp nodup
    have here : groupOf c = g := own c (by simp)
    have within := h.resume_within (cfg := cfg) (c := c)
    rw [here] at within
    obtain ⟨others, resumed⟩ := ih ((Zone.resume_keeps (E := False) (cfg := cfg) (c := c)).orderly h) nodup (fun d hd => own d (by simp [hd]))
      (within.inhibited.trans inhibited)
    refine ⟨fun d hd => ?_, fun d hd => ?_⟩
    · obtain ⟨other, absent⟩ : d ≠ c ∧ d ∉ cs := by simpa using hd
      exact (h.resume_granted other).trans (others d absent)
    · rcases List.mem_cons.mp hd with rfl | hd
      · exact h.resume_resumes (here ▸ inhibited) (others d new)
      · exact (h.resume_granted fun e : d = c => new (e ▸ hd)).resumes (resumed d hd)

/-- A group that recovers, in a zone whose arbiters are in order (R80). -/
theorem Zone.orderly.recover_resumes (h : z.orderly) (inhibited : (z.groups.get g).inhibited = false) (here : groupOf d = g) :
    z.resumes cfg d (z.recover cfg g) :=
  (h.foldl_resumes (members g) (members_nodup g) (fun _ => mem_members.mp) inhibited).2 d (mem_members.mpr here)

/-- The recovery of a group stays in the group. -/
theorem Zone.orderly.recover_within (h : z.orderly) : z.Within cfg (fun d => groupOf d = g) g (z.recover cfg g) := by
  have all (cs : List Chan) (own : ∀ c ∈ cs, groupOf c = g) {z : Zone} (h : z.orderly) :
      z.Within cfg (fun d => groupOf d = g) g (cs.foldl (fun z c => z.resume cfg c) z) := by
    induction cs generalizing z with
    | nil => exact .refl z
    | cons c cs ih =>
      have here : groupOf c = g := own c (by simp)
      have within := h.resume_within (cfg := cfg) (c := c)
      rw [here] at within
      exact (within.mono fun d hd => (hd.own h).trans here).trans
        (ih (fun d hd => own d (by simp [hd])) ((Zone.resume_keeps (E := False) (cfg := cfg) (c := c)).orderly h))
  exact all (members g) (fun _ => mem_members.mp) h

theorem Zone.recover_ground : z.SameGround (z.recover cfg g) := by
  have all (cs : List Chan) {z : Zone} : z.SameGround (cs.foldl (fun z c => z.resume cfg c) z) := by
    induction cs generalizing z with
    | nil => exact .of_eq rfl
    | cons c cs ih => exact Zone.resume_ground.trans ih
  exact all (members g)

/-! ## The rail falls -/

/-- The record of a channel whose rail falls. -/
def Channel.undervolt (cfg : Setup) (c : Chan) (ch : Channel) : Channel :=
  match ch.state with
  | .unlocking a => ch.enter cfg c (.inhibited (.openEnd a))
  | .locking => ch.enter cfg c (.inhibited .closedEnd)
  | .unlockWait a => ch.enter cfg c (.inhibited (.openEnd a))
  | .lockWait => ch.enter cfg c (.inhibited .closedEnd)
  | .fault => ch.enter cfg c (.inhibited .noEnd)
  | _ => ch

theorem Zone.enter_eq_setChan {f : Channel → Channel} (h : f (z.channels.get c) = (z.channels.get c).enter cfg c st) :
    z.setChan c f = z.enter cfg c st := by
  unfold Zone.enter Zone.setChan vmod
  rw [h]

theorem Zone.undervolt_eq : z.undervolt cfg c = z.setChan c (·.undervolt cfg c) := by
  refine Eq.symm ?_
  unfold Zone.undervolt
  split
  · next a hs => exact Zone.enter_eq_setChan (by rw [Channel.undervolt, hs] <;> rfl)
  · next hs => exact Zone.enter_eq_setChan (by rw [Channel.undervolt, hs] <;> rfl)
  · next a hs => exact Zone.enter_eq_setChan (by rw [Channel.undervolt, hs] <;> rfl)
  · next hs => exact Zone.enter_eq_setChan (by rw [Channel.undervolt, hs] <;> rfl)
  · next hs => exact Zone.enter_eq_setChan (by rw [Channel.undervolt, hs] <;> rfl)
  · next unlocking locking unlockWait lockWait fault =>
    refine Zone.setChan_eq_self ?_
    unfold Channel.undervolt
    split
    · next a hs => exact absurd hs (unlocking a)
    · next hs => exact absurd hs locking
    · next a hs => exact absurd hs (unlockWait a)
    · next hs => exact absurd hs lockWait
    · next hs => exact absurd hs fault
    · rfl

/-- What the fall of a rail leaves: its group's arbiter is cleared, and its channels are stopped. -/
theorem Zone.railLow_eq : z.railLow cfg g =
    { z.setGroup g (fun x => { x.clear with rail := .undervoltage, railCount := 0 }) with
      channels := (members g).foldl (fun v c => vmod v c (·.undervolt cfg c)) z.channels } := by
  have op : (fun z c => Zone.undervolt cfg c z) = fun z c => z.setChan c (·.undervolt cfg c) := by
    funext z c
    exact Zone.undervolt_eq
  rw [Zone.railLow, op, Zone.foldl_setChan (fun c ch => ch.undervolt cfg c)]
  rfl

theorem Zone.railLow_get (d : Chan) : (z.railLow cfg g).channels.get d =
    if groupOf d = g then (z.channels.get d).undervolt cfg d else z.channels.get d := by
  rw [Zone.railLow_eq]
  refine (vget_foldl_vmod_of (fun c ch => ch.undervolt cfg c) d (members g) z.channels (members_nodup g)).trans ?_
  simp only [mem_members]

/-! ## The events -/

theorem execRailUndervoltage_ignored (h : s.setup.policy.railMask = true ∨ (s.zone.groups.get g).rail = .undervoltage) :
    execRailUndervoltage g s = .next { s with pins := { s.pins with railGood := vset s.pins.railGood g false } } :=
  congrArg _ (if_pos h)

theorem execRailUndervoltage_taken (unmasked : s.setup.policy.railMask = false) (good : (s.zone.groups.get g).rail = .good) :
    execRailUndervoltage g s = .next ({ s with
      pins := { s.pins with railGood := vset s.pins.railGood g false }
      zone := s.zone.railLow s.setup g
      link := s.link.notify (.fault g none .undervoltage) }.closeZone) :=
  congrArg _ (if_neg (by simp [unmasked, good]))

theorem execRailGood_ignored (good : (s.zone.groups.get g).rail = .good) :
    execRailGood g s = .next { s with pins := { s.pins with railGood := vset s.pins.railGood g true } } :=
  congrArg _ (if_pos good)

/-- The protection of a group whose rail comes good. -/
def Group.toGood (x : Group) : Group := { x with rail := .good, railCount := 0, railSettled := true }

section
variable (low : (s.zone.groups.get g).rail = .undervoltage)
include low

theorem execRailGood_taken : execRailGood g s =
    .next ((State.railToGood g { s with pins := { s.pins with railGood := vset s.pins.railGood g true } }).closeZone) :=
  congrArg _ (if_neg (by simp [low]))

theorem execRailGood_latched (latch : (s.zone.groups.get g).latch = true) : execRailGood g s =
    .next ({ s with
      pins := { s.pins with railGood := vset s.pins.railGood g true }
      zone := s.zone.setGroup g Group.toGood }.closeZone) :=
  (execRailGood_taken low).trans (congrArg (fun t : State => Host.Outcome.next t.closeZone) (if_pos latch))

theorem execRailGood_recovers (free : (s.zone.groups.get g).latch = false) : execRailGood g s =
    .next ({ s with
      pins := { s.pins with railGood := vset s.pins.railGood g true }
      zone := (s.zone.setGroup g Group.toGood).recover s.setup g
      link := if (s.zone.groups.get g).railSettled then s.link.notify (.fault g none .recovered) else s.link }.closeZone) := by
  refine (execRailGood_taken low).trans (congrArg (fun t : State => Host.Outcome.next t.closeZone) ?_)
  unfold State.railToGood State.recoverGroup
  dsimp only [State.onZone]
  rw [if_neg (by simp [free])]
  cases (s.zone.groups.get g).railSettled <;> rfl

end

end Sys2Proof.Machine

namespace Sys2Proof.Protection
open Sys2Proof.Machine

/-- Settles O45: the fall of a rail by its group, and the recovery channel by channel. -/
theorem railsInhibitAndRecover : Obligations.RailsInhibitAndRecover := by
  intro g s h x
  refine ⟨⟨execRailUndervoltage_ignored, fun unmasked good => ?low⟩, execRailGood_ignored, execRailGood_latched, fun low free => ?good⟩
  case low =>
    refine ⟨s.zone.railLow s.setup g, execRailUndervoltage_taken unmasked good, ?_, fun k hk => ?_, ?_, fun d => ⟨fun away => ?_, fun here => ?_⟩⟩
    · rw [Zone.railLow_eq]
      rfl
    · rw [Zone.railLow_eq]
      exact Zone.setGroup_get_other _ _ _ _ hk
    · rw [Zone.railLow_eq]
      exact Zone.setGroup_get_self _ _ _
    · rw [Zone.railLow_get, if_neg away]
    · rw [Zone.railLow_get, if_pos here, Channel.undervolt]
      cases hs : (s.zone.channels.get d).state with
      | unlocking | unlockWait | locking | lockWait | fault => rfl
      | _ => exact hs
  case good =>
    have raised : (s.zone.setGroup g Group.toGood).orderly :=
      (Zone.Keeps.setGroup (E := False) (cfg := s.setup) (g := g) (f := Group.toGood) (fun _ => rfl) (fun _ => rfl) (fun _ => rfl)).orderly h
    have within := raised.recover_within (cfg := s.setup) (g := g)
    have group : (s.zone.setGroup g Group.toGood).groups.get g = Group.toGood x := Zone.setGroup_get_self _ _ _
    have inhibited : ((s.zone.setGroup g Group.toGood).groups.get g).inhibited = false := by
      rw [group, Group.inhibited, Group.toGood]
      simp [x, free]
    have ground := (Zone.recover_ground (cfg := s.setup) (g := g) (z := s.zone.setGroup g Group.toGood)).ground g
    have rail := congrArg Group.rail ground
    refine ⟨(s.zone.setGroup g Group.toGood).recover s.setup g, execRailGood_recovers low free, ?_, fun k hk => ?_, fun d => ⟨fun away => ?_, fun here => ?_⟩⟩
    · rw [group] at rail
      exact rail
    · rw [within.groups k hk]
      exact Zone.setGroup_get_other _ _ _ _ hk
    · exact within.channels d away
    · exact raised.recover_resumes inhibited here

end Sys2Proof.Protection
end

section
/-! FAULT READ (R76): the record of a channel, and what its clearing sets off. -/

namespace Sys2Proof.Machine

variable {cfg : Setup} {tag : Octet} {c d : Chan} {g : Grp} {z z₁ z' : Zone} {a : Hold} {s u : State} {n v : Nat} {P : Channel → Prop}
  {st : ChanState}

/-! ## A recovery keeps what every entry of a state keeps -/

section
variable (lasting : Channel.Lasting cfg P)
include lasting

theorem Zone.Hands.waitOpen : z.Hands P (z.waitOpen cfg c a) := by
  rcases Zone.waitOpen_cases cfg c a z with ⟨-, e⟩ | ⟨-, e⟩ <;> rw [e]
  · exact .enter lasting
  · exact fun d hd => Zone.Hands.enter lasting d hd

theorem Zone.Hands.resume : z.Hands P (z.resume cfg c) := by
  unfold Zone.resume
  dsimp only
  split
  · split
    · split
      · exact .enter lasting
      · exact fun d hd => Zone.Hands.settle lasting d (Zone.Hands.hold lasting d hd)
    · exact fun d hd => Zone.Hands.settle lasting d (Zone.Hands.waitOpen lasting d hd)
  · split
    · exact .enter lasting
    · exact fun d hd => Zone.Hands.settle lasting d (Zone.Hands.waitClose lasting d hd)
  · exact .enter lasting
  · exact .refl z

theorem Zone.Hands.recover : z.Hands P (z.recover cfg g) := by
  have all (cs : List Chan) {z : Zone} : z.Hands P (cs.foldl (fun z c => z.resume cfg c) z) := by
    induction cs generalizing z with
    | nil => exact .refl z
    | cons c cs ih => exact fun d hd => ih d (Zone.Hands.resume lasting d hd)
  exact all (members g)

end

/-! ## A channel placed by its bolt senses -/

section
variable (hr : (z.channels.get c).release = true)
include hr

theorem Zone.placeFaulted_released (there : (z.channels.get c).withdrawn = true) : z.placeFaulted cfg c = z.enter cfg c .released :=
  (if_pos hr).trans (if_pos there)

theorem Zone.placeFaulted_open (away : (z.channels.get c).withdrawn = false) :
    z.placeFaulted cfg c = (z.waitOpen cfg c .expired).settle cfg c := (if_pos hr).trans (if_neg (by simp [away]))

end

theorem Zone.placeFaulted_place (hr : (z.channels.get c).release = false) : z.placeFaulted cfg c = z.place cfg c := if_neg (by simp [hr])

theorem Zone.place_off (unused : cfg.inUse c = false) : z.place cfg c = z.enter cfg c .off := by
  have none : cfg.kind c = .none := by simpa [Setup.inUse] using unused
  unfold Zone.place
  rw [none]

theorem Zone.place_used (used : cfg.inUse c = true) : z.place cfg c =
    if (z.channels.get c).home then z.enter cfg c .locked else (z.hold cfg c .expired).settle cfg c := by
  have some : cfg.kind c ≠ .none := by simpa [Setup.inUse] using used
  unfold Zone.place
  split
  · next none => exact absurd none some
  · rfl

/-- The operation of a placed channel, and its arbiter. -/
theorem Zone.placeFaulted_op (h : z.orderly) (hs : (z.channels.get c).state = .fault) (lasting : Channel.Lasting cfg P) :
    (∃ st, z.placeFaulted cfg c = z.enter cfg c st) ∨
      ∃ w, z.By cfg c w ∧ z.SameGround w ∧ w.orderly ∧ z.Hands P w ∧ z.placeFaulted cfg c = w.settle cfg c := by
  have calm : (z.channels.get c).state.waits = false := by rw [hs]; rfl
  have on : (z.channels.get c).state ≠ .off := by simp [hs]
  rcases Bool.eq_false_or_eq_true (z.channels.get c).release with hr | hr
  · rcases Bool.eq_false_or_eq_true (z.channels.get c).withdrawn with there | away
    · exact .inl ⟨_, Zone.placeFaulted_released hr there⟩
    · exact .inr ⟨_, .waitOpen, .waitOpen, (Zone.waitOpen_keeps (E := False) calm on).orderly h, .waitOpen lasting,
        Zone.placeFaulted_open hr away⟩
  · rw [Zone.placeFaulted_place hr]
    rcases Bool.eq_false_or_eq_true (cfg.inUse c) with used | unused
    · rw [Zone.place_used used]
      rcases Bool.eq_false_or_eq_true (z.channels.get c).home with home | away
      · exact .inl ⟨_, if_pos home⟩
      · exact .inr ⟨_, .hold, .hold, (Zone.hold_keeps (E := False) calm False.elim on).orderly h, .hold lasting, if_neg (by simp [away])⟩
    · exact .inl ⟨_, Zone.place_off unused⟩

theorem Zone.placeFaulted_hands (h : z.orderly) (hs : (z.channels.get c).state = .fault) (lasting : Channel.Lasting cfg P) :
    z.Hands P (z.placeFaulted cfg c) := by
  rcases Zone.placeFaulted_op h hs lasting with ⟨st, e⟩ | ⟨w, -, -, -, hands, e⟩ <;> rw [e]
  · exact .enter lasting
  · exact fun d hd => Zone.Hands.settle lasting d (hands d hd)

theorem Zone.placeFaulted_reach (h : z.orderly) (hs : (z.channels.get c).state = .fault) :
    z.Within cfg (z.near c) (groupOf c) (z.placeFaulted cfg c) ∧ z.SameGround (z.placeFaulted cfg c) := by
  rcases Zone.placeFaulted_op h hs (fun _ _ _ _ => ⟨trivial, trivial⟩ : Channel.Lasting cfg fun _ => True) with
    ⟨st, e⟩ | ⟨w, op, ground, -, -, e⟩ <;> rw [e]
  · exact ⟨Zone.By.enter.near, .enter⟩
  · exact ⟨op.settled h, ground.trans .settle⟩

/-- What a channel in FAULT is placed in, by its marker and its bolt senses (R64, R67, R76). -/
theorem Zone.orderly.placeFaulted_state (h : z.orderly) (hs : (z.channels.get c).state = .fault)
    (inhibited : (z.groups.get (groupOf c)).inhibited = false) :
    let st' := ((z.placeFaulted cfg c).channels.get c).state
    ((z.channels.get c).release = false → cfg.inUse c = false → st' = .off) ∧
    ((z.channels.get c).release = false → cfg.inUse c = true →
      ((z.channels.get c).home = true → st' = .locked) ∧ ((z.channels.get c).home = false → z.relocking cfg c false st')) ∧
    ((z.channels.get c).release = true → (z.channels.get c).withdrawn = true → st' = .released) ∧
    ((z.channels.get c).release = true → (z.channels.get c).withdrawn = false → st' = .unlockWait .expired ∨ st' = .unlocking .expired) := by
  have calm : (z.channels.get c).state.waits = false := by rw [hs]; rfl
  have on : (z.channels.get c).state ≠ .off := by simp [hs]
  refine ⟨fun hr unused => ?_, fun hr used => ⟨fun home => ?_, fun away => ?_⟩, fun hr there => ?_, fun hr away => ?_⟩
  · rw [Zone.placeFaulted_place hr, Zone.place_off unused, Zone.enter_get_self]
    rfl
  · rw [Zone.placeFaulted_place hr, Zone.place_used used, if_pos home, Zone.enter_get_self]
    rfl
  · rw [Zone.placeFaulted_place hr, Zone.place_used used, if_neg (by simp [away])]
    exact Zone.hold_expired_granted inhibited ((Zone.hold_keeps (E := False) calm False.elim on).orderly h).settle_granted
  · rw [Zone.placeFaulted_released hr there, Zone.enter_get_self]
    rfl
  · rw [Zone.placeFaulted_open hr away]
    have settled := ((Zone.waitOpen_keeps (E := False) (cfg := cfg) (a := .expired) calm on).orderly h).settle_granted (cfg := cfg) (c := c) (d := c)
    rw [Zone.waitOpen_wait inhibited] at settled ⊢
    exact settled.opens .expired (by rw [Zone.wait_channel]; rfl) (by rw [Zone.wait_channel]; exact away)

/-! ## The record emptied -/

/-- The record of a channel emptied. -/
def Zone.emptied (c : Chan) (z : Zone) : Zone := z.setChan c (fun ch => { ch with record := .empty })

theorem Zone.emptied_get : (z.emptied c).channels.get c = { z.channels.get c with record := .empty } := Zone.setChan_get_self _ _ _

theorem FaultSet.isEmpty_iff {x : FaultSet} : x.isEmpty = true ↔ x = ⟨false, false, false, false⟩ := by
  obtain ⟨_, _, _, _⟩ := x
  simp [FaultSet.isEmpty, and_assoc]

theorem Zone.recordsEmpty_emptied : (z.emptied c).recordsEmpty (groupOf c) = true ↔
    ∀ d, groupOf d = groupOf c → d ≠ c → (z.channels.get d).record.kinds = ⟨false, false, false, false⟩ := by
  simp only [Zone.recordsEmpty, List.all_eq_true, mem_members, FaultSet.isEmpty_iff]
  refine forall_congr' fun d => imp_congr_right fun _ => ?_
  by_cases e : d = c
  · subst e
    rw [Zone.emptied_get]
    simp [FaultRecord.empty]
  · rw [Zone.emptied, Zone.setChan_get_other _ _ _ _ e]
    simp [e]

/-- The fault latch of a group released. -/
def Zone.unlatched (g : Grp) (z : Zone) : Zone := z.setGroup g (fun x => { x with latch := false })

section
variable (latch : (s.zone.groups.get (groupOf c)).latch = true)
include latch

theorem State.clearFault_latched (full : (s.zone.emptied c).recordsEmpty (groupOf c) = false) :
    s.clearFault c = { s with zone := s.zone.emptied c } :=
  (if_pos latch).trans (if_neg fun empty => absurd (full.symm.trans empty) (by simp))

theorem State.clearFault_released (empty : (s.zone.emptied c).recordsEmpty (groupOf c) = true) :
    s.clearFault c =
      if (s.zone.groups.get (groupOf c)).rail = .good then
        State.recoverGroup (groupOf c) true { s with
          zone := (s.zone.emptied c).unlatched (groupOf c), link := s.link.notify (.fault (groupOf c) none .latchReleased) }
      else { s with
        zone := (s.zone.emptied c).unlatched (groupOf c), link := s.link.notify (.fault (groupOf c) none .latchReleased) } :=
  (if_pos latch).trans (if_pos empty)

end

section
variable (free : (s.zone.groups.get (groupOf c)).latch = false)
include free

theorem State.clearFault_alone (h : (s.zone.channels.get c).state ≠ .fault ∨ s.setup.policy.scope.get (groupOf c) = .isolate ∨
    (s.zone.groups.get (groupOf c)).rail = .undervoltage) : s.clearFault c = { s with zone := s.zone.emptied c } := by
  refine (if_neg (by simp [State.onZone, free])).trans (if_neg ?_)
  rintro ⟨fault, scope, inhibited⟩
  have fault : (s.zone.channels.get c).state = .fault :=
    (congrArg Channel.state (Zone.emptied_get (c := c) (z := s.zone))).symm.trans fault
  have inhibited : (s.zone.groups.get (groupOf c)).inhibited = false := inhibited
  have scope : s.setup.policy.scope.get (groupOf c) = .group := scope
  rcases h with h | h | h
  · exact h fault
  · simp [h] at scope
  · simp [Group.inhibited, h] at inhibited

theorem State.clearFault_places (good : (s.zone.groups.get (groupOf c)).rail = .good) (fault : (s.zone.channels.get c).state = .fault)
    (scope : s.setup.policy.scope.get (groupOf c) = .group) :
    s.clearFault c = { s with zone := (s.zone.emptied c).placeFaulted s.setup c } := by
  refine (if_neg (by simp [State.onZone, free])).trans (if_pos ⟨?_, scope, ?_⟩)
  · exact (congrArg Channel.state Zone.emptied_get).trans fault
  · change (s.zone.groups.get (groupOf c)).inhibited = false
    simp [Group.inhibited, free, good]

end

/-! ## FAULT READ -/

theorem serveFaultRead_body (ht : tag ≠ 0) (hn : n < 256) (hv : v < 256) :
    serveFaultRead tag (be 1 n ++ be 1 v) s =
      match indexOf 32 n, flagOf v with
      | some c, some clear =>
        let s' := if clear then s.clearFault c else s
        (s'.relockTest, ok ((s.zone.channels.get c).record.octets ++ groupOctets (groupOf c) s'))
      | _, _ => (s.relockTest, refuse .range) := by
  rw [serveFaultRead, framed_serves ht (by simp), zoned]
  dsimp only
  rw [fields_octets hn hv]
  dsimp only
  cases indexOf 32 n <;> cases flagOf v <;> rfl

end Sys2Proof.Machine

namespace Sys2Proof.Protection
open Sys2Proof.Machine

/-- Settles O46: each row of the table of R76. -/
theorem faultReadReturnsAndClears : Obligations.FaultReadReturnsAndClears := by
  intro tag n v s ht hn hv f u turn
  refine ⟨fun beyond => next_request turn ?range, fun c hc bit => ?served⟩
  case range =>
    rw [serveFaultRead_body ht hn hv]
    rcases index_or_flag_beyond beyond with none | none
    · rw [none]; cases flagOf v <;> rfl
    · rw [none]; cases indexOf 32 n <;> rfl
  case served =>
    subst hc
    intro g x ch scope reply channels others
    have served := serveFaultRead_body (s := u) ht hn hv
    simp only [indexOf_val, flagOf_bit bit] at served
    have zone : u.zone = s.zone := State.arrive_zone _ _
    have setup : u.setup = s.setup := State.arrive_setup _ _
    have octets {t : State} {latch inhibited : Bool} (latched : (t.zone.groups.get g).latch = latch)
        (stopped : (t.zone.groups.get g).inhibited = inhibited) (rail : (t.zone.groups.get g).rail = x.rail) (kept : t.setup = s.setup) :
        ok ((u.zone.channels.get c).record.octets ++ groupOctets g t) = reply latch inhibited := by
      have record : (u.zone.channels.get c).record = ch.record := by rw [zone]
      dsimp only [reply, scope]
      rw [record, ← latched, ← stopped, ← rail, ← kept]
      simp [FaultRecord.octets, groupOctets, ok, o1, flag, flagCode, timeOctets]
    have cleared {t : State} (one : v = 1) (e : u.clearFault c = t) {latch inhibited : Bool}
        (latched : (t.zone.groups.get g).latch = latch) (stopped : (t.zone.groups.get g).inhibited = inhibited)
        (rail : (t.zone.groups.get g).rail = x.rail) (kept : t.setup = s.setup) :
        exec (.faultRead tag f.body) s = .next (t.relockTest.answered f (reply latch inhibited)) := by
      refine next_request turn (served.trans ?_)
      rw [one, if_pos (decide_eq_true rfl), e]
      exact congrArg (Prod.mk t.relockTest) (octets latched stopped rail kept)
    have latches := State.clearFault_latched (s := u) (c := c)
    have releases := State.clearFault_released (s := u) (c := c)
    have clearsAlone := State.clearFault_alone (s := u) (c := c)
    have places := State.clearFault_places (s := u) (c := c)
    rw [zone] at latches releases clearsAlone places
    have unlatched : ((s.zone.emptied c).unlatched g).groups.get g = { x with latch := false } := Zone.setGroup_get_self _ _ _
    refine ⟨fun zero => next_request turn (served.trans ?keeps), fun one latch some => ?latched, fun one free stays => ?alone,
      fun one latch all low => ?released, fun one latch all good => ?recovers, fun one free good fault isGroup h => ?places⟩
    case keeps =>
      rw [zero]
      exact congrArg (Prod.mk u.relockTest) (octets (t := u) (by rw [zone]) (by rw [zone]) (by rw [zone]) setup)
    case latched =>
      have full : (s.zone.emptied c).recordsEmpty g = false :=
        Bool.eq_false_iff.mpr fun empty => some (Zone.recordsEmpty_emptied.mp empty)
      exact cleared one (latches latch full) latch ((Group.inhibited_eq _).mpr (.inl latch)) rfl setup
    case alone =>
      exact cleared one (clearsAlone free (by rw [setup]; exact stays)) free rfl rfl setup
    case released =>
      have released := (releases latch (Zone.recordsEmpty_emptied.mpr all)).trans
        (if_neg (show ¬(s.zone.groups.get g).rail = .good by rw [show (s.zone.groups.get g).rail = _ from low]; simp))
      refine (cleared one released (latch := false) (inhibited := true) ?_ ?_ ?_ setup).trans ?_
      · exact congrArg Group.latch unlatched
      · exact (congrArg Group.inhibited unlatched).trans ((Group.inhibited_eq _).mpr (.inr low))
      · exact (congrArg Group.rail unlatched).trans rfl
      · rfl
    case recovers =>
      have recovers := (releases latch (Zone.recordsEmpty_emptied.mpr all)).trans (if_pos good)
      have ground := (Zone.recover_ground (cfg := u.setup) (g := g) (z := (s.zone.emptied c).unlatched g)).ground g
      rw [unlatched] at ground
      have inhibited : (((s.zone.emptied c).unlatched g).groups.get g).inhibited = false := by
        rw [unlatched]
        simp [Group.inhibited, show x.rail = .good from good]
      have record := Zone.Hands.recover (cfg := u.setup) (g := g) (z := (s.zone.emptied c).unlatched g)
        (Channel.record_lasting .empty) c (congrArg Channel.record Zone.emptied_get)
      have still : ({ x with latch := false } : Group).inhibited = false := by
        simp [Group.inhibited, show x.rail = .good from good]
      refine ⟨((s.zone.emptied c).unlatched g).recover u.setup g,
        cleared one recovers (congrArg Group.latch ground) ((congrArg Group.inhibited ground).trans still) ((congrArg Group.rail ground).trans rfl)
          setup, congrArg Group.latch ground, congrArg FaultRecord.kinds record, fun h => ?_⟩
      have orderly : ((s.zone.emptied c).unlatched g).orderly :=
        (Zone.Keeps.setGroup (E := False) (cfg := s.setup) (g := g) (f := fun x => { x with latch := false })
          (fun _ => rfl) (fun _ => rfl) (fun _ => rfl)).orderly (h.setChan rfl)
      have within := orderly.recover_within (cfg := u.setup) (g := g)
      refine ⟨fun k hk => ?_, fun d => ⟨fun away => ?_, fun here => ?_⟩⟩
      · rw [within.groups k hk]
        exact Zone.setGroup_get_other _ _ _ _ hk
      · rw [within.channels d away]
        exact Zone.setChan_get_other _ _ _ _ fun e => away (by rw [e])
      · have resumes := orderly.recover_resumes (cfg := u.setup) inhibited here
        rw [setup] at resumes ⊢
        exact resumes
    case places =>
      have placed := places free good fault (by rw [setup]; exact isGroup)
      have orderly : (s.zone.emptied c).orderly := h.setChan rfl
      have chan : (s.zone.emptied c).channels.get c = { ch with record := .empty } := Zone.emptied_get
      have faulted : ((s.zone.emptied c).channels.get c).state = .fault := by
        rw [chan]
        exact fault
      have inhibited : x.inhibited = false := by simp [Group.inhibited, show x.rail = .good from good, show x.latch = false from free]
      have reach := Zone.placeFaulted_reach (cfg := u.setup) orderly faulted
      have ground : (((s.zone.emptied c).placeFaulted u.setup c).groups.get g).clear = x.clear := reach.2.ground g
      have record := Zone.placeFaulted_hands (cfg := u.setup) orderly faulted (Channel.record_lasting .empty) c (congrArg Channel.record chan)
      have state := orderly.placeFaulted_state (cfg := u.setup) faulted inhibited
      have relocks (st : ChanState) : (s.zone.emptied c).relocking u.setup c false st → s.zone.relocking u.setup c false st := by
        unfold Zone.relocking Zone.doorOpen
        rw [chan]
        exact id
      rw [chan] at state
      rw [setup] at reach relocks state
      refine ⟨(s.zone.emptied c).placeFaulted u.setup c,
        cleared one placed ((congrArg Group.latch ground).trans free) ((congrArg Group.inhibited ground).trans inhibited)
          ((congrArg Group.rail ground).trans rfl) setup, ?_, congrArg FaultRecord.kinds record, ?_⟩
      all_goals rw [setup]
      · exact reach.1.around_setChan
      · obtain ⟨off, used, released, waits⟩ := state
        exact ⟨off, fun hr hu => ⟨(used hr hu).1, fun away => relocks _ ((used hr hu).2 away)⟩, released, waits⟩

end Sys2Proof.Protection
end

section
/-! Alarms raised, cleared and enabled; notices taken (R82 to R86, R180). -/

namespace Sys2Proof.Machine

variable {tag : Octet} {s : State} {a : Alarm} {r : AlarmRecord} {k : AlarmKind} {n v kind place : Nat} {card : CardNo} {body : List Octet}
  {now : ShipTime} {al : AlarmList}

/-! ## An alarm taken (R82, R84) -/

theorem AlarmList.take_repeated (law : al.law) (mem : r ∈ al.records) (same : r.alarm = a) :
    al.take a now = ({ al with records := repeatAlarm a now al.records }, satInc r.count, .repeated) := by
  obtain ⟨-, nodup, -⟩ := law
  rcases AlarmList.take_cases a now al with ⟨r', mem', same', e⟩ | ⟨none, -, -⟩ | ⟨none, -, -⟩
  · obtain rfl : r' = r := List.inj_on_of_nodup_map nodup mem' mem (same'.trans same.symm)
    exact e
  · exact absurd same (none r mem)
  · exact absurd same (none r mem)

theorem AlarmList.take_new (none : ∀ r ∈ al.records, r.alarm ≠ a) (room : al.records.length < 64) :
    al.take a now = ({ al with records := al.records ++ [⟨a, now, now, 1⟩] }, 1, .new) := by
  rcases AlarmList.take_cases a now al with ⟨r, mem, same, -⟩ | ⟨-, -, e⟩ | ⟨-, full, -⟩
  · exact absurd same (none r mem)
  · exact e
  · exact absurd (Nat.lt_of_lt_of_le room full) (Nat.lt_irrefl _)

theorem AlarmList.take_overflow (none : ∀ r ∈ al.records, r.alarm ≠ a) (full : 64 ≤ al.records.length) :
    al.take a now = ({ al with overflow := true }, 0, .notLatched) := by
  rcases AlarmList.take_cases a now al with ⟨r, mem, same, -⟩ | ⟨-, room, -⟩ | ⟨-, -, e⟩
  · exact absurd same (none r mem)
  · exact absurd (Nat.lt_of_lt_of_le room full) (Nat.lt_irrefl _)
  · exact e

theorem State.raise_off (off : ¬s.setup.alarmEnabled a.kind = true) : s.raise a = s := if_neg off

theorem State.raise_on {t : AlarmList × Nat × AlarmMark} (on : s.setup.alarmEnabled a.kind = true) (e : s.alarms.take a s.clock.time = t) :
    s.raise a = { s with alarms := t.1, link := s.link.notify (.alarm a s.clock.time t.2.1 t.2.2 (!s.clock.valid)) } := by
  subst e
  exact if_pos on

/-! ## Bodies read -/

@[simp] theorem alarmKindOf_code (k : AlarmKind) : alarmKindOf k.code.val = some k := by cases k <;> rfl

theorem alarmKindOf_beyond (h : 8 ≤ n) : alarmKindOf n = none := by
  obtain ⟨m, rfl⟩ := Nat.exists_eq_add_of_le' h
  rfl

theorem Alarm.place_lt (a : Alarm) : a.place < 256 := by
  cases a <;> simp only [Alarm.place, address] <;> omega

theorem alarmOf_self (valid : a.kind = .revokedTap ∨ a.kind = .overstay → cardValid a.card = true) :
    alarmOf a.kind a.card a.place = some a := by
  cases a with
  | revokedTap card r => 
    have valid : cardValid card = true := valid (.inl rfl)
    simp [alarmOf, Alarm.kind, Alarm.card, Alarm.place, address, valid]
  | overstay card =>
    have valid : cardValid card = true := valid (.inr rfl)
    simp [alarmOf, Alarm.kind, Alarm.card, valid]
  | _ => simp [alarmOf, Alarm.kind, Alarm.place, address]

/-- A kind, a source or a card number out of its range names no alarm (R86). -/
theorem alarmOf_out (h : 8 ≤ kind ∨ kind ≤ 1 ∧ 32 ≤ place ∨ 2 ≤ kind ∧ kind ≤ 5 ∧ (place = 0 ∨ 48 < place) ∨ kind = 6 ∧ 4 ≤ place ∨
    (kind = 5 ∨ kind = 7) ∧ cardValid card = false) : (alarmKindOf kind).bind (fun k => alarmOf k card place) = none := by
  by_cases beyond : 8 ≤ kind
  · rw [alarmKindOf_beyond beyond]
    rfl
  · have reader (h : place = 0 ∨ 48 < place) : readerOf place = none := readerOf_beyond h
    have kinds : kind < 8 := by omega
    interval_cases kind
    · simp [alarmKindOf, alarmOf, indexOf_beyond (show 32 ≤ place by omega)]
    · simp [alarmKindOf, alarmOf, indexOf_beyond (show 32 ≤ place by omega)]
    · simp [alarmKindOf, alarmOf, reader (by omega)]
    · simp [alarmKindOf, alarmOf, reader (by omega)]
    · simp [alarmKindOf, alarmOf, reader (by omega)]
    · by_cases valid : cardValid card = true
      · simp [alarmKindOf, alarmOf, reader (by simpa [valid] using h)]
      · simp [alarmKindOf, alarmOf, valid]
    · simp [alarmKindOf, alarmOf, indexOf_beyond (show 4 ≤ place by omega)]
    · have invalid : cardValid card = false := by simpa using h
      simp [alarmKindOf, alarmOf, invalid]

/-! ## ALARM CLEAR and ALARM ENABLE -/

theorem State.clearAlarms_all : s.clearAlarms (fun _ => false) = ({ s with alarms := ⟨[], false⟩ }, ok (be 1 0)) := by
  have empty : s.alarms.keep (fun _ => false) = ⟨[], false⟩ := by simp [AlarmList.keep, Config.alarmPlaces]
  rw [State.clearAlarms, empty]
  rfl

/-- What ALARM CLEAR does with one kind and source. -/
def State.clearAlarm (a : Alarm) (s : State) : State × Reply :=
  if s.alarms.records.any (fun r => r.alarm = a) then s.clearAlarms (fun r => r.alarm ≠ a) else (s, refuse .notFound)

theorem serveAlarmClear_body (ht : tag ≠ 0) (size : body.length = 9) (hn : n < 256) :
    ∃ kind card place, fields [1, 7, 1] body = [kind, card, place] ∧ serveAlarmClear tag (be 1 n ++ body) s =
      match flagOf n with
      | none => (s, refuse .range)
      | some true => s.clearAlarms (fun _ => false)
      | some false =>
        match (alarmKindOf kind).bind (fun k => alarmOf k (BitVec.ofNat 56 card) place) with
        | none => (s, refuse .range)
        | some a => s.clearAlarm a := by
  refine ⟨_, _, _, rfl, ?_⟩
  rw [serveAlarmClear, framed_serves ht (by simp [size])]
  rw [fields_be 1 n _ _ (by simpa using hn)] <;> rfl

theorem serveAlarmClear_one (ht : tag ≠ 0) (hk : kind < 256) (hp : place < 256) :
    serveAlarmClear tag (be 1 0 ++ be 1 kind ++ be 7 card.toNat ++ be 1 place) s =
      match (alarmKindOf kind).bind (fun k => alarmOf k card place) with
      | none => (s, refuse .range)
      | some a => s.clearAlarm a := by
  obtain ⟨kind', card', place', read, served⟩ := serveAlarmClear_body (s := s) (n := 0)
    (body := be 1 kind ++ be 7 card.toNat ++ be 1 place) ht (by simp) (by simp)
  have spelled := fields_spell (xs := [(1, kind), (7, card.toNat), (1, place)]) (by simpa using ⟨hk, card_fits card, hp⟩)
  have same : [kind', card', place'] = [kind, card.toNat, place] := by
    rw [← read]
    simpa [spell] using spelled
  obtain ⟨rfl, rfl, rfl⟩ : kind' = kind ∧ card' = card.toNat ∧ place' = place := by simpa using same
  rw [BitVec.ofNat_toNat, BitVec.setWidth_eq] at served
  simpa [flagOf] using served

theorem serveAlarmEnable_body (ht : tag ≠ 0) (hk : kind < 256) (hv : v < 256) :
    serveAlarmEnable tag (be 1 kind ++ be 1 v) s =
      match alarmKindOf kind, pairOf v with
      | some k, some on =>
        (s.enableAlarm k on, ok (enableOctets (s.enableAlarm k on).setup ++
          o1 (s.alarms.records.length - (s.enableAlarm k on).alarms.records.length)))
      | _, _ => (s, refuse .range) := by
  rw [serveAlarmEnable, framed_serves ht (by simp)]
  rw [fields_octets hk hv] <;> rfl

theorem State.enableAlarm_on : s.enableAlarm k true =
    { s with setup := { s.setup with alarmOn := vset s.setup.alarmOn k.code true } } := rfl

theorem State.enableAlarm_off : s.enableAlarm k false =
    { s with
      setup := { s.setup with alarmOn := vset s.setup.alarmOn k.code false }
      alarms := s.alarms.keep (fun r => r.alarm.kind ≠ k) } := rfl

end Sys2Proof.Machine

namespace Sys2Proof.Alarms
open Sys2Proof.Machine

/-- Settles O47: a repeat, a new record and an overflow; a notice with room and without. -/
theorem anAlarmAndANoticeAreTaken : Obligations.AnAlarmAndANoticeAreTaken := by
  refine ⟨fun a s => ⟨State.raise_off, fun r on law mem same => State.raise_on on (AlarmList.take_repeated law mem same),
    fun on none room => State.raise_on on (AlarmList.take_new none room),
    fun on none full => State.raise_on on (AlarmList.take_overflow none full)⟩,
    fun n k => ⟨fun room => if_pos room, fun full => if_neg (Nat.not_lt.mpr full)⟩⟩

/-- Settles O48: what each body names, and the records that stay. -/
theorem alarmClearAndAlarmEnable : Obligations.AlarmClearAndAlarmEnable := by
  intro tag s ht
  refine ⟨fun body size => ⟨fun turn => next_request turn ?all, fun n beyond hn turn => next_request turn ?allRange⟩,
    fun a valid turn => ⟨fun none => next_request turn ?notFound, fun r mem same => next_request turn ?one⟩,
    fun kind place card hk hp out turn => next_request turn ?oneRange,
    fun kind v beyond hk hv turn => next_request turn ?enableRange,
    fun k v hv turn => ⟨fun beyond => next_request turn ?valueRange, fun zero => next_request turn ?enables,
      fun one => next_request turn ?disables⟩⟩
  case all =>
    obtain ⟨kind, card, place, -, served⟩ := serveAlarmClear_body (s := s.arrive ⟨0x0E, tag, be 1 1 ++ body⟩) ht size (show 1 < 256 by simp)
    exact served.trans State.clearAlarms_all
  case allRange =>
    obtain ⟨kind, card, place, -, served⟩ := serveAlarmClear_body (s := s.arrive ⟨0x0E, tag, be 1 n ++ body⟩) ht size hn
    rw [flagOf_beyond beyond] at served
    exact served
  case notFound =>
    rw [serveAlarmClear_one ht (by omega) a.place_lt, alarmKindOf_code, Option.bind_some, alarmOf_self valid]
    exact if_neg (by simpa using none)
  case one =>
    rw [serveAlarmClear_one ht (by omega) a.place_lt, alarmKindOf_code, Option.bind_some, alarmOf_self valid]
    refine (if_pos (by simpa using ⟨r, mem, same⟩)).trans ?_
    rw [State.clearAlarms, State.arrive_alarms]
    rfl
  case oneRange =>
    rw [serveAlarmClear_one ht hk hp, alarmOf_out out]
    rfl
  case enableRange =>
    rw [serveAlarmEnable_body ht hk hv, alarmKindOf_beyond beyond]
    rfl
  case valueRange =>
    rw [serveAlarmEnable_body ht (by omega) hv, alarmKindOf_code, pairOf_beyond beyond]
    rfl
  case enables =>
    subst zero
    rw [serveAlarmEnable_body ht (by omega) hv, alarmKindOf_code, show pairOf 0 = some true from rfl]
    dsimp only
    rw [State.enableAlarm_on, Nat.sub_self, State.arrive_setup]
    rfl
  case disables =>
    subst one
    rw [serveAlarmEnable_body ht (by omega) hv, alarmKindOf_code, show pairOf 1 = some false from rfl]
    dsimp only
    rw [State.enableAlarm_off, State.arrive_setup, State.arrive_alarms]
    rfl

end Sys2Proof.Alarms
end

section
/-! Passage edges and pass windows (R60, R61, R94 to R98). -/

namespace Sys2Proof.Machine

variable {cfg : Setup} {c d : Chan} {g : Grp} {z z₁ z' : Zone} {st : ChanState} {a : Hold} {n : Nat} {l : LaneNo} {s : State}
  {m : Movement} {k : Known} {R : Zone → Zone → Prop}

/-! ## What every operation of a zone does, from what its writes do -/

/-- A lane state without the pass window of its movement. -/
def LaneState.windowless : LaneState → LaneState
  | .released m => .released { m with window := none }
  | .closing m => .closing { m with window := none }
  | st => st

/-- A relation that every write of a channel's operation keeps: a state entered, a drive begun, an arbiter's record changed, and a
pass window set for the movement of a gate's lane. -/
structure Zone.Stable (cfg : Setup) (R : Zone → Zone → Prop) : Prop where
  refl : ∀ z, R z z
  trans : ∀ {x y z}, R x y → R y z → R x z
  enter : ∀ z c st, R z (z.enter cfg c st)
  begins : ∀ z c st, R z (z.setChan c (·.begin cfg c st))
  group : ∀ z g f, R z (z.setGroup g f)
  lane : ∀ z l (x : LaneState), z.laneUsed cfg l = true → (z.lanes.get l).state.movement ≠ none →
    x.windowless = (z.lanes.get l).state.windowless → R z (z.setLane l (fun y => { y with state := x }))

/-- The lane of a gate is USED. -/
theorem Zone.used_of_laneOf (named : z.laneOf cfg c = some l) : z.laneUsed cfg l = true := by
  unfold Zone.laneOf at named
  split at named
  · have found := List.find?_some named
    simp only [Bool.and_eq_true] at found
    exact found.1
  · cases named

section
variable (h : Zone.Stable cfg R)
include h

theorem Zone.Stable.leave : R z (z.leave c) := h.group _ _ _

theorem Zone.Stable.waitClose : R z (z.waitClose cfg c) := by
  rcases Zone.waitClose_cases cfg c z with ⟨-, e⟩ | ⟨-, e⟩ <;> rw [e]
  · exact h.enter _ _ _
  · exact h.trans (h.enter _ _ _) (h.group _ _ _)

theorem Zone.Stable.relock : R z (z.relock cfg c) := by
  unfold Zone.relock
  split
  · exact h.waitClose
  · exact h.enter _ _ _

theorem Zone.Stable.gateWithdrawn (used : z.laneUsed cfg l = true) : R z (z.gateWithdrawn cfg c l) := by
  unfold Zone.gateWithdrawn
  split
  · next hs => exact h.lane _ _ _ used (by rw [hs]; simp [LaneState.movement]) (by rw [hs]; rfl)
  · next hs => exact h.lane _ _ _ used (by rw [hs]; simp [LaneState.movement]) (by rw [hs]; rfl)
  · exact h.refl z
  · split
    · exact h.refl z
    · exact h.relock
  · split
    · exact h.refl z
    · exact h.relock

theorem Zone.Stable.hold : R z (z.hold cfg c a) := by
  unfold Zone.hold
  split
  · dsimp only
    split
    · next named => exact h.trans (h.enter _ _ _) (h.gateWithdrawn (Zone.used_of_laneOf named))
    · exact h.enter _ _ _
  · exact h.relock
  · exact h.enter _ _ _
  · split
    · exact h.enter _ _ _
    · exact h.relock

theorem Zone.Stable.endDrive : R z (z.endDrive cfg c) := by
  unfold Zone.endDrive
  split
  · dsimp only
    split
    · exact h.trans h.leave (h.enter _ _ _)
    · exact h.trans h.leave h.hold
  · exact h.trans h.leave (h.enter _ _ _)
  · exact h.refl z

theorem Zone.Stable.drive : R z (z.drive cfg c st) := by
  rcases z.drive_cases cfg c st with e | e <;> rw [e]
  · exact h.begins _ _ _
  · exact h.trans (h.begins _ _ _) h.endDrive

theorem Zone.Stable.grants (n : Nat) : R z (z.grants cfg g n) := by
  induction n generalizing z with
  | zero => exact h.refl z
  | succ n ih =>
    refine h.trans ?_ ih
    rcases z.grant_cases cfg g with e | ⟨k, rest, st, -, -, -, -, e⟩ <;> rw [e]
    · exact h.refl z
    · exact h.trans (h.group _ _ _) h.drive

theorem Zone.Stable.settle : R z (z.settle cfg c) := by
  unfold Zone.settle
  exact h.grants 32

theorem Zone.Stable.relockClaim : R z (z.relockClaim cfg c) := by
  unfold Zone.relockClaim
  dsimp only
  split
  · exact h.refl z
  · split
    · exact h.refl z
    · exact h.trans h.relock h.settle
    · split
      · exact h.trans h.leave (h.enter _ _ _)
      · exact h.enter _ _ _
    · exact h.trans h.drive h.settle
    · exact h.enter _ _ _
    all_goals exact h.refl z

end

/-- A lane without a movement stays. -/
def Zone.LanesRest (z z' : Zone) : Prop := ∀ l, (z.lanes.get l).state.movement = none → z'.lanes.get l = z.lanes.get l

theorem Zone.lanesRest_stable : Zone.Stable cfg Zone.LanesRest where
  refl _ _ _ := rfl
  trans h k l rests := (k l (by rw [h l rests]; exact rests)).trans (h l rests)
  enter _ _ _ _ _ := rfl
  begins _ _ _ _ _ := rfl
  group _ _ _ _ _ := rfl
  lane z l x _ moves _ i rests := Zone.setLane_get_other _ _ _ _ fun e => moves (e ▸ rests)

/-! ## A commit -/

theorem Zone.setLane_setLane (l : LaneNo) (f k : Lane → Lane) (z : Zone) :
    (z.setLane l f).setLane l k = z.setLane l (fun x => k (f x)) := by
  unfold Zone.setLane vmod
  dsimp only
  rw [vget_vset_self]
  simp [vset]

/-- The record of a lane that commits its movement (R95). -/
def Lane.committed (dir : Dir) (x : Lane) : Lane := Lane.countCommit dir { x with state := x.state.ended }

/-- The MOVEMENT notice of a commit (R95). -/
def State.movementNotice (l : LaneNo) (m : Movement) (k : Known) (s : State) : Notice :=
  .movement l m.card k.holder.category m.dir m.accepted s.clock.time (k.presence == m.dir.departure) false (!s.clock.valid)

theorem State.known_congr {t : State} (h : t.cards = s.cards) (card : CardNo) : t.known card = s.known card := by
  unfold State.known
  rw [h]

theorem State.commit_eq (l : LaneNo) (m : Movement) (known : s.known m.card = some k) :
    ∃ cs ta fs, s.commit l m = { s with
      cards := cs, tally := ta, folios := fs,
      zone := (s.zone.setLane l (·.committed m.dir)).relockClaim s.setup (s.setup.lanes.get l).gate,
      link := s.link.notify (s.movementNotice l m k) } ∧
      (s.commit l m).known m.card = some { k with
        presence := m.dir.arrival, engaged := if k.engaged = some (.movement l) then none else k.engaged } := by
  obtain ⟨cs, ta, fs, changed, frame⟩ := State.changeKnown_frame m.card (fun k => { k with
    presence := m.dir.arrival, engaged := if k.engaged = some (.movement l) then none else k.engaged }) s
  have moved := frame { s with zone := s.zone.setLane l (fun x => { x with state := x.state.ended }) } rfl rfl rfl
  have was : State.known { s with zone := s.zone.setLane l (fun x => { x with state := x.state.ended }) } m.card = some k := known
  have eq : s.commit l m = { s with
      cards := cs, tally := ta, folios := fs,
      zone := (s.zone.setLane l (·.committed m.dir)).relockClaim s.setup (s.setup.lanes.get l).gate,
      link := s.link.notify (s.movementNotice l m k) } := by
    rw [State.commit, State.commitCard]
    dsimp only [State.onZone]
    rw [was, moved]
    dsimp only
    rw [Zone.setLane_setLane]
    rfl
  have after := State.known_changeKnown_self known (f := fun k => { k with
    presence := m.dir.arrival, engaged := if k.engaged = some (.movement l) then none else k.engaged })
  rw [changed] at after
  refine ⟨cs, ta, fs, eq, ?_⟩
  rw [eq]
  exact after

theorem State.lanePassage_moving (h : (s.zone.lanes.get l).state = .released m ∨ (s.zone.lanes.get l).state = .closing m) :
    s.lanePassage l = s.commit l m := by
  unfold State.lanePassage
  rcases h with h | h <;> rw [h]

theorem State.lanePassage_idle (h : (s.zone.lanes.get l).state = .ready ∨ (s.zone.lanes.get l).state = .closed) :
    s.lanePassage l = s.unattributed l := by
  unfold State.lanePassage
  rcases h with h | h <;> rw [h]

theorem State.lanePassage_held {r : Return} (h : (s.zone.lanes.get l).state = .heldOpen r) : s.lanePassage l = s := by
  unfold State.lanePassage
  rw [h]

/-! ## The passage edge -/

/-- The contact of a gate at its passage edge. -/
def Zone.passed (c : Chan) (z : Zone) : Zone := z.setChan c (fun ch => { ch with contact := true, contactQual := none })

theorem execPassageEdge_other (h : s.setup.kind c ≠ .gate ∨ (s.zone.channels.get c).state = .off) : execPassageEdge c s = .next s :=
  congrArg _ (if_neg fun ⟨gate, on⟩ => h.elim (absurd gate) on)

section
variable (gate : s.setup.kind c = .gate) (on : (s.zone.channels.get c).state ≠ .off)
include gate on

theorem execPassageEdge_taken : execPassageEdge c s = .next (State.passage c { s with zone := s.zone.passed c }).closeZone :=
  congrArg _ (if_pos ⟨gate, on⟩)

theorem execPassageEdge_none (none : s.zone.laneOf s.setup c = none) :
    execPassageEdge c s = .next ({ s with zone := s.zone.passed c }.closeZone) := by
  refine (execPassageEdge_taken gate on).trans (congrArg (fun t : State => Host.Outcome.next t.closeZone) ?_)
  have alone : (s.zone.passed c).laneOf s.setup c = Option.none := none
  unfold State.passage
  dsimp only
  rw [alone]
  split
  · rfl
  · next e _ => cases e
  · rfl

theorem execPassageEdge_lane (named : s.zone.laneOf s.setup c = some l) :
    execPassageEdge c s = .next (State.lanePassage l { s with zone := s.zone.passed c }).closeZone := by
  refine (execPassageEdge_taken gate on).trans (congrArg (fun t : State => Host.Outcome.next t.closeZone) ?_)
  have lane : (s.zone.passed c).laneOf s.setup c = some l := named
  have state : ((s.zone.passed c).channels.get c).state ≠ .off := by
    rw [Zone.passed, Zone.setChan_get_self]
    exact on
  unfold State.passage
  dsimp only
  rw [lane]
  split
  · next off => exact absurd off state
  · next e _ => rw [Option.some.inj e]
  · next e _ => cases e

end

/-! ## The pass window -/

theorem execPassWindowExpiry_none (h : ∀ m, (s.zone.lanes.get l).state = .released m ∨ (s.zone.lanes.get l).state = .closing m →
    m.window = none) : execPassWindowExpiry l s = .next s := by
  unfold execPassWindowExpiry
  split
  · next moving =>
    have := h _ (LaneState.movement_iff.mp moving)
    cases this
  · rfl

theorem execPassWindowExpiry_runs (h : (s.zone.lanes.get l).state = .released m ∨ (s.zone.lanes.get l).state = .closing m)
    (runs : m.window ≠ none) :
    execPassWindowExpiry l s = .next (s.abandon l m .window (s.zone.lanes.get l).state.ended).closeZone := by
  have moving := LaneState.movement_iff.mpr h
  obtain ⟨card, dir, accepted, window⟩ := m
  cases window with
  | none => exact absurd rfl runs
  | some n =>
    unfold execPassWindowExpiry State.abandonMovement
    dsimp only
    rw [moving]

theorem LaneState.ended_eq {x : LaneState} (h : x = .released m ∨ x = .closing m) :
    x.ended = if x = .released m then .ready else .closed := by
  rcases h with rfl | rfl
  · exact (if_pos rfl).symm
  · exact (if_neg (by simp)).symm

theorem LaneState.ended_movement {x : LaneState} (h : x = .released m ∨ x = .closing m) : x.ended.movement = none := by
  rcases h with rfl | rfl <;> rfl

end Sys2Proof.Machine

namespace Sys2Proof.Alarms
open Sys2Proof.Machine

/-- Settles O49: the edge by the state of the lane, and the window; a lane whose movement has ended rests through the relock claim. -/
theorem passagesCommitAndWindowsAbandon : Obligations.PassagesCommitAndWindowsAbandon := by
  refine ⟨fun c s => ⟨execPassageEdge_other, fun gate on => ⟨execPassageEdge_none gate on, fun l named =>
    ⟨fun r held => ?held, fun idle => ?unattributed, fun m k moving known => ?commits⟩⟩⟩,
    fun l s => ⟨execPassWindowExpiry_none, fun m moving runs => ?abandons⟩⟩
  case held =>
    exact (execPassageEdge_lane gate on named).trans (congrArg (fun t : State => Host.Outcome.next t.closeZone)
      (State.lanePassage_held (s := { s with zone := s.zone.passed c }) held))
  case unattributed =>
    exact (execPassageEdge_lane gate on named).trans (congrArg (fun t : State => Host.Outcome.next t.closeZone)
      (State.lanePassage_idle (s := { s with zone := s.zone.passed c }) idle))
  case commits =>
    intro ended z1
    obtain ⟨cs, ta, fs, eq, after⟩ := State.commit_eq (s := { s with zone := s.zone.passed c }) (k := k) l m known
    have lane : (s.zone.lanes.get l).committed m.dir = ended := by
      have state := LaneState.ended_eq moving
      dsimp only [ended]
      rw [← state]
      cases m.dir <;> rfl
    have zone : (s.zone.passed c).setLane l (·.committed m.dir) = z1 := by
      dsimp only [z1]
      rw [← lane]
      rfl
    have record : z1.lanes.get l = ended := vget_vset_self _ _ _
    have rests : (z1.relockClaim s.setup (s.setup.lanes.get l).gate).lanes.get l = ended := by
      rw [Zone.lanesRest_stable.relockClaim l, record]
      rw [record]
      dsimp only [ended]
      rw [← LaneState.ended_eq moving]
      exact LaneState.ended_movement moving
    rw [zone] at eq
    have event := (execPassageEdge_lane gate on named).trans (congrArg (fun t : State => Host.Outcome.next t.closeZone)
      (State.lanePassage_moving (s := { s with zone := s.zone.passed c }) moving))
    rw [eq] at event after
    refine ⟨_, event, rfl, congrArg Lane.state rests, congrArg Lane.committedOut rests, congrArg Lane.committedIn rests, ?_, ?_, rfl⟩
    · refine after.trans (congrArg some ?_)
      cases m.dir <;> rfl
    · dsimp only [State.movementNotice]
      cases m.dir <;> rfl
  case abandons =>
    intro after z1
    obtain ⟨cs, ta, fs, eq, known⟩ := State.abandon_eq l m .window after s
    have event := execPassWindowExpiry_runs moving runs
    have record : z1.lanes.get l = _ := vget_vset_self _ _ _
    have rests : (z1.relockClaim s.setup (s.setup.lanes.get l).gate).lanes.get l = z1.lanes.get l := by
      refine Zone.lanesRest_stable.relockClaim l ?_
      rw [record]
      dsimp only [after]
      rw [← LaneState.ended_eq moving]
      exact LaneState.ended_movement moving
    rw [LaneState.ended_eq moving] at event
    rw [record] at rests
    refine ⟨_, event, ?_⟩
    rw [eq] at known ⊢
    exact ⟨rfl, congrArg Lane.state rests, congrArg Lane.abandoned rests, known, rfl, rfl⟩

end Sys2Proof.Alarms
end

section
/-! The framer, the transmitter and the time of a frame (R173 to R175, R179, R191). -/

namespace Sys2Proof.Machine

variable {s : State} {k k' : Link} {f : Frame} {o len p : Octet} {got init rest : List Octet} {n : Nat} {a b : Built}
  {q : List QueueEntry} {bs : List Built} {x : Notice} {xs : List Notice}

/-! ## The framer -/

theorem execHostOctetReceived_stray (hunting : s.link.framer = .hunting) (other : o ≠ 0xC3) :
    execHostOctetReceived o s = .next { s with link := { s.link with strayOctets := satInc s.link.strayOctets } } := by
  rw [execHostOctetReceived, hunting]
  exact congrArg Host.Outcome.next (if_neg other)

theorem execHostOctetReceived_start (hunting : s.link.framer = .hunting) (start : o = 0xC3) :
    execHostOctetReceived o s = .next { s with link := { s.link with framer := .inFrame [] 21 } } := by
  rw [execHostOctetReceived, hunting]
  exact congrArg Host.Outcome.next (if_pos start)

theorem execHostOctetReceived_inside (inside : s.link.framer = .inFrame got n) :
    execHostOctetReceived o s = .next (s.frameOctet (got ++ [o])).close := by
  rw [execHostOctetReceived, inside]

theorem State.frameOctet_length (h : o.toNat < 2 ∨ 242 < o.toNat) :
    s.frameOctet [o] = { s with link := { s.link with framer := .hunting, lengthErrors := satInc s.link.lengthErrors } } := if_pos h

theorem State.frameOctet_first (low : 2 ≤ o.toNat) (high : o.toNat ≤ 242) :
    s.frameOctet [o] = { s with link := { s.link with framer := .inFrame [o] 21 } } := by
  have size : ¬(o.toNat < 2 ∨ 242 < o.toNat) := by omega
  have more : ¬[o].length = o.toNat + 3 := by simp
  exact (if_neg size).trans (if_neg more)

/-- The covered octets and the check octets of a frame whose last octet is taken. -/
theorem cut_frame (len p o : Octet) (init : List Octet) :
    (len :: (init ++ [p]) ++ [o]).dropLast.dropLast = len :: init ∧
      (len :: (init ++ [p]) ++ [o]).drop (len :: init).length = [p, o] := by
  have split : len :: (init ++ [p]) ++ [o] = (len :: init) ++ [p] ++ [o] := by simp
  refine ⟨?_, ?_⟩
  · rw [split, List.dropLast_concat, List.dropLast_concat]
  · rw [split, List.append_assoc, List.drop_left]
    rfl

theorem State.frameOctet_check (low : 2 ≤ len.toNat) (high : len.toNat ≤ 242) (last : rest.length + 2 = len.toNat + 3)
    (wrong : be 2 (crc16 (len :: rest.dropLast)).toNat ≠ [rest.getLastD 0, o]) :
    s.frameOctet (len :: rest ++ [o]) =
      { s with link := { s.link with framer := .hunting, checkErrors := satInc s.link.checkErrors } } := by
  have long : rest ≠ [] := by
    rintro rfl
    simp at last
  obtain ⟨init, p, rfl⟩ : ∃ init p, rest = init ++ [p] := ⟨_, _, (List.dropLast_append_getLast long).symm⟩
  obtain ⟨covered, check⟩ := cut_frame len p o init
  rw [List.dropLast_concat, List.getLastD_concat] at wrong
  have size : ¬(len.toNat < 2 ∨ 242 < len.toNat) := by omega
  have whole : (len :: (init ++ [p]) ++ [o]).length = len.toNat + 3 := by simpa using last
  have fails : ¬(len :: (init ++ [p]) ++ [o]).drop (len :: init).length = be 2 (crc16 (len :: init)).toNat := by
    rw [check]
    exact wrong.symm
  unfold State.frameOctet State.endFrame
  dsimp only
  rw [covered]
  exact (if_neg size).trans ((if_pos whole).trans (if_neg fails))

theorem execGapTimeout_hunting (hunting : s.link.framer = .hunting) : execGapTimeout s = .next s := by
  rw [execGapTimeout, hunting]

theorem execGapTimeout_inside (inside : s.link.framer = .inFrame got n) :
    execGapTimeout s = .next { s with link := { s.link with framer := .hunting, gapTimeouts := satInc s.link.gapTimeouts } } := by
  rw [execGapTimeout, inside]
  rfl

/-! ## The transmitter -/

theorem Link.transmit_still (h : k.tx ≠ none ∨ k.hostReady = false) : k.transmit = k := by
  refine if_neg ?_
  rcases h with h | h
  · simp [h]
  · simp [h]

section
variable (free : k.tx = none) (ready : k.hostReady = true)
include free ready

theorem Link.transmit_begins (next : k.nextFrame = some (f, k')) : k.transmit = { k' with tx := some ⟨f, f.ms k.rate⟩ } := by
  unfold Link.transmit
  rw [if_pos (by simp [free, ready]), next]

end

theorem Link.transmit_nothing (next : k.nextFrame = none) : k.transmit = k := by
  unfold Link.transmit
  rw [next, ite_self]

theorem Link.takeNotice_cons (h : k.notices = x :: xs) :
    k.takeNotice = some (x.frame, { k with notices := xs, lead := k.lead - 1 }) := by
  unfold Link.takeNotice
  rw [h]

theorem Link.nextFrame_notice (h : k.notices = x :: xs) (turn : 0 < k.lead ∨ takeAnswered k.queue = none ∧ k.busy = []) :
    k.nextFrame = some (x.frame, { k with notices := xs, lead := k.lead - 1 }) := by
  unfold Link.nextFrame
  by_cases lead : 0 < k.lead ∧ k.notices ≠ []
  · rw [if_pos lead, Link.takeNotice_cons h]
  · obtain ⟨none, empty⟩ := turn.resolve_left fun first => lead ⟨first, by simp [h]⟩
    rw [if_neg lead]
    split
    · next found _ => simp [none] at found
    · next found => simp [empty] at found
    · next found _ => simp [none] at found
    · exact Link.takeNotice_cons h

section
variable (turn : k.lead = 0 ∨ k.notices = [])
include turn

theorem Link.nextFrame_answered (h : takeAnswered k.queue = some (a, q)) (first : ∀ b bs, k.busy = b :: bs → a.stamp < b.stamp) :
    k.nextFrame = some (a.frame, { k with queue := q }) := by
  have noLead : ¬(0 < k.lead ∧ k.notices ≠ []) := fun ⟨lead, here⟩ => turn.elim (fun e => by simp [e] at lead) here
  unfold Link.nextFrame
  rw [if_neg noLead]
  split
  · next found _ =>
    cases h.symm.trans found
    rfl
  · next found _ => cases h.symm.trans found
  · next b bs found busy =>
    cases h.symm.trans found
    exact if_pos (first b bs busy)
  · next found _ => cases h.symm.trans found

theorem Link.nextFrame_busy (h : k.busy = b :: bs) (first : ∀ a q, takeAnswered k.queue = some (a, q) → b.stamp ≤ a.stamp) :
    k.nextFrame = some (b.frame, { k with busy := bs }) := by
  have noLead : ¬(0 < k.lead ∧ k.notices ≠ []) := fun ⟨lead, here⟩ => turn.elim (fun e => by simp [e] at lead) here
  unfold Link.nextFrame
  rw [if_neg noLead]
  split
  · next _ busy => cases h.symm.trans busy
  · next busy =>
    cases h.symm.trans busy
    rfl
  · next answered busy =>
    cases h.symm.trans busy
    exact if_neg (Nat.not_lt.mpr (first _ _ answered))
  · next _ busy => cases h.symm.trans busy

end

theorem Link.nextFrame_none (none : takeAnswered k.queue = none) (empty : k.busy = []) (quiet : k.notices = []) : k.nextFrame = Option.none := by
  have nothing : k.takeNotice = Option.none := by
    unfold Link.takeNotice
    rw [quiet]
  unfold Link.nextFrame
  rw [if_neg (by simp [quiet]), nothing]
  split
  · next found _ => simp [none] at found
  · next found => simp [empty] at found
  · next found _ => simp [none] at found
  · rfl

/-- The time of a frame's octets, rounded up. -/
theorem Frame.ms_bounds (f : Frame) (rate : Rate) :
    (f.body.length + 6) * 10 * 1000 ≤ f.ms rate * rate.bits ∧
      f.ms rate * rate.bits < (f.body.length + 6) * 10 * 1000 + rate.bits := by
  unfold Frame.ms
  cases rate <;> simp only [Rate.bits] <;> omega

end Sys2Proof.Machine

namespace Sys2Proof.Links
open Sys2Proof.Machine

/-- Settles O50: each event of the framer, the time of a frame, and which frame the transmitter begins. -/
theorem theHostLinkEventsAndItsTransmitter : Obligations.TheHostLinkEventsAndItsTransmitter := by
  refine ⟨fun s => ⟨fun o hunting => ⟨execHostOctetReceived_stray hunting, execHostOctetReceived_start hunting⟩,
    fun o n inside => ⟨fun out => ?length, fun low high => ?first⟩, fun o len rest n inside low high last wrong => ?check,
    execGapTimeout_hunting, fun got n inside => execGapTimeout_inside inside, rfl, rfl, fun running => if_pos running,
    fun still => if_neg still⟩, fun f rate => ?time, fun k => ⟨Link.transmit_still, fun free ready => 
      ⟨fun n ns notices turn => Link.transmit_begins free ready (Link.nextFrame_notice notices turn),
        fun a q turn answered first => Link.transmit_begins free ready (Link.nextFrame_answered turn answered first),
        fun b bs turn busy first => Link.transmit_begins free ready (Link.nextFrame_busy turn busy first),
        fun none empty quiet => Link.transmit_nothing (Link.nextFrame_none none empty quiet)⟩⟩⟩
  case length => exact (execHostOctetReceived_inside inside).trans (congrArg (fun t : State => Host.Outcome.next t.close) (State.frameOctet_length out))
  case first => exact (execHostOctetReceived_inside inside).trans (congrArg (fun t : State => Host.Outcome.next t.close) (State.frameOctet_first low high))
  case check =>
    exact (execHostOctetReceived_inside inside).trans
      (congrArg (fun t : State => Host.Outcome.next t.close) (State.frameOctet_check low high last wrong))
  case time => 
    have bounds := f.ms_bounds rate
    cases rate <;> exact bounds

end Sys2Proof.Links
end

section
/-! The poll round of the reader bus (R166, R169). -/

namespace Sys2Proof.Machine

variable {s : State} {r pos : ReaderNo} {i n : Nat} {p : Enrol → Bool}

/-! ## A search in a list that rises -/

/-- In a list along which a rank rises, the search finds what answers with the least rank. -/
theorem find?_of_rising {α : Type} {rank : α → Nat} {q : α → Bool} {l : List α} {x : α} (rises : l.Pairwise (rank · < rank ·))
    (mem : x ∈ l) (answers : q x = true) (least : ∀ y, q y = true → rank x ≤ rank y) : l.find? q = some x := by
  induction l with
  | nil => cases mem
  | cons a l ih =>
    obtain ⟨above, rises⟩ := List.pairwise_cons.mp rises
    by_cases ha : q a = true
    · rw [List.find?_cons_of_pos ha]
      rcases List.mem_cons.mp mem with rfl | later
      · rfl
      · exact absurd (above x later) (Nat.not_lt.mpr (least a ha))
    · rw [List.find?_cons_of_neg ha]
      refine ih rises ((List.mem_cons.mp mem).resolve_left ?_)
      rintro rfl
      exact ha answers

/-- The place of a reader in the search that starts after a position. -/
def searchRank (pos r : ReaderNo) : Nat := (r.val + 47 - pos.val) % 48

theorem searchList_rises (pos : ReaderNo) :
    (allReaders.filter (fun r => pos < r) ++ allReaders.filter (fun r => r ≤ pos)).Pairwise (searchRank pos · < searchRank pos ·) := by
  have rises : allReaders.Pairwise (· < ·) := List.pairwise_lt_finRange 48
  refine List.pairwise_append.mpr ⟨?_, ?_, fun a ha b hb => ?_⟩
  · refine (rises.filter _).imp_of_mem fun {a b} ha hb lt => ?_
    have lt : a.val < b.val := lt
    have above : pos.val < a.val ∧ pos.val < b.val := ⟨by simpa using (List.mem_filter.mp ha).2, by simpa using (List.mem_filter.mp hb).2⟩
    unfold searchRank
    omega
  · refine (rises.filter _).imp_of_mem fun {a b} ha hb lt => ?_
    have lt : a.val < b.val := lt
    have below : a.val ≤ pos.val ∧ b.val ≤ pos.val := ⟨by simpa using (List.mem_filter.mp ha).2, by simpa using (List.mem_filter.mp hb).2⟩
    unfold searchRank
    omega
  · have sides : pos.val < a.val ∧ b.val ≤ pos.val := ⟨by simpa using (List.mem_filter.mp ha).2, by simpa using (List.mem_filter.mp hb).2⟩
    unfold searchRank
    omega

theorem mem_searchList (pos r : ReaderNo) : r ∈ allReaders.filter (fun r => pos < r) ++ allReaders.filter (fun r => r ≤ pos) := by
  by_cases h : pos < r
  · simp [allReaders, h]
  · simp [allReaders, h, not_lt.mp h]

theorem State.searchFrom_some (answers : p (s.readers.get r).enrol = true)
    (least : ∀ r', p (s.readers.get r').enrol = true → searchRank pos r ≤ searchRank pos r') : s.searchFrom pos p = some r :=
  find?_of_rising (searchList_rises pos) (mem_searchList pos r) answers least

theorem State.searchFrom_none (none : ∀ r, p (s.readers.get r).enrol = false) : s.searchFrom pos p = Option.none := by
  unfold State.searchFrom
  exact List.find?_eq_none.mpr fun r _ => by simp [none r]

/-- A search that some reader answers finds one. -/
theorem State.searchFrom_finds (answers : p (s.readers.get r).enrol = true) : ∃ r, s.searchFrom pos p = some r := by
  unfold State.searchFrom
  exact Option.isSome_iff_exists.mp (List.find?_isSome.mpr ⟨r, mem_searchList pos r, answers⟩)

/-! ## The stages of the round -/

/-- The round at another stage. -/
def State.atStage (round : Nat) (stage : RoundStage) (s : State) : State := { s with bus := { s.bus with round := round, stage := stage } }

theorem State.nextExchange_poll (stage : s.bus.stage = .polls i)
    (found : allReaders.find? (fun r : ReaderNo => decide (i ≤ r.val) && (s.readers.get r).enrol.isActive) = some r) (n : Nat) :
    State.nextExchange (n + 1) s = s.beginPoll r := by
  rw [State.nextExchange, stage]
  dsimp only
  rw [found]

theorem State.nextExchange_noPoll (stage : s.bus.stage = .polls i)
    (none : allReaders.find? (fun r : ReaderNo => decide (i ≤ r.val) && (s.readers.get r).enrol.isActive) = Option.none) (n : Nat) :
    State.nextExchange (n + 1) s = State.nextExchange n (s.atStage s.bus.round .probe) := by
  rw [State.nextExchange, stage]
  dsimp only
  rw [none]
  rfl

theorem State.nextExchange_probe (stage : s.bus.stage = .probe) (found : s.searchFrom s.bus.probePos Enrol.isProbed = some r) (n : Nat) :
    State.nextExchange (n + 1) s = { s with bus := { s.bus with probePos := r } }.beginExchange r .probe .rejected := by
  rw [State.nextExchange, stage]
  dsimp only
  rw [found]

theorem State.nextExchange_noProbe (stage : s.bus.stage = .probe) (none : s.searchFrom s.bus.probePos Enrol.isProbed = Option.none) (n : Nat) :
    State.nextExchange (n + 1) s = State.nextExchange n (s.atStage s.bus.round .rejected) := by
  rw [State.nextExchange, stage]
  dsimp only
  rw [none]
  rfl

theorem State.nextExchange_rejected (stage : s.bus.stage = .rejected) (due : s.bus.round % 16 = 0)
    (found : s.searchFrom s.bus.rejectedPos Enrol.isRejected = some r) (n : Nat) :
    State.nextExchange (n + 1) s = { s with bus := { s.bus with rejectedPos := r } }.beginExchange r .probe .ended := by
  rw [State.nextExchange, stage]
  dsimp only
  rw [if_pos due, found]

theorem State.nextExchange_noRejected (stage : s.bus.stage = .rejected)
    (none : s.bus.round % 16 ≠ 0 ∨ s.searchFrom s.bus.rejectedPos Enrol.isRejected = Option.none) (n : Nat) :
    State.nextExchange (n + 1) s = State.nextExchange n (s.atStage s.bus.round .ended) := by
  have skipped : (if s.bus.round % 16 = 0 then s.searchFrom s.bus.rejectedPos Enrol.isRejected else Option.none) = Option.none := by
    rcases none with other | none
    · exact if_neg other
    · rw [none, ite_self]
  rw [State.nextExchange, stage]
  dsimp only
  rw [skipped]
  rfl

/-- The count of the round after this one. -/
def nextRound (round : Nat) : Nat := if round < 65535 then round + 1 else 1

theorem State.nextExchange_ended (stage : s.bus.stage = .ended) (n : Nat) :
    State.nextExchange (n + 1) s = State.nextExchange n (s.atStage (nextRound s.bus.round) (.polls 0)) := by
  rw [State.nextExchange, stage]
  rfl

/-! ## Every round that runs reaches an exchange -/

/-- One stage of the round: an exchange begins, whatever stages are left, or a stage comes that a measure puts nearer to one. -/
def State.Advances (μ : Nat → RoundStage → Nat) (s : State) : Prop :=
  (∃ t x, t.bus.exchange = some x ∧ ∀ n, State.nextExchange (n + 1) s = t) ∨
    ∃ round stage, μ round stage < μ s.bus.round s.bus.stage ∧
      ∀ n, State.nextExchange (n + 1) s = State.nextExchange n (s.atStage round stage)

/-- With more stages than the measure asks for, the next exchange is reached, and does not depend on their number. -/
theorem State.nextExchange_reaches {μ : Nat → RoundStage → Nat} (advances : ∀ round stage, (s.atStage round stage).Advances μ) :
    ∀ n round stage, μ round stage < n →
      (∃ x, (State.nextExchange n (s.atStage round stage)).bus.exchange = some x) ∧
      ∀ m, μ round stage < m → State.nextExchange m (s.atStage round stage) = State.nextExchange n (s.atStage round stage) := by
  intro n
  induction n with
  | zero => exact fun _ _ h => absurd h (Nat.not_lt_zero _)
  | succ n ih =>
    intro round stage enough
    rcases advances round stage with ⟨t, x, begun, e⟩ | ⟨round', stage', nearer, e⟩
    · refine ⟨⟨x, by rw [e n]; exact begun⟩, fun m hm => ?_⟩
      obtain ⟨m, rfl⟩ := Nat.exists_eq_add_of_le' (Nat.lt_of_le_of_lt (Nat.zero_le _) hm)
      exact (e m).trans (e n).symm
    · have nearer : μ round' stage' < μ round stage := nearer
      obtain ⟨reached, same⟩ := ih round' stage' (by omega)
      refine ⟨by rw [e n]; exact reached, fun m hm => ?_⟩
      obtain ⟨m, rfl⟩ := Nat.exists_eq_add_of_le' (Nat.lt_of_le_of_lt (Nat.zero_le _) hm)
      exact (e m).trans ((same m (by omega)).trans (e n).symm)

/-- The measure falls at each stage that has no exchange. -/
structure State.Falls (μ : Nat → RoundStage → Nat) (s : State) : Prop where
  polls : ∀ round i, (∀ r : ReaderNo, i ≤ r.val → (s.readers.get r).enrol ≠ .active) → μ round .probe < μ round (.polls i)
  probe : ∀ round, (∀ r, (s.readers.get r).enrol.isProbed = false) → μ round .rejected < μ round .probe
  rejected : ∀ round, round % 16 ≠ 0 ∨ (∀ r, (s.readers.get r).enrol ≠ .rejected) → μ round .ended < μ round .rejected
  ended : ∀ round, μ (nextRound round) (.polls 0) < μ round .ended

theorem Enrol.isActive_iff {x : Enrol} : x.isActive = true ↔ x = .active := by cases x <;> simp [Enrol.isActive]
theorem Enrol.isRejected_iff {x : Enrol} : x.isRejected = true ↔ x = .rejected := by cases x <;> simp [Enrol.isRejected]
theorem Enrol.isProbed_iff {x : Enrol} : x.isProbed = true ↔ x = .absent ∨ x = .lost := by cases x <;> simp [Enrol.isProbed]

theorem State.noPoll_iff : allReaders.find? (fun r : ReaderNo => decide (i ≤ r.val) && (s.readers.get r).enrol.isActive) = none ↔
    ∀ r : ReaderNo, i ≤ r.val → (s.readers.get r).enrol ≠ .active := by
  simp [List.find?_eq_none, allReaders, Enrol.isActive_iff, ← Bool.not_eq_true]

theorem State.searchFrom_eq_none_iff : s.searchFrom pos p = none ↔ ∀ r, p (s.readers.get r).enrol = false := by
  refine ⟨fun none r => ?_, State.searchFrom_none⟩
  by_contra answers
  obtain ⟨r', found⟩ := State.searchFrom_finds (pos := pos) (r := r) (by simpa using answers)
  simp [none] at found

theorem State.beginPoll_exchange (r : ReaderNo) (s : State) : ∃ x, (s.beginPoll r).bus.exchange = some x := by
  unfold State.beginPoll
  split
  · exact ⟨_, rfl⟩
  · exact ⟨_, rfl⟩

theorem State.Falls.advances {μ : Nat → RoundStage → Nat} (h : s.Falls μ) (round : Nat) (stage : RoundStage) :
    (s.atStage round stage).Advances μ := by
  cases stage with
  | polls i =>
    cases found : allReaders.find? (fun r : ReaderNo => decide (i ≤ r.val) && (s.readers.get r).enrol.isActive) with
    | some r =>
      obtain ⟨x, begun⟩ := (s.atStage round (.polls i)).beginPoll_exchange r
      exact .inl ⟨_, x, begun, State.nextExchange_poll (s := s.atStage round (.polls i)) rfl found⟩
    | none =>
      exact .inr ⟨_, _, h.polls round i (State.noPoll_iff.mp found),
        State.nextExchange_noPoll (s := s.atStage round (.polls i)) rfl found⟩
  | probe =>
    cases found : (s.atStage round .probe).searchFrom s.bus.probePos Enrol.isProbed with
    | some r => exact .inl ⟨_, _, rfl, State.nextExchange_probe (s := s.atStage round .probe) rfl found⟩
    | none =>
      exact .inr ⟨_, _, h.probe round (State.searchFrom_eq_none_iff.mp found),
        State.nextExchange_noProbe (s := s.atStage round .probe) rfl found⟩
  | rejected =>
    by_cases due : round % 16 = 0
    · cases found : (s.atStage round .rejected).searchFrom s.bus.rejectedPos Enrol.isRejected with
      | some r => exact .inl ⟨_, _, rfl, State.nextExchange_rejected (s := s.atStage round .rejected) rfl due found⟩
      | none =>
        have none : ∀ r, (s.readers.get r).enrol ≠ .rejected := fun r is => by
          have no := State.searchFrom_eq_none_iff.mp found r
          exact absurd (Enrol.isRejected_iff.mpr is) (ne_true_of_eq_false no)
        exact .inr ⟨_, _, h.rejected round (.inr none),
          State.nextExchange_noRejected (s := s.atStage round .rejected) rfl (.inr found)⟩
    · exact .inr ⟨_, _, h.rejected round (.inl due), State.nextExchange_noRejected (s := s.atStage round .rejected) rfl (.inl due)⟩
  | ended => exact .inr ⟨_, _, h.ended round, State.nextExchange_ended (s := s.atStage round .ended) rfl⟩

/-- The stages to a poll, with a reader ACTIVE. -/
def toPoll (_ : Nat) : RoundStage → Nat
  | .polls 0 => 1
  | .ended => 2
  | .rejected => 3
  | .probe => 4
  | .polls (_ + 1) => 5

/-- The stages to a probe, with a reader ABSENT or LOST. -/
def toProbe (_ : Nat) : RoundStage → Nat
  | .probe => 1
  | .polls _ => 2
  | .ended => 3
  | .rejected => 4

/-- The rounds to the next one whose count is a multiple of 16; the count goes from 65,535 to 1. -/
def roundsToProbe (round : Nat) : Nat :=
  if round % 16 = 0 then 0 else if round / 16 * 16 + 16 ≤ 65535 then 16 - round % 16 else 65535 - round + 16

theorem roundsToProbe_next {round : Nat} (h : round % 16 ≠ 0) : roundsToProbe (nextRound round) + 1 = roundsToProbe round := by
  by_cases more : round < 65535
  · rw [nextRound, if_pos more]
    unfold roundsToProbe
    split_ifs <;> omega
  · have first : roundsToProbe 1 = 15 := rfl
    rw [nextRound, if_neg more, first]
    unfold roundsToProbe
    split_ifs <;> omega

theorem roundsToProbe_le (round : Nat) : roundsToProbe round ≤ 30 := by
  unfold roundsToProbe
  split_ifs <;> omega

/-- The stages to the probe of a REJECTED reader. -/
def toRejected (round : Nat) : RoundStage → Nat
  | .polls _ => 4 * roundsToProbe round + 3
  | .probe => 4 * roundsToProbe round + 2
  | .rejected => 4 * roundsToProbe round + 1
  | .ended => 4 * roundsToProbe (nextRound round) + 4

theorem State.falls_toPoll (h : (s.readers.get r).enrol = .active) : s.Falls toPoll where
  polls _ i none := by
    cases i with
    | zero => exact absurd h (none r (Nat.zero_le _))
    | succ i => simp [toPoll]
  probe _ _ := by simp [toPoll]
  rejected _ _ := by simp [toPoll]
  ended _ := by simp [toPoll]

theorem State.falls_toProbe (h : (s.readers.get r).enrol.isProbed = true) : s.Falls toProbe where
  polls _ _ _ := by simp [toProbe]
  probe _ none := absurd h (ne_true_of_eq_false (none r))
  rejected _ _ := by simp [toProbe]
  ended _ := by simp [toProbe]

theorem State.falls_toRejected (h : (s.readers.get r).enrol = .rejected) : s.Falls toRejected where
  polls _ _ _ := by simp [toRejected]
  probe _ _ := by simp [toRejected]
  rejected round none := by
    have := roundsToProbe_next (none.resolve_right fun none => none r h)
    simp only [toRejected]
    omega
  ended _ := by simp [toRejected]

theorem State.falls_some (h : ∃ r, (s.readers.get r).enrol = .active ∨ (s.readers.get r).enrol.isProbed = true ∨
    (s.readers.get r).enrol = .rejected) : ∃ μ, s.Falls μ ∧ ∀ round stage, μ round stage < 139 := by
  obtain ⟨r, h | h | h⟩ := h
  · refine ⟨toPoll, State.falls_toPoll h, fun round stage => ?_⟩
    cases stage with
    | polls i => cases i <;> simp [toPoll]
    | _ => simp [toPoll]
  · refine ⟨toProbe, State.falls_toProbe h, fun round stage => ?_⟩
    cases stage <;> simp [toProbe]
  · refine ⟨toRejected, State.falls_toRejected h, fun round stage => ?_⟩
    have here := roundsToProbe_le round
    have next := roundsToProbe_le (nextRound round)
    unfold toRejected
    split <;> omega

/-! ## The bus goes on -/

theorem State.busOn_still (h : s.bus.exchange ≠ none ∨ s.phase ≠ .running ∨ ∀ r, (s.readers.get r).enrol = .unassigned) : s.busOn = s := by
  refine if_neg ?_
  rcases h with h | h | h
  · simp [h]
  · simp [h]
  · simp [State.roundsRun, allReaders, h]

section
variable (free : s.bus.exchange = none) (running : s.phase = .running)
include free running

theorem State.busOn_goes (run : (s.readers.get r).enrol ≠ .unassigned) : s.busOn = State.nextExchange 140 s := by
  have runs : s.roundsRun = true := by
    simp only [State.roundsRun, List.any_eq_true]
    exact ⟨r, List.mem_finRange r, by simpa using run⟩
  exact if_pos (by simp [free, runs, running])

/-- A stage with no exchange gives way to the next one. -/
theorem State.busOn_passes (h : ∃ r, (s.readers.get r).enrol = .active ∨ (s.readers.get r).enrol.isProbed = true ∨
    (s.readers.get r).enrol = .rejected) {round : Nat} {stage : RoundStage}
    (passes : ∀ n, State.nextExchange (n + 1) s = State.nextExchange n (s.atStage round stage)) :
    s.busOn = (s.atStage round stage).busOn := by
  have run : ∃ r, (s.readers.get r).enrol ≠ .unassigned := by
    obtain ⟨r, h⟩ := h
    refine ⟨r, fun e => ?_⟩
    simp [e, Enrol.isProbed] at h
  obtain ⟨r, run⟩ := run
  obtain ⟨μ, falls, bound⟩ := State.falls_some h
  obtain ⟨-, same⟩ := State.nextExchange_reaches falls.advances 140 round stage (by have := bound round stage; omega)
  rw [State.busOn_goes free running run, State.busOn_goes (s := s.atStage round stage) free running run, passes 139]
  exact same 139 (bound round stage)

theorem State.busOn_begins (h : ∃ r, (s.readers.get r).enrol = .active ∨ (s.readers.get r).enrol.isProbed = true ∨
    (s.readers.get r).enrol = .rejected) : ∃ x, s.busOn.bus.exchange = some x := by
  have run : ∃ r, (s.readers.get r).enrol ≠ .unassigned := by
    obtain ⟨r, h⟩ := h
    refine ⟨r, fun e => ?_⟩
    simp [e, Enrol.isProbed] at h
  obtain ⟨r, run⟩ := run
  obtain ⟨μ, falls, bound⟩ := State.falls_some h
  rw [State.busOn_goes free running run]
  exact (State.nextExchange_reaches falls.advances 140 s.bus.round s.bus.stage (by have := bound s.bus.round s.bus.stage; omega)).1

end

end Sys2Proof.Machine

namespace Sys2Proof.Links
open Sys2Proof.Machine

/-- Settles O51: each stage where it finds a reader, and where it passes to the next; a round that runs reaches an exchange. -/
theorem thePollRound : Obligations.ThePollRound := by
  intro s b enrol probed after at_
  have probed_iff (r : ReaderNo) : (s.readers.get r).enrol.isProbed = true ↔ probed r := Enrol.isProbed_iff
  refine ⟨State.busOn_still, fun free running => ⟨fun i r stage at_or_after active first => ?polls, fun r stage probe first => ?probe,
    fun r stage due rejected first => ?rejected, fun some => ?passes⟩⟩
  case polls =>
    have found : allReaders.find? (fun r : ReaderNo => decide (i ≤ r.val) && (s.readers.get r).enrol.isActive) = .some r := by
      have answers (x : ReaderNo) : (decide (i ≤ x.val) && (s.readers.get x).enrol.isActive) = true ↔ i ≤ x.val ∧ enrol x = .active := by
        rw [Bool.and_eq_true, decide_eq_true_eq, Enrol.isActive_iff]
      refine find?_of_rising (rank := Fin.val) (List.pairwise_lt_finRange 48) (List.mem_finRange r)
        ((answers r).mpr ⟨at_or_after, active⟩) fun x hx => ?_
      obtain ⟨later, too⟩ := (answers x).mp hx
      by_contra before
      exact first x later (Nat.lt_of_not_le before) too
    have goes : s.busOn = s.beginPoll r :=
      (State.busOn_goes (r := r) free running (by rw [show (s.readers.get r).enrol = _ from active]; simp)).trans (State.nextExchange_poll stage found 139)
    refine ⟨fun empty => goes.trans ?_, fun p full => goes.trans ?_⟩
    · rw [State.beginPoll, show (s.readers.get r).slot = _ from empty] <;> rfl
    · rw [State.beginPoll, show (s.readers.get r).slot = _ from full] <;> rfl
  case probe =>
    have found : s.searchFrom s.bus.probePos Enrol.isProbed = .some r :=
      State.searchFrom_some ((probed_iff r).mpr probe) fun r' answers => first r' ((probed_iff r').mp answers)
    refine (State.busOn_goes (r := r) free running ?_).trans (State.nextExchange_probe stage found 139)
    intro unassigned
    have probe := (probed_iff r).mpr probe
    simp [unassigned, Enrol.isProbed] at probe
  case rejected =>
    have found : s.searchFrom s.bus.rejectedPos Enrol.isRejected = .some r :=
      State.searchFrom_some (Enrol.isRejected_iff.mpr rejected) fun r' answers => first r' (Enrol.isRejected_iff.mp answers)
    exact (State.busOn_goes (r := r) free running (by rw [show (s.readers.get r).enrol = _ from rejected]; simp)).trans
      (State.nextExchange_rejected stage due found 139)
  case passes =>
    have some' : ∃ r, (s.readers.get r).enrol = .active ∨ (s.readers.get r).enrol.isProbed = true ∨ (s.readers.get r).enrol = .rejected := by
      obtain ⟨r, h⟩ := some
      exact ⟨r, h.imp_right (Or.imp_left (probed_iff r).mpr)⟩
    refine ⟨fun i stage none => State.busOn_passes free running some' (State.nextExchange_noPoll stage (State.noPoll_iff.mpr none)),
      fun stage none => State.busOn_passes free running some' (State.nextExchange_noProbe stage (State.searchFrom_eq_none_iff.mpr fun r => ?_)),
      fun stage none => State.busOn_passes free running some' (State.nextExchange_noRejected stage (none.imp_right fun none =>
        State.searchFrom_eq_none_iff.mpr fun r => ?_)),
      fun stage => State.busOn_passes free running some' (State.nextExchange_ended stage), State.busOn_begins free running some'⟩
    · exact Bool.eq_false_iff.mpr fun answers => none r ((probed_iff r).mp answers)
    · exact Bool.eq_false_iff.mpr fun answers => none r (Enrol.isRejected_iff.mp answers)

end Sys2Proof.Links
end

section
/-! The ends of the exchanges of the reader bus (R161 to R168). -/

namespace Sys2Proof.Machine

variable {s : State} {r : ReaderNo} {rd : Reader} {sent : Sent} {left : Nat} {h : Heard} {reply : List Octet} {role : Role}
  {f : Reader → Reader} {x : Exchange} {o : Offer} {code index : Octet} {card : CardNo}

/-! ## The reader of the exchange that has ended -/

/-- The exchange in flight is over, and its reader has the record `rd`. -/
def State.went (r : ReaderNo) (rd : Reader) (s : State) : State :=
  { s with readers := vset s.readers r rd, bus := { s.bus with exchange := none } }

theorem State.went_get : (s.went r rd).readers.get r = rd := vget_vset_self _ _ _

theorem State.setReader_went : (s.went r rd).setReader r f = s.went r (f rd) := by
  unfold State.went State.setReader vmod
  dsimp only
  rw [vget_vset_self]
  simp [vset]

/-- The exchange in flight is over. -/
def State.hungUp (s : State) : State := { s with bus := { s.bus with exchange := none } }

theorem State.setReader_hungUp : s.hungUp.setReader r f = s.went r (f (s.readers.get r)) := rfl

theorem Reader.count_enrol : (rd.count h).enrol = rd.enrol := by cases h <;> rfl

/-- What an exchange received that is no valid frame. -/
def Heard.missed (h : Heard) : Prop := h = .corrupt ∨ h = .nothing

/-! ## POLL and INDICATE (R167, R168) -/

/-- The frame sent to an ACTIVE reader. -/
def Sent.polls (sent : Sent) : Prop := sent = .poll ∨ ∃ p, sent = .indicate p

theorem State.endExchange_polls (polls : sent.polls) : s.endExchange ⟨r, sent, left⟩ h =
    (s.hungUp.endPoll r h).busOn := by
  rcases polls with rfl | ⟨p, rfl⟩ <;> rfl

section
variable (active : (s.readers.get r).enrol = .active)
include active

theorem State.endPoll_valid {frame : ReaderFrame} :
    s.hungUp.endPoll r (.valid frame) = (s.went r (s.readers.get r)).polled r frame := by
  unfold State.endPoll
  dsimp only
  rw [State.setReader_hungUp, State.went_get, Reader.count_enrol, if_pos active]
  rfl

theorem State.endPoll_missed (missed : h.missed) :
    s.hungUp.endPoll r h = (s.went r ((s.readers.get r).count h)).miss r := by
  unfold State.endPoll
  dsimp only
  rw [State.setReader_hungUp, State.went_get, Reader.count_enrol, if_pos active]
  rcases missed with rfl | rfl <;> rfl

end

theorem State.miss_few (few : rd.misses < 2) : (s.went r rd).miss r = s.went r { rd with misses := rd.misses + 1 } := by
  unfold State.miss
  rw [State.went_get, State.setReader_went]
  exact if_pos few

theorem State.miss_third (third : 2 ≤ rd.misses) :
    (s.went r rd).miss r = (s.went r { rd with enrol := .lost, lost := true, slot := none, misses := 0 }).raise (.readerLost r) := by
  unfold State.miss
  rw [State.went_get, State.setReader_went, State.setReader_went]
  exact if_neg (Nat.not_lt.mpr third)

theorem State.polled_idle : (s.went r rd).polled r .idle = s.went r { rd with misses := 0 } := State.setReader_went

theorem State.polled_present : (s.went r rd).polled r (.present card) = (s.went r { rd with misses := 0 }).present r card := by
  unfold State.polled
  rw [State.setReader_went]

theorem State.polled_tamper {state : Octet} : (s.went r rd).polled r (.tamper state) =
    match flagOf state.toNat with
    | some active => (s.went r { rd with misses := 0 }).tamper r active
    | none => s.went r { rd with misses := 0 } := by
  unfold State.polled
  rw [State.setReader_went] <;> rfl

theorem State.tamper_eq (active : Bool) : (s.went r rd).tamper r active =
    if active && !rd.tamper then (s.went r { rd with tamper := active }).raise (.tamper r) else s.went r { rd with tamper := active } := by
  unfold State.tamper
  rw [State.went_get, State.setReader_went]

theorem execPollExchangeEnd_polls (flies : s.bus.exchange = some ⟨r, sent, left⟩) (polls : sent.polls) (reply : List Octet) :
    execPollExchangeEnd reply s = .next
      (s.hungUp.endPoll r (Exchange.hear ⟨r, sent, left⟩ reply)).busOn.closeZone := by
  rw [← State.endExchange_polls polls (left := left), execPollExchangeEnd, flies]
  rcases polls with rfl | ⟨p, rfl⟩ <;> rfl

theorem execReaderReplyWindow_flies (flies : s.bus.exchange = some x) : execReaderReplyWindow s = .next (s.endExchange x .nothing).close := by
  rw [execReaderReplyWindow, flies]

/-! ## PROBE (R164) -/

theorem execProbeExchangeEnd_probe (flies : s.bus.exchange = some ⟨r, .probe, left⟩) (reply : List Octet) :
    execProbeExchangeEnd reply s = .next
      (s.hungUp.endProbe r (Exchange.hear ⟨r, .probe, left⟩ reply)).busOn.close := by
  rw [execProbeExchangeEnd, flies] <;> rfl

theorem State.endProbe_offer : s.hungUp.endProbe r (.valid (.offer o)) =
    (s.went r (s.readers.get r)).offered r o := rfl

theorem State.endProbe_missed (missed : h.missed) :
    s.hungUp.endProbe r h = s.went r ((s.readers.get r).count h) := by
  rcases missed with rfl | rfl <;> rfl

theorem State.offered_eq : (s.went r rd).offered r o =
    if rd.enrol.isProbed || rd.enrol.isRejected then (s.went r { rd with offered := some o }).judge r o.type
    else s.went r { rd with offered := some o } := by
  unfold State.offered
  dsimp only
  rw [State.setReader_went, State.went_get]

theorem State.judge_accepts {type : Octet} (accepts : rd.role.accepts type = true) : (s.went r rd).judge r type =
    { s.went r { rd with enrol := .assigning } with bus := { s.bus with exchange := some ⟨r, .assign rd.role, 3⟩ } } := by
  unfold State.judge
  rw [State.went_get, State.setReader_went]
  exact if_pos accepts

theorem State.judge_refuses {type : Octet} (refuses : rd.role.accepts type = false) : (s.went r rd).judge r type =
    if rd.enrol = .rejected then s.went r rd else (s.went r { rd with enrol := .rejected }).raise (.readerRejected r) := by
  unfold State.judge
  rw [State.went_get, State.setReader_went]
  dsimp only
  rw [if_neg (ne_true_of_eq_false refuses), State.setReader_went]

theorem headTypeOf_iff (head : HeadType) (type : Octet) : headTypeOf type.toNat = some head ↔
    type = match head with | .d => 0x44 | .c => 0x43 | .l => 0x4C := by
  rw [← BitVec.toNat_inj]
  cases head
  · grind [headTypeOf]
  · grind [headTypeOf]
  · grind [headTypeOf]

/-- The head types of each role (R163). -/
theorem Role.accepts_iff (role : Role) (type : Octet) : role.accepts type = true ↔
    (∃ c, role = .door c ∧ (type = 0x44 ∨ type = 0x4C)) ∨ (∃ t, role = .counter t ∧ type = 0x43) ∨
      (∃ l, (role = .laneOut l ∨ role = .laneIn l) ∧ type = 0x4C) := by
  have heads : role.accepts type = true ↔ ∃ head, headTypeOf type.toNat = some head ∧ role.acceptsHead head = true :=
    Option.any_eq_true ..
  simp only [heads, headTypeOf_iff]
  constructor
  · rintro ⟨head, rfl, accepted⟩
    cases role <;> cases head <;> simp_all [Role.acceptsHead]
  · rintro (⟨c, rfl, rfl | rfl⟩ | ⟨t, rfl, rfl⟩ | ⟨l, rfl | rfl, rfl⟩)
    · exact ⟨.d, rfl, rfl⟩
    · exact ⟨.l, rfl, rfl⟩
    · exact ⟨.c, rfl, rfl⟩
    · exact ⟨.l, rfl, rfl⟩
    · exact ⟨.l, rfl, rfl⟩

/-! ## ASSIGN (R165) -/

theorem execAssignExchangeEnd_assign (flies : s.bus.exchange = some ⟨r, .assign role, left⟩) (reply : List Octet) :
    execAssignExchangeEnd reply s = .next
      (s.hungUp.endAssign r role (Exchange.hear ⟨r, .assign role, left⟩ reply)).busOn.close := by
  rw [execAssignExchangeEnd, flies] <;> rfl

section
variable (assigning : (s.readers.get r).enrol = .assigning)
include assigning

theorem State.endAssign_confirm : s.hungUp.endAssign r role (.valid (.confirm code index)) =
    if code.toNat = role.code ∧ index.toNat = role.index then s.went r (s.readers.get r).activate
    else s.went r { s.readers.get r with enrol := .absent } := by
  unfold State.endAssign
  dsimp only
  rw [State.setReader_hungUp, State.went_get, Reader.count_enrol, if_pos assigning, State.setReader_went, State.setReader_went] <;> rfl

theorem State.endAssign_missed (missed : h.missed) : s.hungUp.endAssign r role h =
    s.went r { (s.readers.get r).count h with enrol := .absent } := by
  unfold State.endAssign
  dsimp only
  rw [State.setReader_hungUp, State.went_get, Reader.count_enrol, if_pos assigning]
  rcases missed with rfl | rfl
  · exact State.setReader_went
  · exact State.setReader_went

end

/-! ## No exchange in flight -/

theorem exec_no_exchange (none : s.bus.exchange = none) (reply : List Octet) :
    execPollExchangeEnd reply s = .next s ∧ execProbeExchangeEnd reply s = .next s ∧ execAssignExchangeEnd reply s = .next s ∧
      execReaderReplyWindow s = .next s := by
  refine ⟨?_, ?_, ?_, ?_⟩
  · rw [execPollExchangeEnd, none]
  · rw [execProbeExchangeEnd, none]
  · rw [execAssignExchangeEnd, none]
  · rw [execReaderReplyWindow, none]

end Sys2Proof.Machine

namespace Sys2Proof.Links
open Sys2Proof.Machine

/-- Settles O52: each frame by what its exchange heard. -/
theorem readerExchangesEnd : Obligations.ReaderExchangesEnd := by
  intro r left s rd went
  refine ⟨fun sent flies polls active => ?polls, fun flies => ?probe, Role.accepts_iff, fun role flies assigning => ?assign, fun none reply =>
    exec_no_exchange none reply⟩
  case polls =>
    have ends {reply : List Octet} {h : Heard} (heard : Exchange.hear ⟨r, sent, left⟩ reply = h) {t : State}
        (e : s.hungUp.endPoll r h = t) :
        exec (.pollExchangeEnd reply) s = .next t.busOn.closeZone := by
      subst heard e
      exact execPollExchangeEnd_polls flies polls reply
    have window {t : State} (e : s.hungUp.endPoll r .nothing = t) :
        exec .readerReplyWindow s = .next t.busOn.close := by
      subst e
      exact (execReaderReplyWindow_flies flies).trans (congrArg (fun t : State => Host.Outcome.next t.close) (State.endExchange_polls polls))
    have missed {h : Heard} (no : h.missed) :
        (rd.misses < 2 → s.hungUp.endPoll r h =
          went { rd.count h with misses := rd.misses + 1 }) ∧
        (2 ≤ rd.misses → s.hungUp.endPoll r h =
          (went { rd.count h with misses := 0, enrol := .lost, lost := true, slot := none }).raise (.readerLost r)) := by
      rw [State.endPoll_missed active no]
      have misses : (rd.count h).misses = rd.misses := by cases h <;> rfl
      refine ⟨fun few => ?_, fun third => ?_⟩
      · rw [State.miss_few (misses.symm ▸ few), misses]
        rfl
      · exact State.miss_third (misses.symm ▸ third)
    have valid (frame : ReaderFrame) : s.hungUp.endPoll r (.valid frame) = (s.went r rd).polled r frame := State.endPoll_valid active
    have tampered {state : Octet} {on : Bool} (is : flagOf state.toNat = some on) : s.hungUp.endPoll r (.valid (.tamper state)) =
        if on && !rd.tamper then (went { rd with misses := 0, tamper := on }).raise (.tamper r) else went { rd with misses := 0, tamper := on } := by
      rw [valid, State.polled_tamper, is]
      exact State.tamper_eq on
    refine ⟨fun reply heard => ends heard ((valid _).trans State.polled_idle),
      fun reply card heard => ends heard ((valid _).trans State.polled_present),
      fun reply heard => ⟨fun was => ends heard ((tampered rfl).trans ?was), fun new => ends heard ((tampered rfl).trans (if_pos (by simp [new])))⟩,
      fun reply heard => ends heard ((tampered rfl).trans (if_neg (by simp))),
      fun reply state heard not0 not1 => ends heard ((valid _).trans (State.polled_tamper.trans ?other)),
      fun reply heard => ⟨fun few => ends heard ((missed (.inl rfl)).1 few), fun third => ends heard ((missed (.inl rfl)).2 third)⟩,
      fun few => ends rfl ((missed (.inr rfl)).1 few), fun third => ends rfl ((missed (.inr rfl)).2 third),
      fun few => window ((missed (.inr rfl)).1 few), fun third => window ((missed (.inr rfl)).2 third)⟩
    case was =>
      rw [if_neg (by simp [was]), ← was]
    case other =>
      have beyond : flagOf state.toNat = none := flagOf_beyond (by
        have := mt BitVec.eq_of_toNat_eq not0
        have := mt BitVec.eq_of_toNat_eq not1
        simp at *
        omega)
      rw [beyond] <;> rfl
  case probe =>
    have ends {reply : List Octet} {h : Heard} (heard : Exchange.hear ⟨r, .probe, left⟩ reply = h) {t : State}
        (e : (s.hungUp.endProbe r h).busOn = t) : exec (.probeExchangeEnd reply) s = .next t.close := by
      subst heard e
      exact execProbeExchangeEnd_probe flies reply
    refine ⟨fun reply o heard => ⟨fun accepts probed => ends heard ?taken, fun refuses probed => ends heard ?refused,
        fun refuses rejected => ends heard ?again, fun gone => ends heard ?gone⟩,
      fun reply heard => ends heard (congrArg State.busOn (State.endProbe_missed (.inl rfl))),
      ends rfl (congrArg State.busOn (State.endProbe_missed (.inr rfl))),
      (execReaderReplyWindow_flies flies).trans
        (congrArg (fun t : State => Host.Outcome.next t.busOn.close) (State.endProbe_missed (s := s) (.inr rfl)))⟩
    case taken =>
      rw [State.endProbe_offer, State.offered_eq, if_pos (by rcases probed with e | e | e <;> simp [rd, e, Enrol.isProbed, Enrol.isRejected])]
      rw [State.judge_accepts (rd := { rd with offered := some o }) accepts]
      exact State.busOn_still (.inl (by simp))
    case refused =>
      rw [State.endProbe_offer, State.offered_eq, if_pos (by rcases probed with e | e <;> simp [rd, e, Enrol.isProbed])]
      rw [State.judge_refuses (rd := { rd with offered := some o }) refuses, if_neg (by rcases probed with e | e <;> simp [rd, e])]
      rfl
    case again =>
      rw [State.endProbe_offer, State.offered_eq, if_pos (by simp [rd, rejected, Enrol.isRejected]), State.judge_refuses (rd := { rd with offered := some o }) refuses,
        if_pos rejected]
      rfl
    case gone =>
      rw [State.endProbe_offer, State.offered_eq, if_neg (by simp [rd, gone, Enrol.isProbed, Enrol.isRejected])]
      rfl
  case assign =>
    have ends {reply : List Octet} {h : Heard} (heard : Exchange.hear ⟨r, .assign role, left⟩ reply = h) {t : State}
        (e : s.hungUp.endAssign r role h = t) : exec (.assignExchangeEnd reply) s = .next t.busOn.close := by
      subst heard e
      exact execAssignExchangeEnd_assign flies reply
    exact ⟨fun reply code index heard =>
        ⟨fun sameRole sameIndex => ends heard ((State.endAssign_confirm assigning).trans (if_pos ⟨sameRole, sameIndex⟩)),
          fun another => ends heard ((State.endAssign_confirm assigning).trans (if_neg (by
            rintro ⟨sameRole, sameIndex⟩
            exact another.elim (· sameRole) (· sameIndex))))⟩,
      fun reply heard => ends heard (State.endAssign_missed assigning (.inl rfl)),
      ends rfl (State.endAssign_missed assigning (.inr rfl)),
      (execReaderReplyWindow_flies flies).trans
        (congrArg (fun t : State => Host.Outcome.next t.busOn.close) (State.endAssign_missed assigning (.inr rfl)))⟩

end Sys2Proof.Links
end

section
/-! The ordered checks of a presentation (R30, R34 to R41). -/

namespace Sys2Proof.Machine

variable {s : State} {k : Known} {role : Role} {t : ShipTime} {c : Chan} {l : LaneNo} {d : Nat}

/-! ## What each check asks -/

theorem Known.inside_iff :
    k.inside t = true ↔ (∀ v, k.validFrom = some v → v ≤ t) ∧ ∀ v, k.validUntil = some v → t ≤ v := by
  unfold Known.inside
  cases k.validFrom <;> cases k.validUntil <;> simp

theorem Role.isLaneOut_iff : role.isLaneOut = true ↔ ∃ l, role = .laneOut l := by
  cases role <;> simp [Role.isLaneOut]

theorem Deadline.isExpired_iff {x : Deadline} : x.isExpired = true ↔ ∃ n, x = .expired n := by
  cases x <;> simp [Deadline.isExpired]

theorem State.laneHeld_iff : s.laneHeld l = true ↔ ∃ ret, (s.zone.lanes.get l).state = .heldOpen ret := by
  unfold State.laneHeld
  cases (s.zone.lanes.get l).state <;> simp

theorem State.doorBarred_iff : s.doorBarred c = true ↔
    (∃ t, (s.zone.channels.get c).state = .inhibited t) ∨
      (s.zone.channels.get c).state = .fault ∧ s.setup.policy.scope.get (groupOf c) = .group := by
  unfold State.doorBarred
  cases (s.zone.channels.get c).state <;> simp

theorem State.gateBarred_iff : s.gateBarred l = true ↔
    (∃ t, (s.zone.channels.get (s.setup.lanes.get l).gate).state = .inhibited t) ∨
      (s.zone.channels.get (s.setup.lanes.get l).gate).state = .fault := by
  unfold State.gateBarred
  cases (s.zone.channels.get (s.setup.lanes.get l).gate).state <;> simp

theorem Known.covers_iff : k.covers d = true ↔ ∃ g ∈ k.grants, g.covers d = true := List.any_eq_true

theorem Known.singleDoor_iff : k.singleDoor d = true ↔ Grant.door d ∈ k.grants := List.contains_iff_mem

/-! ## Checks 3 to 5, of every role -/

/-- The validity check passes: ship time is invalid, inside the entry's window, or the entry leaves ABOARD (R36). -/
def State.validAt (role : Role) (k : Known) (s : State) : Prop :=
  s.clock.valid = false ∨
    ((∀ v, k.validFrom = some v → v ≤ s.clock.time) ∧ ∀ v, k.validUntil = some v → s.clock.time ≤ v) ∨
    (∃ l, role = .laneOut l) ∧ k.presence = .aboard

theorem State.expired_iff :
    (s.clock.valid = true ∧ k.inside s.clock.time = false ∧ ¬(role.isLaneOut = true ∧ k.presence = .aboard)) ↔ ¬s.validAt role k := by
  unfold State.validAt
  rw [← Known.inside_iff, ← Role.isLaneOut_iff, not_or, not_or, Bool.not_eq_false, Bool.not_eq_true]

theorem State.verdict_busy (engaged : k.engaged ≠ none) : s.verdict role k = .deniedBusy :=
  if_pos (Option.isSome_iff_ne_none.mpr engaged)

section
variable (engaged : k.engaged = none)
include engaged

theorem State.verdict_revoked (revoked : k.status = .revoked) : s.verdict role k = .deniedRevoked := by
  unfold State.verdict
  rw [if_neg (by simp [engaged]), if_pos revoked]

variable (unrevoked : k.status ≠ .revoked)
include unrevoked

theorem State.verdict_expired (expired : ¬s.validAt role k) : s.verdict role k = .deniedExpired := by
  unfold State.verdict
  rw [if_neg (by simp [engaged]), if_neg unrevoked, if_pos (State.expired_iff.mpr expired)]

variable (valid : s.validAt role k)
include valid

theorem State.verdict_passes : s.verdict role k = if s.evacuating then s.evacVerdict role k else s.roleVerdict role k := by
  unfold State.verdict
  rw [if_neg (by simp [engaged]), if_neg unrevoked, if_neg (mt State.expired_iff.mp (not_not.mpr valid))]

end

/-! ## The checks of a door (R38, R39) -/

section
variable {k : Known}

/-- The door of the channel is one that the card opens. -/
def State.opensDoor (c : Chan) (k : Known) (s : State) : Prop :=
  s.setup.kind c = .cabin ∧ ∃ g ∈ k.grants, g.covers (s.setup.channels.get c).door = true

theorem State.closed_door_iff : (s.setup.kind c ≠ .cabin ∨ k.covers (s.setup.channels.get c).door = false) ↔ ¬s.opensDoor c k := by
  unfold State.opensDoor
  rw [← Known.covers_iff, not_and_or, Bool.not_eq_true]

/-- The first door check that fails decides. -/
theorem State.doorVerdict_checks :
    let ch := s.zone.channels.get c
    let unlocked := ch.lockout = false ∨ k.officer = true
    let unprivate := ch.privacy = false ∨ Grant.door (s.setup.channels.get c).door ∈ k.grants ∨ k.officer = true
    let here := s.setup.policy.presence = false ∨ k.presence = .aboard
    (¬s.opensDoor c k → s.doorVerdict c k = .deniedNoGrant) ∧
    (s.opensDoor c k → ¬unlocked → s.doorVerdict c k = .deniedLockout) ∧
    (s.opensDoor c k → unlocked → ¬unprivate → s.doorVerdict c k = .deniedPrivacy) ∧
    (s.opensDoor c k → unlocked → unprivate → ¬here → s.doorVerdict c k = .deniedPresence) ∧
    (s.opensDoor c k → unlocked → unprivate → here → s.doorVerdict c k = if s.doorBarred c then .deniedChannel else .granted) := by
  intro ch unlocked unprivate here
  have locked : (ch.lockout = true ∧ k.officer = false) ↔ ¬unlocked := by
    simp [unlocked]
  have private_ : (ch.privacy = true ∧ k.singleDoor (s.setup.channels.get c).door = false ∧ k.officer = false) ↔ ¬unprivate := by
    simp [unprivate, ← Known.singleDoor_iff]
  have away : (s.setup.policy.presence = true ∧ k.presence = .ashore) ↔ ¬here := by
    cases hp : k.presence <;> simp [here, hp]
  have closed : (s.setup.kind c ≠ .cabin ∨ k.covers (s.setup.channels.get c).door = false) ↔ ¬s.opensDoor c k :=
    State.closed_door_iff
  dsimp only [State.doorVerdict]
  refine ⟨fun h => if_pos (closed.mpr h), fun h₁ h => ?_, fun h₁ h₂ h => ?_, fun h₁ h₂ h₃ h => ?_, fun h₁ h₂ h₃ h₄ => ?_⟩
  · rw [if_neg (mt closed.mp (not_not.mpr h₁)), if_pos (locked.mpr h)]
  · rw [if_neg (mt closed.mp (not_not.mpr h₁)), if_neg (mt locked.mp (not_not.mpr h₂)), if_pos (private_.mpr h)]
  · rw [if_neg (mt closed.mp (not_not.mpr h₁)), if_neg (mt locked.mp (not_not.mpr h₂)), if_neg (mt private_.mp (not_not.mpr h₃)),
      if_pos (away.mpr h)]
  · rw [if_neg (mt closed.mp (not_not.mpr h₁)), if_neg (mt locked.mp (not_not.mpr h₂)), if_neg (mt private_.mp (not_not.mpr h₃)),
      if_neg (mt away.mp (not_not.mpr h₄))]

end

/-! ## The checks of a lane (R40) -/

theorem State.laneVerdict_closed {dir : Dir} (unreleased : ∀ m, (s.zone.lanes.get l).state ≠ .released m)
    (unready : (s.zone.lanes.get l).state ≠ .ready) : s.laneVerdict l dir k = .deniedLaneClosed := by
  unfold State.laneVerdict
  split
  · rfl
  · rfl
  · rfl
  next m is => exact absurd is (unreleased m)
  next is => exact absurd is unready

theorem State.laneVerdict_busy {dir : Dir} {m : Movement} (released : (s.zone.lanes.get l).state = .released m) :
    s.laneVerdict l dir k = .deniedLaneBusy := by
  simp [State.laneVerdict, released]

section
variable (ready : (s.zone.lanes.get l).state = .ready)
include ready

theorem State.laneVerdict_held (hold : k.status = .hold) : s.laneVerdict l .out k = .deniedHold := by
  simp [State.laneVerdict, ready, hold]

theorem State.laneVerdict_late (unheld : k.status ≠ .hold) (expired : s.deadline.isExpired = true) :
    s.laneVerdict l .out k = .deniedDeadline := by
  simp [State.laneVerdict, ready, unheld, expired]

/-- The checks of both directions, once the checks of a departure are passed. -/
theorem State.laneVerdict_ready {dir : Dir} (unheld : dir = .out → k.status ≠ .hold) (early : dir = .out → s.deadline.isExpired = false) :
    s.laneVerdict l dir k =
      if s.setup.policy.passback ∧ k.presence ≠ dir.departure then .deniedPassback
      else if s.gateBarred l then .deniedChannel else .accepted := by
  unfold State.laneVerdict
  rw [ready]
  dsimp only
  rw [if_neg (fun ⟨out, hold⟩ => unheld out hold), if_neg (fun ⟨out, expired⟩ => by simp [early out] at expired)]

/-- The way the card goes is open to it: passback is off, or the card is on the side it leaves (R40 e). -/
theorem State.laneVerdict_last {dir : Dir} (unheld : dir = .out → k.status ≠ .hold)
    (early : dir = .out → ∀ n, s.deadline ≠ .expired n) :
    (s.setup.policy.passback = true → k.presence = dir.arrival → s.laneVerdict l dir k = .deniedPassback) ∧
    (s.setup.policy.passback = false ∨ k.presence = dir.departure →
      s.laneVerdict l dir k = if s.gateBarred l then .deniedChannel else .accepted) := by
  have intime (out : dir = .out) : s.deadline.isExpired = false :=
    Bool.eq_false_iff.mpr (mt Deadline.isExpired_iff.mp (not_exists.mpr (early out)))
  rw [State.laneVerdict_ready ready unheld intime]
  refine ⟨fun passback back => if_pos ⟨passback, ?back⟩, fun open_ => if_neg ?open_⟩
  case back => cases dir <;> simp [back, Dir.arrival, Dir.departure]
  case open_ => rcases open_ with off | leaves <;> simp [*]

end

/-! ## While evacuation is in effect (R37) -/

theorem State.evacVerdict_lane_shut {role : Role} (lane : role = .laneOut l ∨ role = .laneIn l) (shut : ¬∃ ret, (s.zone.lanes.get l).state = .heldOpen ret) :
    s.evacVerdict role k = .deniedLaneClosed := by
  have unheld : s.laneHeld l = false := Bool.eq_false_iff.mpr (mt State.laneHeld_iff.mp shut)
  rcases lane with rfl | rfl
  · exact if_pos unheld
  · exact if_pos unheld

section
variable (held : ∃ ret, (s.zone.lanes.get l).state = .heldOpen ret)
include held

theorem State.evacVerdict_laneOut : s.evacVerdict (.laneOut l) k = if k.status = .hold then .deniedHold else .accepted :=
  if_neg (by simp [State.laneHeld_iff.mpr held])

theorem State.evacVerdict_laneIn : s.evacVerdict (.laneIn l) k = .accepted :=
  if_neg (by simp [State.laneHeld_iff.mpr held])

end

/-! ## The checks of a counter (R41) -/

theorem State.counterVerdict_armed {t : TillNo} (armed : ∃ c left, (s.tills.get t).state = .armed c left) :
    s.counterVerdict t = .chargeTaken := by
  obtain ⟨c, left, armed⟩ := armed
  simp [State.counterVerdict, armed]

theorem State.counterVerdict_unarmed {t : TillNo} (unarmed : ∀ c left, (s.tills.get t).state ≠ .armed c left) :
    s.counterVerdict t = .deniedNoCharge := by
  unfold State.counterVerdict
  split
  next c left armed => exact absurd armed (unarmed c left)
  · rfl

end Sys2Proof.Machine

namespace Sys2Proof.Presentations
open Sys2Proof.Machine

/-- Settles O53: each check of the ordered list, once those before it are passed. -/
theorem theChecksOfAKnownEntryComeInOrder : Obligations.TheChecksOfAKnownEntryComeInOrder := by
  intro k s now inside valid passes
  have usual (normal : s.evac.state ≠ .evacuation) {role : Role} (h : passes role) : s.verdict role k = s.roleVerdict role k := by
    obtain ⟨engaged, unrevoked, valid⟩ := h
    exact (State.verdict_passes engaged unrevoked valid).trans (if_neg (mt State.evacuating_iff.mp normal))
  have inEvac (evac : s.evac.state = .evacuation) {role : Role} (h : passes role) : s.verdict role k = s.evacVerdict role k := by
    obtain ⟨engaged, unrevoked, valid⟩ := h
    exact (State.verdict_passes engaged unrevoked valid).trans (if_pos (State.evacuating_iff.mpr evac))
  refine ⟨fun role => ⟨State.verdict_busy, State.verdict_revoked, State.verdict_expired⟩, fun normal => ⟨?doors, ?lanes, ?counters⟩,
    fun evac => ⟨fun c pass => inEvac evac pass, fun t pass => inEvac evac pass, ?held⟩⟩
  case doors =>
    intro c pass ch d open_ unlocked unprivate here barred
    obtain ⟨shut, locked, private_, away, last⟩ := State.doorVerdict_checks (s := s) (c := c) (k := k)
    have verdict : s.verdict (.door c) k = s.doorVerdict c k := usual normal pass
    rw [verdict]
    exact ⟨shut, locked, private_, away, fun h₁ h₂ h₃ h₄ h => (last h₁ h₂ h₃ h₄).trans (if_pos (State.doorBarred_iff.mpr h)),
      fun h₁ h₂ h₃ h₄ h => (last h₁ h₂ h₃ h₄).trans (if_neg (mt State.doorBarred_iff.mp h))⟩
  case lanes =>
    intro l st gate barred out in_ passback
    refine ⟨fun pass => ?out, fun pass => ?in_⟩
    case out =>
      have verdict : out = s.laneVerdict l .out k := usual normal pass
      rw [verdict]
      refine ⟨State.laneVerdict_closed, fun m => State.laneVerdict_busy, State.laneVerdict_held, fun ready active => ⟨fun late => ?_, fun early => ?_⟩⟩
      · exact State.laneVerdict_late ready (by simp [active]) (Deadline.isExpired_iff.mpr late)
      · obtain ⟨back, last⟩ := State.laneVerdict_last (k := k) ready (dir := .out) (fun _ => by simp [active]) (fun _ => early)
        exact ⟨back, fun leaves => ⟨fun h => (last leaves).trans (if_pos (State.gateBarred_iff.mpr h)),
          fun h => (last leaves).trans (if_neg (mt State.gateBarred_iff.mp h))⟩⟩
    case in_ =>
      have verdict : in_ = s.laneVerdict l .in k := usual normal pass
      rw [verdict]
      refine ⟨State.laneVerdict_closed, fun m => State.laneVerdict_busy, fun ready => ?_⟩
      obtain ⟨back, last⟩ := State.laneVerdict_last (k := k) ready (dir := .in) (by simp) (by simp)
      exact ⟨back, fun leaves => ⟨fun h => (last leaves).trans (if_pos (State.gateBarred_iff.mpr h)),
        fun h => (last leaves).trans (if_neg (mt State.gateBarred_iff.mp h))⟩⟩
  case counters =>
    intro t pass
    have verdict : s.verdict (.counter t) k = s.counterVerdict t := usual normal pass
    rw [verdict]
    exact ⟨State.counterVerdict_armed, State.counterVerdict_unarmed⟩
  case held =>
    intro l held
    refine ⟨fun pass => ?out, fun pass => ?in_⟩
    case out =>
      rw [inEvac evac pass]
      exact ⟨State.evacVerdict_lane_shut (.inl rfl), fun held hold => (State.evacVerdict_laneOut held).trans (if_pos hold),
        fun held active => (State.evacVerdict_laneOut held).trans (if_neg (by simp [active]))⟩
    case in_ =>
      rw [inEvac evac pass]
      exact ⟨State.evacVerdict_lane_shut (.inr rfl), State.evacVerdict_laneIn⟩

end Sys2Proof.Presentations
end

section
/-! A presentation, from last-seen to its outcome (R17, R27 to R33, R42 to R44, R92, R104). -/

namespace Sys2Proof.Machine

variable {s : State} {k : Known} {card : CardNo} {r : ReaderNo} {arrival : ShipTime} {queried : Bool} {v : Verdict} {c : Chan}
  {l : LaneNo} {dir : Dir}

/-! ## The known entry of a card changed, its folio kept -/

theorem State.lookup_of_known (known : s.known card = some k) : ∃ i d, lookup s.cards card = some (i, ⟨d, .known k⟩) := by
  unfold State.known at known
  split at known
  · next i d k' found =>
    obtain rfl := Option.some.inj known
    exact ⟨i, d, found⟩
  · cases known

theorem State.changeKnown_eq {f : Known → Known} (known : s.known card = some k) (folio : (f k).folio = k.folio) :
    ∃ cs, s.changeKnown card f = { s with
      cards := cs
      tally := s.tally.move (some (k.holder.category, k.presence)) (some ((f k).holder.category, (f k).presence)) } := by
  obtain ⟨i, d, found⟩ := State.lookup_of_known known
  refine ⟨twrite i (some ⟨card, .known (f k)⟩) s.cards, ?_⟩
  rw [State.changeKnown, found]
  simp [State.setEntry, tget_of_lookup found, Entry.tallied, Entry.folio, folio, moveRef]

theorem State.changeKnown_none {f : Known → Known} (unknown : s.known card = none) : s.changeKnown card f = s := by
  unfold State.changeKnown
  split
  next i d k found => exact absurd unknown (by simp [State.known_of_lookup found])
  · rfl

theorem Tally.move_self {t : Tally} {x : Option (Category × Presence)} : t.move x x = t := if_pos rfl

/-! ## Last-seen (R17) -/

theorem Holder.presented_category (h : Holder) : h.presented.category = h.category := by cases h <;> rfl

theorem State.seen_eq : ∃ cs, s.seen card = { s with cards := cs } := by
  cases known : s.known card with
  | none => exact ⟨s.cards, State.changeKnown_none known⟩
  | some k =>
    obtain ⟨cs, eq⟩ := State.changeKnown_eq (f := fun k => { k with holder := k.holder.presented, lastSeen := s.clock.time }) known rfl
    exact ⟨cs, eq.trans (by simp [Holder.presented_category])⟩

theorem State.seen_unknown (unknown : s.known card = none) : s.seen card = s := State.changeKnown_none unknown

/-! ## The end of a decision (R42 to R44) -/

theorem State.finish_eq : s.finish r card arrival queried v = { s with
    link := s.link.notify (.tap r card v (s.readers.get r).role arrival (!s.clock.valid) queried)
    readers := vset s.readers r
      { s.readers.get r with
        slot := if (s.readers.get r).enrol = .active then some v.pattern else (s.readers.get r).slot
        marker := none
        memory := if s.setup.timing.repeatWindow = 0 then none else some ⟨card, s.setup.timing.repeatWindow * 1000⟩ } } :=
  congrArg (fun rd : Reader => { s with
      link := s.link.notify (.tap r card v (s.readers.get r).role arrival (!s.clock.valid) queried)
      readers := vset s.readers r rd })
    (Reader.indicate_closeDecision v.pattern s.setup.timing.repeatWindow (s.readers.get r))

/-- An outcome without a claim and without an alarm. -/
theorem State.conclude_plain (unrevoked : v ≠ .deniedRevoked) (ungranted : v ≠ .granted) (unaccepted : v ≠ .accepted)
    (untaken : v ≠ .chargeTaken) : s.conclude r card arrival queried k v = s.finish r card arrival queried v := by
  unfold State.conclude
  split
  · exact absurd rfl ungranted
  · exact absurd rfl unaccepted
  · exact absurd rfl unaccepted
  · exact absurd rfl untaken
  · exact absurd rfl unrevoked
  · rfl

theorem State.conclude_revoked : s.conclude r card arrival queried k .deniedRevoked =
    (s.raise (.revokedTap card r)).finish r card arrival queried .deniedRevoked := by
  unfold State.conclude
  cases (s.readers.get r).role <;> rfl

theorem State.conclude_granted (role : (s.readers.get r).role = .door c) : s.conclude r card arrival queried k .granted =
    (s.finish r card arrival queried .granted).onZone (·.openClaim s.setup c) := by
  unfold State.conclude
  rw [role]

theorem State.conclude_accepted
    (way : (s.readers.get r).role = .laneOut l ∧ dir = .out ∨ (s.readers.get r).role = .laneIn l ∧ dir = .in) :
    s.conclude r card arrival queried k .accepted = (s.finish r card arrival queried .accepted).acceptAt l dir card arrival := by
  unfold State.conclude
  rcases way with ⟨role, rfl⟩ | ⟨role, rfl⟩
  · rw [role]
  · rw [role]

/-! ## The acceptance of a lane (R92, R104) -/

theorem State.acceptLane_eq (known : s.known card = some k) :
    ∃ cs, s.acceptLane l card dir arrival = { s with
        cards := cs
        zone := (s.zone.setLane l (fun x => { x with state := .released ⟨card, dir, arrival, none⟩ })).openClaim s.setup
          (s.setup.lanes.get l).gate } ∧
      (s.acceptLane l card dir arrival).known card = some { k with engaged := some (.movement l) } := by
  let z := s.zone.setLane l (fun x => { x with state := .released ⟨card, dir, arrival, none⟩ })
  let p : State := { s with zone := z }
  have waits : p.known card = some k := known
  obtain ⟨cs, eq⟩ := State.changeKnown_eq (f := fun k => { k with engaged := some (.movement l) }) waits rfl
  rw [Tally.move_self] at eq
  refine ⟨cs, ?_, ?_⟩
  · exact congrArg (fun t : State => t.onZone (·.openClaim t.setup (t.setup.lanes.get l).gate)) eq
  · exact (State.known_congr rfl card).trans (State.known_changeKnown_self waits)

/-- A commit at the tap. -/
theorem State.commitCard_eq {evac : Bool} (known : s.known card = some k) (unengaged : k.engaged = none) :
    ∃ cs, s.commitCard l card dir arrival evac = { s with
        cards := cs
        tally := s.tally.move (some (k.holder.category, k.presence)) (some (k.holder.category, dir.arrival))
        zone := s.zone.setLane l (·.countCommit dir)
        link := s.link.notify (.movement l card k.holder.category dir arrival s.clock.time (k.presence == dir.departure) evac
          (!s.clock.valid)) } ∧
      (s.commitCard l card dir arrival evac).known card = some { k with presence := dir.arrival } := by
  let f : Known → Known := fun k =>
    { k with presence := dir.arrival, engaged := if k.engaged = some (.movement l) then none else k.engaged }
  have moved : f k = { k with presence := dir.arrival } := by simp [f, unengaged]
  obtain ⟨cs, eq⟩ := State.changeKnown_eq (f := f) known rfl
  rw [moved] at eq
  refine ⟨cs, ?_, ?_⟩
  · unfold State.commitCard
    rw [known]
    exact congrArg (fun t : State => (t.onZone (·.setLane l (·.countCommit dir))).notify (.movement l card k.holder.category dir
      arrival t.clock.time (k.presence == dir.departure) evac (!t.clock.valid))) eq
  · exact (State.known_congr rfl card).trans ((State.known_changeKnown_self (f := f) known).trans (congrArg some moved))

/-! ## A presentation, discarded or decided -/

/-- What last-seen leaves unchanged. -/
theorem State.seen_frame (card : CardNo) (s : State) :
    (s.seen card).readers = s.readers ∧ (s.seen card).clock = s.clock ∧ (s.seen card).setup = s.setup ∧
      (s.seen card).zone = s.zone ∧ (s.seen card).mode = s.mode ∧ (s.seen card).tally = s.tally ∧ (s.seen card).evac = s.evac := by
  obtain ⟨cs, eq⟩ := State.seen_eq (s := s) (card := card)
  rw [eq]
  exact ⟨rfl, rfl, rfl, rfl, rfl, rfl, rfl⟩

theorem Reader.discards_iff {rd : Reader} : rd.discards card = true ↔ rd.marker ≠ none ∨ ∃ m, rd.memory = some m ∧ m.card = card := by
  unfold Reader.discards
  rw [Bool.or_eq_true, Option.isSome_iff_ne_none, Option.any_eq_true]
  simp

theorem State.present_discarded (discards : (s.readers.get r).discards card = true) :
    s.present r card = (s.seen card).setReader r (fun rd => { rd with filtered := satInc rd.filtered }) := by
  obtain ⟨readers, -⟩ := State.seen_frame card s
  exact if_pos (by rw [readers]; exact discards)

section
variable (taken : ¬(s.readers.get r).discards card = true)
include taken

theorem State.present_taken : s.present r card = (s.seen card).decidePresentation r card s.clock.time := by
  obtain ⟨readers, clock, -⟩ := State.seen_frame card s
  exact (if_neg (by rw [readers]; exact taken)).trans (by rw [clock])

theorem State.present_maintenance (mode : s.mode = .maintenance) :
    s.present r card = (s.seen card).finish r card s.clock.time false .deniedMaintenance := by
  obtain ⟨-, -, -, -, mode', -⟩ := State.seen_frame card s
  exact (State.present_taken taken).trans (if_pos (State.inMaintenance_of_maintenance (mode'.trans mode)))

variable (mode : s.mode = .normal)
include mode

theorem State.present_normal : s.present r card =
    match lookup (s.seen card).cards card with
    | none => (s.seen card).decideUnknown r card s.clock.time
    | some (_, ⟨_, .pending _⟩) => (s.seen card).finish r card s.clock.time false .deniedBusy
    | some (_, ⟨_, .known k⟩) => (s.seen card).decideKnown r card s.clock.time false k := by
  obtain ⟨-, -, -, -, mode', -⟩ := State.seen_frame card s
  rw [State.present_taken taken, State.decidePresentation, if_neg (by simp [State.inMaintenance_of_normal (mode'.trans mode)])] <;> rfl

theorem State.present_unknown (found : lookup s.cards card = none) : s.present r card = s.decideUnknown r card s.clock.time := by
  rw [State.present_normal taken mode, State.seen_unknown (by rw [State.known, found]), found] <;> rfl

theorem State.present_pending {i : Nat} {d : CardNo} {h : Held} (found : lookup s.cards card = some (i, ⟨d, .pending h⟩)) :
    s.present r card = s.finish r card s.clock.time false .deniedBusy := by
  rw [State.present_normal taken mode, State.seen_unknown (by rw [State.known, found]), found] <;> rfl

theorem State.present_known (known : (s.seen card).known card = some k) : s.present r card =
    (s.seen card).conclude r card s.clock.time false k ((s.seen card).verdict (s.readers.get r).role k) := by
  obtain ⟨i, d, found⟩ := State.lookup_of_known known
  obtain ⟨readers, -⟩ := State.seen_frame card s
  rw [State.present_normal taken mode, found]
  exact congrArg (fun rs => (s.seen card).conclude r card s.clock.time false k
    ((s.seen card).verdict (rs.get r).role k)) readers

end

/-- A card with no entry, that cannot be queried (R32). -/
theorem State.decideUnknown_denied (closed : s.authority = .standalone ∨ cardValid card = false ∨ freeWay s.cards card = none) :
    s.decideUnknown r card arrival = s.finish r card arrival false .deniedUnknown := by
  unfold State.decideUnknown
  split
  next queried =>
    split
    next i free =>
      rcases closed with h | h | h <;> simp_all [Authority.isOnline]
    · rfl
  · rfl

/-- A pending entry stands in no count and names no folio (R2, R20). -/
theorem State.setEntry_vacant {i : Nat} {h : Held} (vacant : tget s.cards i = none) :
    s.setEntry i (some ⟨card, .pending h⟩) = { s with cards := tput i ⟨card, .pending h⟩ s.cards } := by
  simp [State.setEntry, vacant, Entry.tallied, Entry.folio, twrite, moveRef, Tally.move]

theorem State.decideUnknown_queried {left i : Nat} (online : s.authority = .online left)
    (valid : cardValid card = true) (free : freeWay s.cards card = some i) :
    s.decideUnknown r card arrival =
      (({ s with cards := tput i ⟨card, .pending ⟨r, arrival, s.setup.timing.queryHold⟩⟩ s.cards }.waitDecision
        r card arrival .heldQuery).notify (.cardQuery card r)) := by
  obtain ⟨-, vacant⟩ := freeWay_spec free
  rw [State.decideUnknown, if_pos (by simp [online, valid, Authority.isOnline]), free]
  exact congrArg (fun t : State => (t.waitDecision r card arrival .heldQuery).notify (.cardQuery card r)) (State.setEntry_vacant vacant)

end Sys2Proof.Machine

namespace Sys2Proof.Presentations
open Sys2Proof.Machine

/-- Settles O54: last-seen, then the discard tests, then the outcome with what it claims. -/
theorem aPresentationIsDiscardedOrDecided : Obligations.APresentationIsDiscardedOrDecided := by
  refine ⟨fun r card v arrival queried s => State.finish_eq.trans ?finish, ?present⟩
  case finish =>
    cases v <;> rfl
  case present =>
    intro r card s rd now u discarded
    obtain ⟨readers, clock, setup, zone, -, tally, evac⟩ := State.seen_frame card s
    have discards : rd.discards card = true ↔ discarded := Reader.discards_iff
    refine ⟨fun k known => State.known_changeKnown_self known, State.seen_unknown, fun h => ?discarded, fun h => ?decided⟩
    case discarded =>
      rw [State.present_discarded (discards.mpr h), State.setReader, vmod, readers]
    case decided =>
      have taken := mt discards.mp h
      refine ⟨State.present_maintenance taken, fun mode => ⟨fun unknown closed => ?_, fun left i unknown online valid free => ?_,
        fun i d h found => State.present_pending taken mode found, fun k known => ?known⟩⟩
      · exact (State.present_unknown taken mode unknown).trans (State.decideUnknown_denied closed)
      · exact (State.present_unknown taken mode unknown).trans (State.decideUnknown_queried online valid free)
      case known =>
        intro v done
        have concluded : s.present r card = u.conclude r card now false k v := State.present_known taken mode known
        rw [concluded]
        have unengaged (is : v = .accepted) : k.engaged = none := State.verdict_unengaged (is.trans_ne (by decide))
        clear_value v
        refine ⟨fun is => ?alarm, State.conclude_plain, fun c role is => ?opens, fun l dir way is => ?lane⟩
        case alarm =>
          subst is
          exact State.conclude_revoked
        case opens =>
          subst is
          refine (State.conclude_granted (by rw [readers]; exact role)).trans ?_
          exact congrArg₂ (fun cfg z => { done with zone := Zone.openClaim cfg c z }) setup zone
        case lane =>
          replace unengaged := unengaged is
          subst is
          intro x lanes
          rw [State.conclude_accepted (by rw [readers]; exact way)]
          have done_known : done.known card = some k := (State.known_congr rfl card).trans known
          have done_setup : done.setup = s.setup := setup
          have done_zone : done.zone = s.zone := zone
          have done_tally : done.tally = s.tally := tally
          have done_clock : done.clock = s.clock := clock
          by_cases evacuation : s.evac.state = .evacuation
          · obtain ⟨cs, eq, moved⟩ := State.commitCard_eq (l := l) (dir := dir) (arrival := done.clock.time) (evac := true) done_known unengaged
            have commits : done.acceptAt l dir card now = done.commitCard l card dir done.clock.time true :=
              if_pos (State.evacuating_iff.mpr ((congrArg Evac.state evac).trans evacuation))
            rw [commits]
            refine ⟨_, rfl, ?_, fun normal => absurd evacuation normal, fun _ => ⟨?_, ?_, ?_, ?_⟩⟩
            · rw [eq]
            · rw [moved]
              cases dir <;> rfl
            · rw [eq]
              dsimp only
              rw [done_tally]
              cases dir <;> rfl
            · rw [eq]
              dsimp only
              rw [done_zone]
              cases dir <;> rfl
            · rw [eq]
              dsimp only
              rw [done_clock]
              cases dir <;> cases k.presence <;> rfl
          · obtain ⟨cs, eq, engaged⟩ := State.acceptLane_eq (l := l) (dir := dir) (arrival := now) done_known
            have waits : done.acceptAt l dir card now = done.acceptLane l card dir now :=
              if_neg (mt State.evacuating_iff.mp (fun is => evacuation ((congrArg Evac.state evac).symm.trans is)))
            rw [waits]
            refine ⟨_, rfl, ?_, fun _ => ⟨engaged, ?_, ?_, ?_⟩, fun is => absurd is evacuation⟩
            · rw [eq]
            · rw [eq]
              exact tally
            · rw [eq]
            · rw [eq]
              dsimp only
              rw [done_setup, done_zone]
              rfl

end Sys2Proof.Presentations
end

section
/-! The waits that run out: a held query, an armed charge, a referral (R13, R29, R119, R128). -/

namespace Sys2Proof.Machine

variable {s : State} {card : CardNo} {t : TillNo} {c : Charge} {p : Payer} {left : Nat}

/-- The held presentation of a query that is denied: a pending entry stands in no count and names no folio. -/
theorem State.denyQuery_eq {i : Nat} {d : CardNo} {held h : Held} (pending : tget s.cards i = some ⟨d, .pending held⟩) :
    s.denyQuery i card h = { s with cards := tdel i s.cards }.finish h.reader card h.arrival true .deniedUnknown := by
  have freed : s.setEntry i none = { s with cards := tdel i s.cards } := by
    simp [State.setEntry, pending, Entry.tallied, Entry.folio, twrite, moveRef, Tally.move]
  rw [State.denyQuery, freed]

theorem execQueryHoldExpiry_pending {i : Nat} {d : CardNo} {h : Held} (found : lookup s.cards card = some (i, ⟨d, .pending h⟩)) :
    execQueryHoldExpiry card s = .next
      ({ s with cards := tdel i s.cards }.finish h.reader card h.arrival true .deniedUnknown).close := by
  rw [execQueryHoldExpiry, found, ← State.denyQuery_eq (tget_of_lookup found)]

theorem execQueryHoldExpiry_none (unqueried : ∀ i d h, lookup s.cards card ≠ some (i, ⟨d, .pending h⟩)) :
    execQueryHoldExpiry card s = .next s := by
  unfold execQueryHoldExpiry
  split
  next i d h found => exact absurd found (unqueried i d h)
  · rfl

theorem execArmTimerExpiry_armed (armed : (s.tills.get t).state = .armed c left) :
    execArmTimerExpiry t s = .next (s.endCharge t c .expired none none none).close := by
  rw [execArmTimerExpiry, State.dropCharge, armed]

theorem execArmTimerExpiry_unarmed (unarmed : ∀ c left, (s.tills.get t).state ≠ .armed c left) :
    execArmTimerExpiry t s = .next s := by
  unfold execArmTimerExpiry
  split
  next c left armed => exact absurd armed (unarmed c left)
  · rfl

section
variable (refers : (s.tills.get t).state = .authorising c p left)
include refers

theorem execAnswerTimerExpiry_refers : execAnswerTimerExpiry t s = .next (s.standIn t).close := by
  rw [execAnswerTimerExpiry, refers]

theorem State.standIn_refused (fails : s.recheck p = false) :
    s.standIn t = s.endCharge t c .declinedStatus (some (p.card, p.reader)) (some p.slot) none := by
  rw [State.standIn, refers]
  exact if_neg (by simp [fails])

theorem State.standIn_folio {x : Folio} (passes : s.recheck p = true) (folio : tget s.folios p.slot = some x) :
    s.standIn t = if c.amount ≤ x.allowance - x.spent then s.approve t c p.card p.reader p.slot .standIn
      else s.endCharge t c .declinedLimit (some (p.card, p.reader)) (some p.slot) none := by
  rw [State.standIn, refers]
  dsimp only
  rw [if_pos passes, folio] <;> rfl

end

theorem execAnswerTimerExpiry_idle (idle : ∀ c p left, (s.tills.get t).state ≠ .authorising c p left) :
    execAnswerTimerExpiry t s = .next s := by
  unfold execAnswerTimerExpiry
  split
  next c p left refers => exact absurd refers (idle c p left)
  · rfl

end Sys2Proof.Machine

namespace Sys2Proof.Clock
open Sys2Proof.Machine

/-- Settles O55: each wait that runs, and none where none runs. -/
theorem waitsRunOut : Obligations.WaitsRunOut := by
  intro s
  refine ⟨fun card => ⟨fun i d h => execQueryHoldExpiry_pending, execQueryHoldExpiry_none⟩, fun r => rfl,
    fun t => ⟨fun c left => execArmTimerExpiry_armed, execArmTimerExpiry_unarmed, fun c p left refers => ?referral, execAnswerTimerExpiry_idle⟩⟩
  intro ends
  have ended {u : State} (e : s.standIn t = u) : exec (.answerTimerExpiry t) s = .next u.close := by
    subst e
    exact execAnswerTimerExpiry_refers refers
  exact ⟨fun fails => ended (State.standIn_refused refers fails),
    fun x passes folio less => ended ((State.standIn_folio refers passes folio).trans (if_neg (Nat.not_le.mpr less))),
    fun x passes folio within => ended ((State.standIn_folio refers passes folio).trans (if_pos within))⟩

end Sys2Proof.Clock
end

section
/-! The resolution of the waits on the host, at the entry to STANDALONE (R14, R128, R144, R146). -/

namespace Sys2Proof.Machine

variable {s : State} {card : CardNo} {t : TillNo} {c : Charge} {i : Nat} {h : Held}

/-! ## The order of the waits -/

theorem mem_pendingByReader_iff {cards : List (Nat × Entry)} :
    (i, card, h) ∈ pendingByReader cards ↔ (i, (⟨card, .pending h⟩ : Entry)) ∈ cards := by
  have filed : (i, card, h) ∈ pendingByReader cards ↔ (i, card, h) ∈ pendingEntries cards :=
    ⟨fun x => (List.mem_filter.mp (List.mem_flatMap.mp x).choose_spec.2).1, mem_pendingByReader⟩
  rw [filed, mem_pendingEntries_list]

theorem pendingByReader_ascends (cards : List (Nat × Entry)) :
    (pendingByReader cards).Pairwise (fun x y => x.2.2.reader ≤ y.2.2.reader) := by
  unfold pendingByReader
  rw [List.pairwise_flatMap]
  have reader {r : ReaderNo} {x : Nat × CardNo × Held} (hx : x ∈ (pendingEntries cards).filter (fun x => x.2.2.reader = r)) :
      x.2.2.reader = r := by simpa using (List.mem_filter.mp hx).2
  refine ⟨fun r _ => List.pairwise_of_forall_mem_list fun x hx y hy => ((reader hx).trans (reader hy).symm).le,
    (List.pairwise_lt_finRange 48).imp fun below x hx y hy => ?_⟩
  rw [reader hx, reader hy]
  exact below.le

theorem State.mem_authorisingTills : t ∈ s.authorisingTills ↔ (s.tills.get t).state.isAuthorising = true := by
  simp [State.authorisingTills, allTills]

theorem State.authorisingTills_ascend (s : State) : s.authorisingTills.Pairwise (· < ·) :=
  (List.pairwise_lt_finRange 8).filter _

/-- A position stands once among the pending entries. -/
theorem pendingByReader_positions {cards : List (Nat × Entry)} (rising : Rising cards) :
    (pendingByReader cards).Pairwise (fun x y => x.1 ≠ y.1) := by
  have filed (r : ReaderNo) : ((pendingEntries cards).filter (fun x => x.2.2.reader = r)).Pairwise (fun x y => x.1 < y.1) := by
    refine List.Pairwise.filter _ (List.pairwise_filterMap.mpr (rising.imp fun {x y} below x' hx y' hy => ?_))
    obtain ⟨i, d, k | h⟩ := x
    · cases hx
    obtain ⟨j, d', k | h'⟩ := y
    · cases hy
    cases hx
    cases hy
    exact below
  refine List.pairwise_flatMap.mpr ⟨fun r _ => (filed r).imp ne_of_lt, (List.pairwise_lt_finRange 48).imp fun {r r'} below x hx y hy same => ?_⟩
  obtain ⟨hx, atR⟩ := List.mem_filter.mp hx
  obtain ⟨hy, atR'⟩ := List.mem_filter.mp hy
  have found := (mem_pendingEntries rising).mp hx
  rw [same] at found
  have sole := found.symm.trans ((mem_pendingEntries rising).mp hy)
  simp only [Option.some.injEq, Entry.mk.injEq, EntryBody.pending.injEq] at sole
  obtain ⟨-, held⟩ := sole
  simp only [decide_eq_true_eq] at atR atR'
  exact absurd (atR.symm.trans ((congrArg Held.reader held).trans atR')) below.ne

/-! ## The queries denied -/

/-- A pending entry is removed and its presentation denied. -/
def State.denied (s : State) (x : Nat × CardNo × Held) : State :=
  { s with cards := tdel x.1 s.cards }.finish x.2.2.reader x.2.1 x.2.2.arrival true .deniedUnknown

theorem State.denyQueries_eq (rising : Rising s.cards) (qs : List (Nat × CardNo × Held)) (apart : qs.Pairwise (fun x y => x.1 ≠ y.1))
    (pending : ∀ x ∈ qs, tget s.cards x.1 = some ⟨x.2.1, .pending x.2.2⟩) :
    qs.foldl (fun s x => s.denyQuery x.1 x.2.1 x.2.2) s = qs.foldl State.denied s := by
  induction qs generalizing s with
  | nil => rfl
  | cons q qs ih =>
    obtain ⟨first, rest⟩ := List.pairwise_cons.mp apart
    rw [List.foldl_cons, List.foldl_cons, State.denyQuery_eq (pending q (by simp))]
    refine ih (s := s.denied q) (rising.tdel _) rest fun x hx => ?_
    exact (tget_tdel_other _ _ _ (first x hx).symm).trans (pending x (List.mem_cons_of_mem _ hx))

/-! ## The authority stays -/

theorem State.endCharge_authority (o : ChargeOutcome) (taken : Option (CardNo × ReaderNo)) (slot : Option Nat) (ap : Option Approval) :
    (s.endCharge t c o taken slot ap).authority = s.authority := by
  cases taken with
  | none => rfl
  | some taken => simp [State.endCharge, State.disengage, State.closeDecision]

theorem State.approve_authority {r : ReaderNo} {slot : Nat} {tier : Tier} : (s.approve t c card r slot tier).authority = s.authority := by
  have charged (s : State) (amount : Nat) : (s.chargeFolio tier slot amount).authority = s.authority := by cases tier <;> rfl
  unfold State.approve
  split
  · exact State.endCharge_authority ..
  · dsimp only
    split
    · exact (State.endCharge_authority ..).trans (charged _ _)
    · exact (State.endCharge_authority ..).trans (charged _ _)

theorem State.standIn_authority : (s.standIn t).authority = s.authority := by
  unfold State.standIn
  split
  · split
    · split
      · split
        · exact State.approve_authority
        · exact State.endCharge_authority ..
      · exact State.endCharge_authority ..
    · exact State.endCharge_authority ..
  · rfl

theorem State.resolveWaits_authority : s.resolveWaits.authority = s.authority := by
  have denies (qs : List (Nat × CardNo × Held)) (s : State) :
      (qs.foldl (fun s x => s.denyQuery x.1 x.2.1 x.2.2) s).authority = s.authority := by
    induction qs generalizing s with
    | nil => rfl
    | cons q qs ih => exact (ih _).trans rfl
  have stands (ts : List TillNo) (s : State) : (ts.foldl (fun s t => s.standIn t) s).authority = s.authority := by
    induction ts generalizing s with
    | nil => rfl
    | cons t ts ih => exact (ih _).trans State.standIn_authority
  exact (stands _ _).trans (denies _ _)

end Sys2Proof.Machine
end

section
/-! The minute tick: the callers aged, the overstays raised, the deadline counted down (R18, R19, R82, R108, R150). -/

namespace Sys2Proof.Machine

variable {s t : State} {k : Known} {i j : Nat} {e : Entry} {clock : Clock} {limit : Nat} {a : Alarm}

/-! ## A sweep of the card table by position -/

/-- The operation writes the entry at its position as `g` says and keeps `I`. -/
def Sweeps (I : State → Prop) (g : Entry → Option Entry) (f : Nat → State → State) : Prop :=
  ∀ s i, I s → I (f i s) ∧ ∀ j, tget (f i s).cards j = if j = i then (tget s.cards i).bind g else tget s.cards j

theorem Sweeps.foldl {I : State → Prop} {g : Entry → Option Entry} {f : Nat → State → State} (sweeps : Sweeps I g f) (ps : List Nat)
    (apart : ps.Nodup) (h : I s) : I (ps.foldl (fun s i => f i s) s) ∧
      ∀ j, tget (ps.foldl (fun s i => f i s) s).cards j = if j ∈ ps then (tget s.cards j).bind g else tget s.cards j := by
  induction ps generalizing s with
  | nil => exact ⟨h, fun j => by simp⟩
  | cons i ps ih =>
    obtain ⟨new, rest⟩ := List.nodup_cons.mp apart
    obtain ⟨kept, here⟩ := sweeps s i h
    obtain ⟨end_, there⟩ := ih rest kept
    refine ⟨end_, fun j => ?_⟩
    rw [List.foldl_cons, there, here]
    by_cases same : j = i
    · subst same
      simp [new]
    · simp [same]

/-- The card table is canonical and the tick's settings stand. -/
def State.Ticks (limit : Nat) (clock : Clock) (s : State) : Prop :=
  Rising s.cards ∧ s.setup.timing.idleLimit = limit ∧ s.clock = clock

/-- What a write of a position does to the table. -/
theorem State.Ticks.setEntry (h : s.Ticks limit clock) (i : Nat) (x : Option Entry) :
    (s.setEntry i x).Ticks limit clock ∧ ∀ j, tget (s.setEntry i x).cards j = if j = i then x else tget s.cards j := by
  obtain ⟨rising, setup, time⟩ := h
  exact ⟨⟨rising.twrite i x, setup, time⟩, fun j => State.setEntry_tget i j x s rising⟩

/-- A position that keeps its entry. -/
theorem tget_kept {x : Option Entry} (same : x = tget s.cards i) (j : Nat) : tget s.cards j = if j = i then x else tget s.cards j := by
  split
  next h => rw [same, h]
  · rfl

/-! ## The aging (R18) -/

/-- The entry after the aging of a tick. -/
def Entry.aged (limit : Nat) (clock : Clock) (e : Entry) : Option Entry :=
  match e.body with
  | .known k => if k.ages then (k.age limit clock).map (fun k => ⟨e.card, .known k⟩) else some e
  | .pending _ => some e

theorem agePosition_sweeps (limit : Nat) (clock : Clock) :
    Sweeps (State.Ticks limit clock) (Entry.aged limit clock) State.agePosition := by
  intro s i h
  have kept (same : (tget s.cards i).bind (Entry.aged limit clock) = tget s.cards i) : s.Ticks limit clock ∧
      ∀ j, tget s.cards j = if j = i then (tget s.cards i).bind (Entry.aged limit clock) else tget s.cards j :=
    ⟨h, tget_kept same⟩
  unfold State.agePosition
  split
  next card k found =>
    split
    next ages =>
      have aged : (tget s.cards i).bind (Entry.aged limit clock) =
          (k.age s.setup.timing.idleLimit s.clock).map (fun k => ⟨card, .known k⟩) := by
        rw [found, h.2.1, h.2.2]
        exact if_pos ages
      rw [aged]
      exact h.setEntry i _
    next stays =>
      refine kept ?_
      rw [found]
      exact if_neg stays
  next unknown =>
    refine kept ?_
    cases found : tget s.cards i with
    | none => rfl
    | some e =>
      obtain ⟨card, k | held⟩ := e
      · exact absurd found (unknown card k)
      · rfl

/-! ## The overstays (R19) -/

theorem Known.overdue_iff : k.overdue clock = true ↔ clock.valid = true ∧ ∃ v, k.validUntil = some v ∧ v < clock.time := by
  unfold Known.overdue
  cases k.validUntil <;> simp

theorem Known.overstays_iff : k.overstays clock = true ↔
    (∃ idle, k.holder = .caller idle false) ∧ k.presence = .aboard ∧ k.overdue clock = true := by
  unfold Known.overstays
  cases k.holder <;> simp [and_assoc]

/-- The entry after the overstay examination of a tick. -/
def Entry.reported (clock : Clock) (e : Entry) : Entry :=
  match e.body with
  | .known k => if k.overstays clock then ⟨e.card, .known { k with holder := k.holder.report }⟩ else e
  | .pending _ => e

/-- The card of an overdue caller aboard that is not yet reported. -/
def Entry.overstay (clock : Clock) (e : Entry) : Option CardNo :=
  match e.body with
  | .known k => if k.overstays clock then some e.card else none
  | .pending _ => none

theorem State.Ticks.raise (h : s.Ticks limit clock) (a : Alarm) : (s.raise a).Ticks limit clock := by
  unfold State.raise
  split
  · exact h
  · exact h

/-- One position at the overstay examination, by its entry. -/
theorem State.overstayPosition_eq (h : s.Ticks limit clock) (i : Nat) :
    s.overstayPosition i = match (tget s.cards i).bind (Entry.overstay clock) with
      | some card => (s.setEntry i ((tget s.cards i).map (Entry.reported clock))).raise (.overstay card)
      | none => s := by
  obtain ⟨-, -, time⟩ := h
  unfold State.overstayPosition
  cases found : tget s.cards i with
  | none => rfl
  | some e =>
    obtain ⟨card, k | held⟩ := e
    · by_cases overstays : k.overstays s.clock = true
      · simp [Entry.overstay, Entry.reported, overstays, ← time]
      · simp [Entry.overstay, overstays, ← time]
    · rfl

theorem Entry.reported_same (quiet : e.overstay clock = none) : e.reported clock = e := by
  obtain ⟨card, k | held⟩ := e
  · exact if_neg (by simpa [Entry.overstay] using quiet)
  · rfl

theorem overstayPosition_sweeps (limit : Nat) (clock : Clock) :
    Sweeps (State.Ticks limit clock) (fun e => some (e.reported clock)) State.overstayPosition := by
  intro s i h
  rw [State.overstayPosition_eq h]
  have mapped : (tget s.cards i).bind (fun e => some (e.reported clock)) = (tget s.cards i).map (Entry.reported clock) :=
    by cases tget s.cards i <;> rfl
  rw [mapped]
  split
  next card _ =>
    rw [State.raise_cards]
    obtain ⟨ticks, there⟩ := h.setEntry i ((tget s.cards i).map (Entry.reported clock))
    exact ⟨ticks.raise _, there⟩
  next quiet =>
    refine ⟨h, tget_kept ?_⟩
    cases found : tget s.cards i with
    | none => rfl
    | some e => exact congrArg some (Entry.reported_same (by simpa [found] using quiet))

/-! ## The alarms of the overstays -/

/-- The two states raise alarms alike. -/
def State.SoundsAs (s t : State) : Prop :=
  s.alarms = t.alarms ∧ s.link = t.link ∧ s.setup = t.setup ∧ s.clock.time = t.clock.time ∧ s.clock.valid = t.clock.valid

theorem State.SoundsAs.raise (h : s.SoundsAs t) (a : Alarm) : (s.raise a).SoundsAs (t.raise a) := by
  obtain ⟨alarms, link, setup, time, valid⟩ := h
  have on : s.setup.alarmEnabled a.kind = t.setup.alarmEnabled a.kind := by rw [setup]
  unfold State.raise
  rw [on]
  split
  · refine ⟨?_, ?_, setup, time, valid⟩
    · dsimp only [State.notify]
      rw [alarms, time]
    · dsimp only [State.notify]
      rw [alarms, time, link, valid]
  · exact ⟨alarms, link, setup, time, valid⟩

theorem overstays_sound (ps : List Nat) (apart : ps.Nodup) (h : s.Ticks limit clock) (sounds : s.SoundsAs t) :
    (ps.foldl (fun s i => s.overstayPosition i) s).SoundsAs
      ((ps.filterMap (fun i => (tget s.cards i).bind (Entry.overstay clock))).foldl (fun s card => s.raise (.overstay card)) t) := by
  induction ps generalizing s t with
  | nil => exact sounds
  | cons i ps ih =>
    obtain ⟨new, rest⟩ := List.nodup_cons.mp apart
    obtain ⟨ticks, there⟩ := overstayPosition_sweeps limit clock s i h
    have others : ps.filterMap (fun j => (tget (s.overstayPosition i).cards j).bind (Entry.overstay clock)) =
        ps.filterMap (fun i => (tget s.cards i).bind (Entry.overstay clock)) :=
      List.filterMap_congr fun j hj => by rw [there j, if_neg (fun same : j = i => new (same ▸ hj))]
    have first : (s.overstayPosition i).SoundsAs (((tget s.cards i).bind (Entry.overstay clock)).elim t (fun card => t.raise (.overstay card))) := by
      rw [State.overstayPosition_eq h]
      cases (tget s.cards i).bind (Entry.overstay clock) with
      | none => exact sounds
      | some card => exact State.SoundsAs.raise (s := s.setEntry i _) sounds _
    have last := ih rest ticks first
    rw [others] at last
    rw [List.foldl_cons, List.filterMap_cons]
    cases found : (tget s.cards i).bind (Entry.overstay clock) with
    | none =>
      rw [found] at last
      exact last
    | some card =>
      rw [found] at last
      exact last

end Sys2Proof.Machine
end

section
/-! The events of the clock: the lease, ship time, the minute tick and the deadline (R18, R19, R108, R144 to R147, R150). -/

namespace Sys2Proof.Machine

variable {s t u : State} {k : Known} {i j : Nat} {e : Entry} {clock : Clock} {limit : Nat} {a : Alarm}

/-! ## What the tick leaves unchanged at the card table -/

/-- Nothing but the card table, the tally, the folio references, the alarms and the notices differs. -/
def State.Tabled (t s : State) : Prop :=
  t = { s with cards := t.cards, tally := t.tally, folios := t.folios, alarms := t.alarms, link := t.link }

theorem State.Tabled.refl (s : State) : s.Tabled s := rfl

theorem State.Tabled.trans (h₁ : u.Tabled t) (h₂ : t.Tabled s) : u.Tabled s := by
  unfold State.Tabled at *
  rw [h₁, h₂]

theorem State.setEntry_tabled (i : Nat) (x : Option Entry) (s : State) : (s.setEntry i x).Tabled s := rfl

theorem State.raise_tabled (a : Alarm) (s : State) : (s.raise a).Tabled s := by
  unfold State.raise
  split
  · exact rfl
  · exact rfl

theorem State.agePosition_tabled (i : Nat) (s : State) : (s.agePosition i).Tabled s := by
  unfold State.agePosition
  split
  · split
    · exact State.setEntry_tabled ..
    · exact .refl s
  · exact .refl s

theorem State.overstayPosition_tabled (i : Nat) (s : State) : (s.overstayPosition i).Tabled s := by
  unfold State.overstayPosition
  split
  · split
    · exact (State.raise_tabled ..).trans (State.setEntry_tabled ..)
    · exact .refl s
  · exact .refl s

theorem State.Tabled.foldl {f : Nat → State → State} (step : ∀ i s, (f i s).Tabled s) (ps : List Nat) (s : State) :
    (ps.foldl (fun s i => f i s) s).Tabled s := by
  induction ps generalizing s with
  | nil => exact .refl s
  | cons i ps ih => exact (ih _).trans (step i s)

theorem State.agePosition_sounds (i : Nat) (h : s.SoundsAs t) : (s.agePosition i).SoundsAs t := by
  unfold State.agePosition
  split
  · split
    · exact h
    · exact h
  · exact h

theorem agePositions_sound (ps : List Nat) (h : s.SoundsAs t) : (ps.foldl (fun s i => s.agePosition i) s).SoundsAs t := by
  induction ps generalizing s with
  | nil => exact h
  | cons i ps ih => exact ih (State.agePosition_sounds i h)

/-! ## The card table after the tick -/

theorem Rising.positions_nodup {cards : List (Nat × Entry)} (rising : Rising cards) : (cards.map Prod.fst).Nodup :=
  List.pairwise_map.mpr (rising.imp ne_of_lt)

/-- A sweep of every position. -/
theorem Sweeps.all {I : State → Prop} {g : Entry → Option Entry} {f : Nat → State → State} (sweeps : Sweeps I g f) {ps : List Nat}
    (apart : ps.Nodup) (all : ∀ j, j ∉ ps → tget s.cards j = none) (h : I s) :
    I (ps.foldl (fun s i => f i s) s) ∧ ∀ j, tget (ps.foldl (fun s i => f i s) s).cards j = (tget s.cards j).bind g := by
  obtain ⟨kept, there⟩ := sweeps.foldl ps apart h
  refine ⟨kept, fun j => (there j).trans ?_⟩
  split
  · rfl
  next absent => rw [all j absent]; rfl

/-- Aging touches callers ASHORE, an overstay is of a caller ABOARD. -/
theorem Entry.overstay_aged : (e.aged limit clock).bind (Entry.overstay clock) = e.overstay clock := by
  obtain ⟨card, k | held⟩ := e
  · by_cases ages : k.ages = true
    · have ashore : k.presence = .ashore := by
        simp only [Known.ages, Bool.and_eq_true, beq_iff_eq] at ages
        exact ages.1.2
      have quiet (h : Holder) : Known.overstays clock { k with holder := h } = false := by
        cases h <;> simp [Known.overstays, ashore]
      simp only [Entry.aged, if_pos ages, Entry.overstay]
      rw [show k.overstays clock = false from quiet k.holder]
      unfold Known.age
      dsimp only
      split
      · rfl
      · exact if_neg (by simp [quiet])
    · simp only [Entry.aged, if_neg ages]
      rfl
  · rfl

/-- The entries and the alarms that the tick leaves. -/
theorem State.ageCallers_spec (h : s.Ticks limit clock) :
    (∀ j, tget s.ageCallers.cards j = ((tget s.cards j).bind (Entry.aged limit clock)).map (Entry.reported clock)) ∧
    s.ageCallers.SoundsAs ((s.cards.filterMap (fun x => x.2.overstay clock)).foldl (fun s card => s.raise (.overstay card)) s) := by
  obtain ⟨rising, -⟩ := id h
  have apart := rising.positions_nodup
  have all (j : Nat) (absent : j ∉ s.cards.map Prod.fst) : tget s.cards j = none := by
    by_contra found
    obtain ⟨e, found⟩ := Option.ne_none_iff_exists'.mp found
    exact absent (List.mem_map.mpr ⟨_, mem_of_tget found, rfl⟩)
  obtain ⟨ticks, aged⟩ := (agePosition_sweeps limit clock).all apart all h
  have all' (j : Nat) (absent : j ∉ s.cards.map Prod.fst) :
      tget ((s.cards.map Prod.fst).foldl (fun s i => s.agePosition i) s).cards j = none := by
    rw [aged, all j absent]
    rfl
  obtain ⟨-, reported⟩ := (overstayPosition_sweeps limit clock).all apart all' ticks
  have sound := overstays_sound (s.cards.map Prod.fst) apart ticks (agePositions_sound _ ⟨rfl, rfl, rfl, rfl, rfl⟩)
  refine ⟨fun j => (reported j).trans ?_, ?_⟩
  · rw [aged]
    exact Option.map_eq_bind.symm
  · have same : (s.cards.map Prod.fst).filterMap
        (fun i => (tget ((s.cards.map Prod.fst).foldl (fun s i => s.agePosition i) s).cards i).bind (Entry.overstay clock)) =
        s.cards.filterMap (fun x => x.2.overstay clock) := by
      rw [List.filterMap_map]
      refine List.filterMap_congr fun x hx => ?_
      rw [Function.comp_apply, aged, rising.mem_iff.mp hx]
      exact Entry.overstay_aged
    rw [← same]
    exact sound

/-! ## The deadline counter (R108) -/

/-- The deadline after a minute tick. -/
def Deadline.ticked : Deadline → Deadline
  | .none => .none
  | .expired l => .expired l
  | .running r l => if r ≤ 1 then .expired l else if r - 1 ≤ l then .finalCall (r - 1) l else .running (r - 1) l
  | .finalCall r l => if r ≤ 1 then .expired l else .finalCall (r - 1) l

/-- A minute tick brings the deadline into another state. -/
def Deadline.enters : Deadline → Prop
  | .running r l => r ≤ 1 ∨ r - 1 ≤ l
  | .finalCall r _ => r ≤ 1
  | _ => False

theorem State.deadlineTick_quiet (quiet : ¬s.deadline.enters) : s.deadlineTick = { s with deadline := s.deadline.ticked } := by
  obtain ⟨d, is⟩ : ∃ d, s.deadline = d := ⟨_, rfl⟩
  rw [is] at quiet
  rw [State.deadlineTick, is]
  cases d with
  | none => simp [Deadline.ticked, ← is]
  | expired l => simp [Deadline.ticked, ← is]
  | running r l =>
    obtain ⟨far, early⟩ := not_or.mp quiet
    simp [Deadline.ticked, far, early]
  | finalCall r l =>
    have far : ¬r ≤ 1 := quiet
    simp [Deadline.ticked, far]

theorem State.deadlineTick_enters (enters : s.deadline.enters) : s.deadlineTick = s.enterDeadline s.deadline.ticked := by
  obtain ⟨d, is⟩ : ∃ d, s.deadline = d := ⟨_, rfl⟩
  rw [is] at enters
  rw [State.deadlineTick, is]
  cases d with
  | none => exact enters.elim
  | expired l => exact enters.elim
  | running r l =>
    by_cases last : r ≤ 1
    · simp [Deadline.ticked, last]
    · simp [Deadline.ticked, last, enters.resolve_left last]
  | finalCall r l =>
    have last : r ≤ 1 := enters
    simp [Deadline.ticked, last]

theorem execDeadlineExpired_one (last : s.deadline.remaining = 1) :
    execDeadlineExpired s = .next (s.enterDeadline (.expired s.deadline.lead)).close := by
  have enters : s.deadline.enters ∧ s.deadline.ticked = .expired s.deadline.lead := by
    cases is : s.deadline with
    | none => simp [is, Deadline.remaining] at last
    | expired l => simp [is, Deadline.remaining] at last
    | running r l =>
      have one : r = 1 := by simpa [is, Deadline.remaining] using last
      simp [Deadline.enters, Deadline.ticked, Deadline.lead, one]
    | finalCall r l =>
      have one : r = 1 := by simpa [is, Deadline.remaining] using last
      simp [Deadline.enters, Deadline.ticked, Deadline.lead, one]
  obtain ⟨enters, expires⟩ := enters
  rw [execDeadlineExpired, if_pos last, State.deadlineTick_enters enters, expires]

end Sys2Proof.Machine
end

section
/-! The entries after a minute tick, and the events of the clock (R18, R19, R144 to R150). -/

namespace Sys2Proof.Machine

variable {s : State} {k : Known} {e : Entry} {clock : Clock} {limit : Nat} {card : CardNo} {idle : Nat} {rep : Bool}

/-! ## An entry at a minute tick (R18, R19) -/

/-- What a minute tick leaves of an entry: it is aged, then examined for overstay. -/
def Entry.ticked (limit : Nat) (clock : Clock) (e : Entry) : Option Entry := (e.aged limit clock).map (Entry.reported clock)

/-- An entry that is neither aged nor reported stays. -/
theorem Entry.ticked_same (young : k.ages = false) (quiet : k.overstays clock = false) :
    (⟨card, .known k⟩ : Entry).ticked limit clock = some ⟨card, .known k⟩ := by
  simp [Entry.ticked, Entry.aged, young, Entry.reported, quiet]

theorem Entry.ticked_other (other : ∀ k idle rep, e.body = .known k → k.holder ≠ .caller idle rep) :
    e.ticked limit clock = some e := by
  obtain ⟨card, k | held⟩ := e
  · cases holder : k.holder with
    | caller idle rep => exact absurd holder (other k idle rep rfl)
    | guest => exact Entry.ticked_same (by simp [Known.ages, holder, Holder.category]) (by simp [Known.overstays, holder])
    | crew => exact Entry.ticked_same (by simp [Known.ages, holder, Holder.category]) (by simp [Known.overstays, holder])
  · rfl

section
variable (caller : k.holder = .caller idle rep)
include caller

theorem Known.ages_iff : k.ages = true ↔ k.presence = .ashore ∧ k.engaged = none := by
  simp [Known.ages, caller, Holder.category]

/-- The aging of a caller. -/
theorem Known.age_eq : k.age limit clock = if limit ≤ (if idle < 1440 then idle + 1 else idle) ∨ k.overdue clock = true then none
    else some { k with holder := .caller (if idle < 1440 then idle + 1 else idle) rep } := by
  unfold Known.age
  rw [caller]
  rfl

section
variable (ashore : k.presence = .ashore)
include ashore

theorem Entry.ticked_ashore (free : k.engaged = none) : (⟨card, .known k⟩ : Entry).ticked limit clock =
    if limit ≤ (if idle < 1440 then idle + 1 else idle) ∨ k.overdue clock = true then none
    else some ⟨card, .known { k with holder := .caller (if idle < 1440 then idle + 1 else idle) rep }⟩ := by
  simp only [Entry.ticked, Entry.aged, if_pos ((Known.ages_iff caller).mpr ⟨ashore, free⟩), Known.age_eq caller]
  generalize (if idle < 1440 then idle + 1 else idle) = n
  by_cases gone : limit ≤ n ∨ k.overdue clock = true
  · rw [if_pos gone, if_pos gone]
    rfl
  · rw [if_neg gone, if_neg gone]
    simp [Entry.reported, Known.overstays, ashore]

theorem Entry.ticked_engaged (engaged : k.engaged ≠ none) :
    (⟨card, .known k⟩ : Entry).ticked limit clock = some ⟨card, .known k⟩ :=
  Entry.ticked_same (Bool.eq_false_iff.mpr fun ages => engaged ((Known.ages_iff caller).mp ages).2)
    (by simp [Known.overstays, caller, ashore])

end

section
variable (aboard : k.presence = .aboard)
include aboard

theorem Known.ages_aboard : k.ages = false :=
  Bool.eq_false_iff.mpr fun ages => by simpa [aboard] using ((Known.ages_iff caller).mp ages).1

theorem Entry.ticked_overdue (overdue : k.overdue clock = true) : (⟨card, .known k⟩ : Entry).ticked limit clock =
    some ⟨card, .known { k with holder := .caller idle true }⟩ := by
  cases rep with
  | false => simp [Entry.ticked, Entry.aged, Known.ages_aboard caller aboard, Entry.reported, Known.overstays, caller, aboard, overdue, Holder.report]
  | true =>
    rw [← caller]
    exact Entry.ticked_same (Known.ages_aboard caller aboard) (by simp [Known.overstays, caller])

theorem Entry.ticked_intime (intime : ¬k.overdue clock = true) :
    (⟨card, .known k⟩ : Entry).ticked limit clock = some ⟨card, .known k⟩ :=
  Entry.ticked_same (Known.ages_aboard caller aboard) (by simp [Known.overstays, caller, intime])

end

end

/-! ## MINUTE_TICK (R150) -/

/-- The state at a minute tick, its timer begun again. -/
def State.atMinute (s : State) : State := { s with clock := { s.clock with minuteMs := 0 } }

theorem State.minute_tabled (s : State) : s.atMinute.ageCallers.Tabled s.atMinute :=
  (State.Tabled.foldl State.overstayPosition_tabled _ _).trans (State.Tabled.foldl State.agePosition_tabled _ _)

theorem State.minute_sounds (s : State) (cards : List CardNo) :
    (cards.foldl (fun s card => s.raise (.overstay card)) s.atMinute).SoundsAs (cards.foldl (fun s card => s.raise (.overstay card)) s) := by
  have fold (t u : State) (h : t.SoundsAs u) : (cards.foldl (fun s card => s.raise (.overstay card)) t).SoundsAs
      (cards.foldl (fun s card => s.raise (.overstay card)) u) := by
    induction cards generalizing t u with
    | nil => exact h
    | cons card cards ih => exact ih _ _ (h.raise _)
  exact fold _ _ ⟨rfl, rfl, rfl, rfl, rfl⟩

theorem State.deadlineTick_ticked (s : State) : s.deadlineTick.deadline = s.deadline.ticked := by
  by_cases enters : s.deadline.enters
  · rw [State.deadlineTick_enters enters]
    rfl
  · rw [State.deadlineTick_quiet enters]

/-- What the deadline's countdown leaves unchanged. -/
theorem State.deadlineTick_frame (s : State) :
    s.deadlineTick = { s with deadline := s.deadlineTick.deadline, link := s.deadlineTick.link } := by
  by_cases enters : s.deadline.enters
  · rw [State.deadlineTick_enters enters]
    rfl
  · rw [State.deadlineTick_quiet enters]

theorem State.Tabled.deadlineTick {t : State} (h : t.Tabled s) : t.deadlineTick = { s with
    cards := t.deadlineTick.cards, tally := t.deadlineTick.tally, folios := t.deadlineTick.folios, alarms := t.deadlineTick.alarms,
    link := t.deadlineTick.link, deadline := t.deadlineTick.deadline } := by
  have frame := t.deadlineTick_frame
  generalize t.deadlineTick = u at frame ⊢
  unfold State.Tabled at h
  rw [frame, h]

theorem State.SoundsAs.trans {t u : State} (h₁ : s.SoundsAs t) (h₂ : t.SoundsAs u) : s.SoundsAs u := by
  obtain ⟨alarms, link, setup, time, valid⟩ := h₁
  obtain ⟨alarms', link', setup', time', valid'⟩ := h₂
  exact ⟨alarms.trans alarms', link.trans link', setup.trans setup', time.trans time', valid.trans valid'⟩

/-! ## LEASE_EXPIRY (R144) -/

theorem execLeaseExpiry_standalone (alone : s.authority = .standalone) : execLeaseExpiry s = .next s := by
  rw [execLeaseExpiry, alone]

theorem execLeaseExpiry_online {left : Nat} (online : s.authority = .online left) :
    execLeaseExpiry s = .next (s.enterStandalone true).close := by
  rw [execLeaseExpiry, online]

end Sys2Proof.Machine

namespace Sys2Proof.Clock
open Sys2Proof.Machine

/-- Settles O56: the waits in their order, the entries and alarms of a tick, then the deadline. -/
theorem theClockEvents : Obligations.TheClockEvents := by
  intro s
  refine ⟨execLeaseExpiry_standalone, fun left online => ?online, ?waits, rfl, ?minute,
    fun later => congrArg Host.Outcome.next (if_neg later), execDeadlineExpired_one⟩
  case online =>
    intro u
    refine ⟨execLeaseExpiry_online online, fun tables => ?_⟩
    exact State.standaloneLaw_enterStandalone tables true State.resolveWaits_authority
  case waits =>
    intro deny stand
    have stood : stand = fun s t => s.standIn t := by
      funext u t
      dsimp only [stand, State.standIn]
      cases (u.tills.get t).state <;> rfl
    refine ⟨fun tables => ?_, fun i card h => mem_pendingByReader_iff, pendingByReader_ascends _, fun t => State.mem_authorisingTills,
      s.authorisingTills_ascend⟩
    rw [stood]
    exact congrArg (s.authorisingTills.foldl (fun s t => s.standIn t))
      (State.denyQueries_eq tables.1 _ (pendingByReader_positions tables.1) fun x hx =>
        tables.1.mem_iff.mp (mem_pendingByReader_iff.mp hx))
  case minute =>
    let aged := s.atMinute.ageCallers
    have tabled : aged = { s.atMinute with
      cards := aged.cards, tally := aged.tally, folios := aged.folios, alarms := aged.alarms, link := aged.link } := s.minute_tabled
    have deadline : aged.deadline = s.deadline := (congrArg State.deadline tabled).trans rfl
    refine ⟨aged.deadlineTick, rfl, State.Tabled.deadlineTick s.minute_tabled, ?_, fun tables => ?alarms,
      fun k => Known.overstays_iff.trans (by rw [Known.overdue_iff]), fun tables i e found => ?entry⟩
    · rw [State.deadlineTick_ticked, deadline]
      rfl
    case alarms =>
      intro overstays raised entered
      obtain ⟨-, sound⟩ := State.ageCallers_spec (s := s.atMinute) ⟨tables.1, rfl, rfl⟩
      obtain ⟨alarms, link, -⟩ := sound.trans (s.minute_sounds overstays)
      have frame := aged.deadlineTick_frame
      have enters : aged.deadline.enters = entered := by
        rw [deadline]
        rfl
      refine ⟨(congrArg State.alarms frame).trans alarms, fun quiet => ?_, fun entering => ?_⟩
      · rw [State.deadlineTick_quiet (enters ▸ quiet)]
        exact link
      · rw [State.deadlineTick_enters (enters ▸ entering)]
        exact congrArg (fun l : Link => l.notify (State.deadlineNotice { aged with deadline := aged.deadline.ticked })) link
    case entry =>
      obtain ⟨entries, -⟩ := State.ageCallers_spec (s := s.atMinute) ⟨tables.1, rfl, rfl⟩
      have there : tget aged.deadlineTick.cards i = e.ticked s.setup.timing.idleLimit s.atMinute.clock := by
        rw [aged.deadlineTick_frame]
        exact (entries i).trans (by rw [show tget s.atMinute.cards i = some e from found]; rfl)
      rw [there]
      refine ⟨Entry.ticked_other, fun k idle rep body caller => ?_⟩
      obtain ⟨card, b⟩ := e
      obtain rfl : b = .known k := body
      intro overdue idle' gone
      have late : k.overdue s.atMinute.clock = true ↔ overdue := Known.overdue_iff
      have goes : (s.setup.timing.idleLimit ≤ idle' ∨ k.overdue s.atMinute.clock = true) ↔ gone := or_congr_right late
      exact ⟨fun ashore free h => (Entry.ticked_ashore caller ashore free).trans (if_pos (goes.mpr h)),
        fun ashore free h => (Entry.ticked_ashore caller ashore free).trans (if_neg (mt goes.mp h)),
        fun ashore engaged => Entry.ticked_engaged caller ashore engaged,
        fun aboard h => Entry.ticked_overdue caller aboard (late.mpr h),
        fun aboard h => Entry.ticked_intime caller aboard (mt late.mp h)⟩

end Sys2Proof.Clock
end

section
/-! The lanes at an entry into EVACUATION (R103, R155). -/

namespace Sys2Proof.Machine

variable {cfg : Setup} {c : Chan} {z z₁ z₂ z' : Zone} {st : ChanState} {a : Hold} {l i : LaneNo} {s t : State} {m : Movement} {k : Known}
  {card : CardNo} {R : Zone → Zone → Prop}

/-! ## The lanes through an operation of a channel -/

/-- The record of a lane without the pass window of its movement. -/
def Lane.windowless (x : Lane) : Lane := { x with state := x.state.windowless }

/-- The lanes differ in nothing but the pass windows of the movements of USED lanes. -/
def Zone.LanesAlike (cfg : Setup) (z z' : Zone) : Prop :=
  ∀ l, (z.laneUsed cfg l = false → z'.lanes.get l = z.lanes.get l) ∧
    (z'.lanes.get l).windowless = (z.lanes.get l).windowless

theorem Zone.LanesAlike.of_eq (h : z'.lanes = z.lanes) : z.LanesAlike cfg z' := fun l => by
  rw [h]
  exact ⟨fun _ => rfl, rfl⟩

theorem Zone.LanesAlike.unfit (h : z.LanesAlike cfg z') (l : LaneNo) : (z'.lanes.get l).unfit = (z.lanes.get l).unfit :=
  (congrArg Lane.unfit (h l).2 :)

theorem Zone.LanesAlike.used (h : z.LanesAlike cfg z') (l : LaneNo) : z'.laneUsed cfg l = z.laneUsed cfg l := by
  unfold Zone.laneUsed
  rw [h.unfit]

theorem Zone.LanesAlike.windowless (h : z.LanesAlike cfg z') (l : LaneNo) :
    (z'.lanes.get l).state.windowless = (z.lanes.get l).state.windowless :=
  (congrArg Lane.state (h l).2 :)

theorem Zone.LanesAlike.trans (h : z.LanesAlike cfg z₁) (k : z₁.LanesAlike cfg z₂) : z.LanesAlike cfg z₂ := fun l =>
  ⟨fun unused => ((k l).1 ((h.used l).trans unused)).trans ((h l).1 unused), (k l).2.trans (h l).2⟩

theorem Zone.lanesAlike_stable : Zone.Stable cfg (Zone.LanesAlike cfg) where
  refl _ := .of_eq rfl
  trans := .trans
  enter _ _ _ := .of_eq rfl
  begins _ _ _ := .of_eq rfl
  group _ _ _ := .of_eq rfl
  lane z l x used _ same i := by
    by_cases h : i = l
    · subst h
      rw [Zone.setLane_get_self]
      refine ⟨fun unused => by simp [used] at unused, ?_⟩
      unfold Lane.windowless
      dsimp only
      rw [same]
    · rw [Zone.setLane_get_other _ _ _ _ h]
      exact ⟨fun _ => rfl, rfl⟩

theorem Zone.Stable.waitOpen (h : Zone.Stable cfg R) : R z (z.waitOpen cfg c a) := by
  rcases Zone.waitOpen_cases cfg c a z with ⟨-, e⟩ | ⟨-, e⟩ <;> rw [e]
  · exact h.enter _ _ _
  · exact h.trans (h.enter _ _ _) (h.group _ _ _)

theorem Zone.releaseClaim_alike : z.LanesAlike cfg (z.releaseClaim cfg c) := by
  have marked : z.LanesAlike cfg (z.setChan c (fun ch => { ch with release := true })) := .of_eq rfl
  have h := Zone.lanesAlike_stable (cfg := cfg)
  unfold Zone.releaseClaim
  split
  · refine marked.trans ?_
    dsimp only
    split
    · exact h.trans h.waitOpen h.settle
    · split
      · exact h.enter _ _ _
      · exact h.trans h.waitOpen h.settle
    · exact h.trans h.leave (h.enter _ _ _)
    · exact h.trans h.drive h.settle
    · exact h.trans h.waitOpen h.settle
    · exact h.enter _ _ _
    all_goals exact h.refl _
  · exact h.refl z

theorem Zone.foldl_alike {op : Zone → Chan → Zone} (step : ∀ (z : Zone) c, z.LanesAlike cfg (op z c)) (cs : List Chan) (z : Zone) :
    z.LanesAlike cfg (cs.foldl op z) := by
  induction cs generalizing z with
  | nil => exact .of_eq rfl
  | cons c cs ih => exact (step z c).trans (ih _)

theorem LaneState.windowless_heldOpen {x : LaneState} {r : Return} (h : x.windowless = .heldOpen r) : x = .heldOpen r := by
  cases x <;> simp_all [LaneState.windowless]

/-! ## One lane -/

/-- The record of a USED lane after an evacuation claim (R103). -/
def Lane.evacuated (x : Lane) : Lane :=
  match x.state.movement with
  | some _ => { x with state := .heldOpen x.state.returning, abandoned := satInc x.abandoned }
  | none => { x with state := .heldOpen x.state.returning }

/-- The LANE notice of a movement that an evacuation claim abandons. -/
def LaneState.evacNotice (l : LaneNo) (x : LaneState) : Option Notice :=
  x.movement.map (fun m => .lane l m.card m.dir m.accepted .evacuation (.heldOpen x.returning))

theorem Lane.evacuated_congr {x y : Lane} (same : x.windowless = y.windowless) :
    x.evacuated = y.evacuated := by
  obtain ⟨sx, _, _, _, _, _⟩ := x
  obtain ⟨sy, _, _, _, _, _⟩ := y
  simp only [Lane.windowless, Lane.mk.injEq] at same
  obtain ⟨states, rfl, rfl, rfl, rfl, rfl⟩ := same
  cases sx <;> cases sy <;> simp_all [LaneState.windowless, Lane.evacuated, LaneState.movement, LaneState.returning]

theorem LaneState.evacNotice_congr {x y : LaneState} (same : x.windowless = y.windowless) : x.evacNotice l = y.evacNotice l := by
  cases x <;> cases y <;> simp_all [LaneState.windowless, LaneState.evacNotice, LaneState.movement, LaneState.returning]

end Sys2Proof.Machine
end

section
/-! The evacuation claims of an entry on its lanes (R103, R155). -/

namespace Sys2Proof.Machine

variable {l i : LaneNo} {s t : State} {m : Movement} {k : Known} {card other : CardNo} {z z' : Zone} {cfg : Setup}

/-! ## The known entry of another card -/

theorem lookup_tput_other {cards : List (Nat × Entry)} {i : Nat} {e : Entry} (away : e.card ≠ card)
    (was : ∀ x, tget cards i = some x → x.card ≠ card) : lookup (tput i e cards) card = lookup cards card := by
  unfold lookup
  congr 1
  funext j
  by_cases same : j = i
  · subst same
    rw [tget_tput_self]
    dsimp only
    rw [if_neg away]
    cases found : tget cards j with
    | none => rfl
    | some x => exact (if_neg (was x found)).symm
  · rw [tget_tput_other _ _ _ _ same]

theorem State.known_changeKnown_other {f : Known → Known} (away : card ≠ other) : (s.changeKnown other f).known card = s.known card := by
  unfold State.changeKnown
  split
  next i d k found =>
    have here := tget_of_lookup found
    have named : d = other := card_of_lookup found
    unfold State.known
    rw [show (s.setEntry i (some ⟨other, .known (f k)⟩)).cards = tput i ⟨other, .known (f k)⟩ s.cards from rfl,
      lookup_tput_other (Ne.symm away) fun x hx => ?_]
    rw [here] at hx
    obtain rfl := Option.some.inj hx
    exact named ▸ Ne.symm away
  · rfl

/-- An engagement that ends leaves every known entry that it does not engage. -/
theorem State.known_disengage_free {e : Engagement} (known : s.known card = some k) (free : k.engaged ≠ some e) :
    (s.disengage other e).known card = some k := by
  by_cases same : card = other
  · subst same
    exact (State.known_changeKnown_self known).trans (congrArg some (if_neg free))
  · exact (State.known_changeKnown_other same).trans known

/-! ## One claim -/

theorem Lane.eq_of_heldOpen {x y : Lane} {r : Return} (same : x.windowless = y.windowless) (held : y.state = .heldOpen r) : x = y := by
  have state : x.state = y.state := (LaneState.windowless_heldOpen ((congrArg Lane.state same).trans (by
    unfold Lane.windowless
    rw [held]
    rfl))).trans held.symm
  unfold Lane.windowless at same
  rw [state, Lane.mk.injEq] at same
  obtain ⟨-, out, in_, abandoned, unattributed, unfit⟩ := same
  obtain ⟨_, _, _, _, _, _⟩ := x
  obtain ⟨_, _, _, _, _, _⟩ := y
  simp_all

/-- The notices an evacuation claim on a lane adds. -/
def Zone.tellEvac (cfg : Setup) (z : Zone) (link : Link) (l : LaneNo) : Link :=
  if z.laneUsed cfg l = true then ((z.lanes.get l).state.evacNotice l).elim link (fun n => link.notify n) else link

theorem Zone.tellEvac_congr (used : z'.laneUsed cfg l = z.laneUsed cfg l)
    (same : (z'.lanes.get l).state.windowless = (z.lanes.get l).state.windowless) (link : Link) :
    z'.tellEvac cfg link l = z.tellEvac cfg link l := by
  unfold Zone.tellEvac
  rw [used, LaneState.evacNotice_congr same]

/-- Nothing but the card table, the tally, the folio references, the zone and the notices differs. -/
def State.Laned (t s : State) : Prop :=
  t = { s with cards := t.cards, tally := t.tally, folios := t.folios, zone := t.zone, link := t.link }

theorem State.Laned.refl (s : State) : s.Laned s := rfl

theorem State.Laned.trans {u : State} (h₁ : u.Laned t) (h₂ : t.Laned s) : u.Laned s := by
  unfold State.Laned at *
  rw [h₁, h₂]

theorem State.Laned.setup (h : t.Laned s) : t.setup = s.setup := by
  unfold State.Laned at h
  rw [h]

/-- What an evacuation claim on lane `l` does. -/
structure State.LaneClaimed (l : LaneNo) (s t : State) : Prop where
  laned : t.Laned s
  here : s.zone.laneUsed s.setup l = true → t.zone.lanes.get l = (s.zone.lanes.get l).evacuated
  unused : s.zone.laneUsed s.setup l = false → t = s
  others : ∀ i, i ≠ l → (s.zone.laneUsed s.setup i = false → t.zone.lanes.get i = s.zone.lanes.get i) ∧
    (t.zone.lanes.get i).windowless = (s.zone.lanes.get i).windowless
  link : t.link = s.zone.tellEvac s.setup s.link l
  free : ∀ card k, s.known card = some k → k.engaged ≠ some (.movement l) → t.known card = some k
  abandons : s.zone.laneUsed s.setup l = true → ∀ m k, (s.zone.lanes.get l).state.movement = some m → s.known m.card = some k →
    k.engaged = some (.movement l) → t.known m.card = some { k with engaged := none }

theorem State.evacuateLane_claimed (l : LaneNo) (s : State) : s.LaneClaimed l (s.evacuateLane l) := by
  by_cases used : s.zone.laneUsed s.setup l = true
  · have elsewhere (z : Zone) (set : ∃ f, z = s.zone.setLane l f) {z' : Zone} (alike : z.LanesAlike s.setup z') (i : LaneNo) (h : i ≠ l) :
        (s.zone.laneUsed s.setup i = false → z'.lanes.get i = s.zone.lanes.get i) ∧
          (z'.lanes.get i).windowless = (s.zone.lanes.get i).windowless := by
      obtain ⟨f, rfl⟩ := set
      have same : (s.zone.setLane l f).lanes.get i = s.zone.lanes.get i := Zone.setLane_get_other _ _ _ _ h
      obtain ⟨unused, windowless⟩ := alike i
      unfold Zone.laneUsed at unused ⊢
      rw [same] at unused windowless
      exact ⟨unused, windowless⟩
    cases moving : (s.zone.lanes.get l).state.movement with
    | some m =>
      have claim : s.evacuateLane l = s.abandon l m .evacuation (.heldOpen (s.zone.lanes.get l).state.returning) := by
        rw [State.evacuateLane, if_pos used]
        dsimp only
        rw [moving]
      obtain ⟨cs, ta, fs, eq, known_⟩ := State.abandon_eq l m .evacuation (.heldOpen (s.zone.lanes.get l).state.returning) s
      rw [claim]
      have zone := congrArg State.zone eq
      have alike := Zone.lanesAlike_stable.relockClaim (cfg := s.setup) (c := (s.setup.lanes.get l).gate)
        (z := s.zone.setLane l (fun x => { x with state := .heldOpen (s.zone.lanes.get l).state.returning, abandoned := satInc x.abandoned }))
      refine ⟨by rw [State.Laned, eq], fun _ => ?_, fun unused => by simp [used] at unused, ?_, ?_, fun card k known free => ?_,
        fun _ m' k h known engaged => ?_⟩
      · obtain ⟨-, same⟩ := alike l
        rw [zone, Lane.evacuated, moving]
        rw [Zone.setLane_get_self] at same
        exact Lane.eq_of_heldOpen same rfl
      · rw [zone]
        exact elsewhere _ ⟨_, rfl⟩ alike
      · rw [congrArg State.link eq, Zone.tellEvac, if_pos used, LaneState.evacNotice, moving]
        rfl
      · exact (State.known_congr rfl card).trans (State.known_disengage_free (s := s.onZone _) known free)
      · obtain rfl : m = m' := by simpa [moving] using h
        rw [known_ _ known]
        simp [engaged]
    | none =>
      have claim : s.evacuateLane l = s.onZone (·.setLane l (fun x => { x with state := .heldOpen (s.zone.lanes.get l).state.returning })) := by
        rw [State.evacuateLane, if_pos used]
        dsimp only
        rw [moving]
      rw [claim]
      refine ⟨rfl, fun _ => ?_, fun unused => by simp [used] at unused, elsewhere _ ⟨_, rfl⟩ (.of_eq rfl), ?_, fun _ _ known _ => known,
        fun _ m k h => by simp [moving] at h⟩
      · simp [State.onZone, Zone.setLane_get_self, Lane.evacuated, moving]
      · simp [State.onZone, Zone.tellEvac, LaneState.evacNotice, moving]
  · have same : s.evacuateLane l = s := if_neg used
    rw [same]
    exact ⟨.refl s, fun h => absurd h used, fun _ => rfl, fun i _ => ⟨fun _ => rfl, rfl⟩, (if_neg used).symm, fun _ _ known _ => known,
      fun h => absurd h used⟩

end Sys2Proof.Machine
end

section
/-! All the evacuation claims of an entry on its lanes and tills (R103, R129, R155). -/

namespace Sys2Proof.Machine

variable {l i : LaneNo} {s t : State} {m : Movement} {k : Known} {card : CardNo} {z z' : Zone} {cfg : Setup}

/-! ## The claims on a list of lanes -/

/-- What the evacuation claims on the lanes `ls` do. -/
structure State.LanesClaimed (ls : List LaneNo) (s t : State) : Prop where
  laned : t.Laned s
  here : ∀ i ∈ ls, s.zone.laneUsed s.setup i = true → t.zone.lanes.get i = (s.zone.lanes.get i).evacuated
  unused : ∀ i, s.zone.laneUsed s.setup i = false → t.zone.lanes.get i = s.zone.lanes.get i
  kept : ∀ i, i ∉ ls → (t.zone.lanes.get i).windowless = (s.zone.lanes.get i).windowless
  link : t.link = ls.foldl (s.zone.tellEvac s.setup) s.link
  free : ∀ card k, s.known card = some k → (∀ l ∈ ls, k.engaged ≠ some (.movement l)) → t.known card = some k
  abandons : ∀ l ∈ ls, s.zone.laneUsed s.setup l = true → ∀ m k, (s.zone.lanes.get l).state.movement = some m →
    s.known m.card = some k → k.engaged = some (.movement l) → t.known m.card = some { k with engaged := none }

/-- A lane's pass window does not change whose movement it holds. -/
theorem LaneState.movement_windowless {x y : LaneState} (same : x.windowless = y.windowless) (moves : y.movement = some m) :
    ∃ m', x.movement = some m' ∧ m'.card = m.card := by
  cases x <;> cases y <;> simp_all [LaneState.windowless, LaneState.movement]

theorem Lane.evacuated_state (x : Lane) : x.evacuated.state = .heldOpen x.state.returning := by
  unfold Lane.evacuated
  split
  · rfl
  · rfl

theorem State.evacuateLanes_claimed (ls : List LaneNo) (apart : ls.Nodup) (s : State) :
    s.LanesClaimed ls (ls.foldl (fun s l => s.evacuateLane l) s) := by
  induction ls generalizing s with
  | nil => exact ⟨.refl s, by simp, fun _ _ => rfl, fun _ _ => rfl, rfl, fun _ _ known _ => known, by simp⟩
  | cons l ls ih =>
    obtain ⟨new, rest⟩ := List.nodup_cons.mp apart
    have first := s.evacuateLane_claimed l
    have last := ih rest (s.evacuateLane l)
    rw [List.foldl_cons]
    generalize s.evacuateLane l = u at first last
    have setup : u.setup = s.setup := first.laned.setup
    have away {i : LaneNo} (hi : i ∈ ls) : i ≠ l := fun e => new (e ▸ hi)
    have windowless (i : LaneNo) (hi : i ≠ l) : (u.zone.lanes.get i).windowless = (s.zone.lanes.get i).windowless := (first.others i hi).2
    have used (i : LaneNo) (hi : i ≠ l) : u.zone.laneUsed u.setup i = s.zone.laneUsed s.setup i := by
      have unfit : (u.zone.lanes.get i).unfit = (s.zone.lanes.get i).unfit := (congrArg Lane.unfit (windowless i hi) :)
      unfold Zone.laneUsed
      rw [setup, unfit]
    refine ⟨last.laned.trans first.laned, fun i hi claims => ?_, fun i unused => ?_, fun i hi => ?_, ?_, fun card k known free => ?_,
      fun i hi claims m k moves known engaged => ?_⟩
    · rcases List.mem_cons.mp hi with rfl | hi
      · have held := first.here claims
        rw [← held]
        exact Lane.eq_of_heldOpen (last.kept i new) (by rw [held, Lane.evacuated_state])
      · exact (last.here i hi ((used i (away hi)).trans claims)).trans (Lane.evacuated_congr (windowless i (away hi)))
    · by_cases same : i = l
      · subst same
        obtain rfl := first.unused unused
        exact last.unused i unused
      · exact (last.unused i ((used i same).trans unused)).trans ((first.others i same).1 unused)
    · obtain ⟨ne, hi⟩ := not_or.mp (mt List.mem_cons.mpr hi)
      exact (last.kept i hi).trans (windowless i ne)
    · rw [last.link, first.link, List.foldl_cons]
      refine List.foldl_ext _ _ _ fun link i hi => ?_
      rw [setup]
      exact Zone.tellEvac_congr (by rw [← used i (away hi), setup]) (congrArg Lane.state (windowless i (away hi)) :) link
    · exact last.free card k (first.free card k known (free l (by simp))) fun i hi => free i (by simp [hi])
    · rcases List.mem_cons.mp hi with rfl | hi
      · exact last.free _ _ (first.abandons claims m k moves known engaged) (by simp)
      · obtain ⟨m', moves', sameCard⟩ := LaneState.movement_windowless (congrArg Lane.state (windowless i (away hi)) :) moves
        rw [← sameCard] at known ⊢
        exact last.abandons i hi ((used i (away hi)).trans claims) m' k moves'
          (first.free _ k known (by simp [engaged, away hi])) engaged

/-! ## The claims on the tills -/

/-- The CHARGE RESULT notice of a charge that an entry suspends (R129). -/
def Till.suspendNotice (t : TillNo) (invalid : Bool) (x : Till) : Option Notice :=
  match x.state with
  | .idle => none
  | .armed c _ => some (.chargeResult t .suspended none none c.amount c.ref none invalid)
  | .authorising c p _ => some (.chargeResult t .suspended (some p.card) (some p.slot) c.amount c.ref none invalid)

/-- The last charge of a till after an entry (R129). -/
def Till.suspendedLast (x : Till) : Option LastOutcome :=
  match x.state with
  | .idle => x.last
  | .armed c _ => some ⟨.suspended, none, c.ref, none⟩
  | .authorising c p _ => some ⟨.suspended, some p.card, c.ref, none⟩

theorem Till.suspendedLast_idle {x : Till} (idle : x.state = .idle) : { x with state := .idle, last := x.suspendedLast } = x := by
  unfold Till.suspendedLast
  rw [idle]
  exact congrArg (fun st => { x with state := st }) idle.symm

/-- Nothing but the card table, the tally, the folio references, the tills, the notices and the readers differs. -/
def State.Tilled (t s : State) : Prop :=
  t = { s with cards := t.cards, tally := t.tally, folios := t.folios, tills := t.tills, link := t.link, readers := t.readers }

theorem State.Tilled.trans {u : State} (h₁ : u.Tilled t) (h₂ : t.Tilled s) : u.Tilled s := by
  unfold State.Tilled at *
  rw [h₁, h₂]

theorem State.Tilled.clock (h : t.Tilled s) : t.clock = s.clock := by
  unfold State.Tilled at h
  rw [h]

/-- What an entry's claims on the tills `ts` do. -/
structure State.TillsSuspended (ts : List TillNo) (s u : State) : Prop where
  frame : u.Tilled s
  here : ∀ t ∈ ts, u.tills.get t = { s.tills.get t with state := .idle, last := (s.tills.get t).suspendedLast }
  others : ∀ t, t ∉ ts → u.tills.get t = s.tills.get t
  link : u.link = ts.foldl
    (fun link t => ((s.tills.get t).suspendNotice t (!s.clock.valid)).elim link (fun n => link.notify n)) s.link
  free : ∀ card k, s.known card = some k → (∀ t, k.engaged ≠ some (.charge t)) → u.known card = some k

theorem State.dropCharge_suspended (t : TillNo) (s : State) : s.TillsSuspended [t] (s.dropCharge t .suspended) := by
  cases state : (s.tills.get t).state with
  | idle =>
    have same : s.dropCharge t .suspended = s := by rw [State.dropCharge, state]
    rw [same]
    refine ⟨rfl, ?_, fun _ _ => rfl, ?_, fun _ _ known _ => known⟩
    · intro i hi
      obtain rfl := List.mem_singleton.mp hi
      exact (Till.suspendedLast_idle state).symm
    · simp [Till.suspendNotice, state]
  | armed c left =>
    have ends : s.dropCharge t .suspended = s.endCharge t c .suspended none none none := by rw [State.dropCharge, state]
    rw [ends, State.endCharge_noCard]
    refine ⟨rfl, ?_, ?_, ?_, fun _ _ known _ => known⟩
    · intro i hi
      obtain rfl := List.mem_singleton.mp hi
      rw [Till.suspendedLast, state]
      exact vget_vset_self _ _ _
    · intro u away
      exact vget_vset_other _ _ _ _ (by simpa using away)
    · simp [Till.suspendNotice, state]
  | authorising c p left =>
    have ends : s.dropCharge t .suspended = s.endCharge t c .suspended (some (p.card, p.reader)) (some p.slot) none := by
      rw [State.dropCharge, state]
      rfl
    rw [ends, State.endCharge_card]
    obtain ⟨cs, ta, fs, changed, -⟩ := s.changeKnown_frame p.card
      (fun k => if k.engaged = some (.charge t) then { k with engaged := none } else k)
    refine ⟨?_, ?_, ?_, ?_, fun card k known free => ?_⟩
    · rw [State.Tilled, State.disengage, changed]
    · intro i hi
      obtain rfl := List.mem_singleton.mp hi
      rw [Till.suspendedLast, state]
      exact vget_vset_self _ _ _
    · intro u away
      exact vget_vset_other _ _ _ _ (by simpa using away)
    · simp [Till.suspendNotice, state]
    · exact (State.known_congr rfl card).trans (State.known_disengage_free (other := p.card) known (free t))

theorem State.dropCharges_suspended (ts : List TillNo) (apart : ts.Nodup) (s : State) :
    s.TillsSuspended ts (ts.foldl (fun s t => s.dropCharge t .suspended) s) := by
  induction ts generalizing s with
  | nil => exact ⟨rfl, by simp, fun _ _ => rfl, rfl, fun _ _ known _ => known⟩
  | cons t ts ih =>
    obtain ⟨new, rest⟩ := List.nodup_cons.mp apart
    have first := s.dropCharge_suspended t
    have last := ih rest (s.dropCharge t .suspended)
    rw [List.foldl_cons]
    generalize s.dropCharge t .suspended = u at first last
    have clock : u.clock = s.clock := first.frame.clock
    have same {i : TillNo} (hi : i ∈ ts) : u.tills.get i = s.tills.get i := first.others i fun e => new (List.mem_singleton.mp e ▸ hi)
    refine ⟨last.frame.trans first.frame, fun i hi => ?_, fun i hi => ?_, ?_, fun card k known free => last.free card k (first.free card k known free) free⟩
    · rcases List.mem_cons.mp hi with rfl | hi
      · exact (last.others i new).trans (first.here i (by simp))
      · rw [last.here i hi, same hi]
    · obtain ⟨ne, hi⟩ := not_or.mp (mt List.mem_cons.mpr hi)
      exact (last.others i hi).trans (first.others i (by simpa using ne))
    · rw [last.link, first.link, List.foldl_cons]
      refine List.foldl_ext _ _ _ fun link i hi => ?_
      rw [clock, same hi]

end Sys2Proof.Machine
end

section
/-! The entry into EVACUATION, from MAINTENANCE to its last claim (R103, R129, R155, R156). -/

namespace Sys2Proof.Machine

variable {s t u : State} {r r' : ReaderNo} {l : LaneNo} {n : Nat} {cause : EvacCause}

/-! ## The setup taken into service (R156, R171) -/

/-- The bus going on empties slots, and leaves the rest of each reader. -/
theorem State.beginPoll_reader : ∃ slot, (s.beginPoll r').readers.get r = { s.readers.get r with slot := slot } := by
  unfold State.beginPoll
  split
  · by_cases same : r = r'
    · subst same
      exact ⟨none, vget_vmod_self _ _ _⟩
    · exact ⟨_, vget_vmod_other _ _ _ _ same⟩
  · exact ⟨_, rfl⟩

theorem State.nextExchange_reader : ∃ slot, (State.nextExchange n s).readers.get r = { s.readers.get r with slot := slot } := by
  induction n generalizing s with
  | zero => exact ⟨_, rfl⟩
  | succ n ih =>
    unfold State.nextExchange
    split
    · split
      · exact State.beginPoll_reader
      · exact ih
    · split
      · exact ⟨_, rfl⟩
      · exact ih
    · split
      · exact ⟨_, rfl⟩
      · exact ih
    · exact ih

theorem State.busOn_reader : ∃ slot, s.busOn.readers.get r = { s.readers.get r with slot := slot } := by
  unfold State.busOn
  split
  · exact State.nextExchange_reader
  · exact ⟨_, rfl⟩

theorem State.busOn_role : (s.busOn.readers.get r).role = (s.readers.get r).role := by
  obtain ⟨slot, eq⟩ := State.busOn_reader (s := s) (r := r)
  rw [eq]

theorem Reader.takeRole_role (role : Role) (rd : Reader) : (rd.takeRole role).role = role := by
  unfold Reader.takeRole
  split
  next same => exact same
  · rfl

theorem State.takeRoles_eq (s : State) : s.takeRoles =
    { s with readers := allReaders.foldl (fun rs r => vmod rs r (·.takeRole (s.setup.readers.get r))) s.readers } := by
  have fold (xs : List ReaderNo) (rs : Vector Reader 48) :
      xs.foldl (fun s r => s.setReader r (·.takeRole (s.setup.readers.get r))) { s with readers := rs } =
        { s with readers := xs.foldl (fun rs r => vmod rs r (·.takeRole (s.setup.readers.get r))) rs } := by
    induction xs generalizing rs with
    | nil => rfl
    | cons x xs ih => exact ih _
  exact fold allReaders s.readers

theorem State.takeRoles_reader : s.takeRoles.readers.get r = (s.readers.get r).takeRole (s.setup.readers.get r) := by
  rw [State.takeRoles_eq]
  exact vget_foldl_vmod (fun r : ReaderNo => Reader.takeRole (s.setup.readers.get r)) r s.readers

theorem State.takeRoles_role : (s.takeRoles.readers.get r).role = s.setup.readers.get r := by
  rw [State.takeRoles_reader]
  exact Reader.takeRole_role _ _

theorem State.foldl_markLanes (xs : List LaneNo) (s : State) :
    xs.foldl (fun s l => s.onZone (·.setLane l (·.markUnfit ((s.setup.lanes.get l).used && !s.setup.laneFits l)))) s =
      { s with zone := { s.zone with
        lanes := xs.foldl (fun ls l => vmod ls l (·.markUnfit ((s.setup.lanes.get l).used && !s.setup.laneFits l))) s.zone.lanes } } := by
  induction xs generalizing s with
  | nil => rfl
  | cons x xs ih => exact ih _

theorem State.foldl_markTills (xs : List TillNo) (s : State) :
    xs.foldl (fun s t => s.setTill t (·.markUnfit (!s.setup.tillFits t))) s =
      { s with tills := xs.foldl (fun ts t => vmod ts t (·.markUnfit (!s.setup.tillFits t))) s.tills } := by
  induction xs generalizing s with
  | nil => rfl
  | cons x xs ih => exact ih _

/-- The lanes and the tills with those that fail treated as UNUSED. -/
theorem State.markUnfit_spec (s : State) : ∃ ls ts, s.markUnfit = { s with zone := { s.zone with lanes := ls }, tills := ts } ∧
    (∀ l, ls.get l = (s.zone.lanes.get l).markUnfit ((s.setup.lanes.get l).used && !s.setup.laneFits l)) ∧
    ∀ t, ts.get t = (s.tills.get t).markUnfit (!s.setup.tillFits t) := by
  refine ⟨_, _, ?_, fun l => vget_foldl_vmod (fun l : LaneNo => Lane.markUnfit ((s.setup.lanes.get l).used && !s.setup.laneFits l)) l _,
    fun t => vget_foldl_vmod (fun t : TillNo => Till.markUnfit (!s.setup.tillFits t)) t _⟩
  unfold State.markUnfit
  rw [State.foldl_markLanes, State.foldl_markTills]
  rfl

theorem Lane.markUnfit_eq {unfit : Bool} (x : Lane) : x.markUnfit unfit =
    if x.unfit = true ∨ unfit = true then
      { x with unfit := true, committedOut := 0, committedIn := 0, abandoned := 0, unattributed := 0 }
    else x := by
  unfold Lane.markUnfit
  simp only [Bool.or_eq_true, or_comm]
  rfl

/-! ## MAINTENANCE left for an entry (R156) -/

theorem State.leaveForEvacuation_normal (mode : s.mode = .normal) : s.leaveForEvacuation = s :=
  if_neg (by simp [State.inMaintenance_of_normal mode])

/-- The working setup taken into service as it stands. -/
structure State.TakenUp (s v : State) : Prop where
  frame : v = { s with mode := .normal, readers := v.readers, zone := v.zone, tills := v.tills, bus := v.bus }
  channels : v.zone.channels = s.zone.channels
  groups : v.zone.groups = s.zone.groups
  roles : ∀ r, (v.readers.get r).role = s.setup.readers.get r
  lanes : ∀ l, v.zone.lanes.get l = (s.zone.lanes.get l).markUnfit ((s.setup.lanes.get l).used && !s.setup.laneFits l)
  tills : ∀ t, v.tills.get t = (s.tills.get t).markUnfit (!s.setup.tillFits t)

theorem State.leaveForEvacuation_maintenance (mode : s.mode = .maintenance) : s.TakenUp s.leaveForEvacuation := by
  have taken : s.leaveForEvacuation = (State.takeRoles { s with mode := .normal }).markUnfit.busOn :=
    if_pos (State.inMaintenance_of_maintenance mode)
  rw [taken]
  have roles (r : ReaderNo) : ((State.takeRoles { s with mode := .normal }).readers.get r).role = s.setup.readers.get r :=
    State.takeRoles_role
  obtain ⟨rs, took⟩ := State.takeRoles_frame { s with mode := .normal }
  rw [took] at roles ⊢
  obtain ⟨ls, ts, marked, lanes, tills⟩ := State.markUnfit_spec { s with mode := .normal, readers := rs }
  rw [marked]
  have kept (r : ReaderNo) := State.busOn_role (r := r)
    (s := { s with mode := .normal, readers := rs, zone := { s.zone with lanes := ls }, tills := ts })
  obtain ⟨rs', b, goes⟩ := State.busOn_frame
    { s with mode := .normal, readers := rs, zone := { s.zone with lanes := ls }, tills := ts }
  rw [goes] at kept ⊢
  exact ⟨rfl, rfl, rfl, fun r => (kept r).trans (roles r), lanes, tills⟩

end Sys2Proof.Machine
end

section
/-! What an entry into EVACUATION does (R103, R129, R155, R156). -/

namespace Sys2Proof.Machine

variable {s t u v w : State} {l : LaneNo} {m : Movement} {k : Known} {cause : EvacCause}

/-! ## What an entry finds of the setup taken into service -/

/-- What an entry reads of the state that MAINTENANCE leaves. -/
structure State.Readied (s v : State) : Prop where
  mode : v.mode = .normal
  setup : v.setup = s.setup
  evac : v.evac = s.evac
  clock : v.clock = s.clock
  cards : v.cards = s.cards
  link : v.link = s.link
  slots : v.SlotParts False
  tills : ∀ t, (v.tills.get t).state = (s.tills.get t).state ∧ (v.tills.get t).last = (s.tills.get t).last

theorem State.leaveForEvacuation_readied (slot : s.slotLaw) : s.Readied s.leaveForEvacuation := by
  have law := State.slotLaw_iff.mp slot
  have slots : s.SlotParts False := ⟨law.orderly, law.none, False.elim⟩
  cases mode : s.mode with
  | normal =>
    rw [State.leaveForEvacuation_normal mode]
    exact ⟨mode, rfl, rfl, rfl, rfl, rfl, slots, fun _ => ⟨rfl, rfl⟩⟩
  | maintenance =>
    obtain ⟨frame, channels, groups, -, -, tills⟩ := State.leaveForEvacuation_maintenance mode
    obtain ⟨-, phase⟩ := s.leaveForEvacuation_settled
    generalize s.leaveForEvacuation = v at frame channels groups tills phase ⊢
    have setup : v.setup = s.setup := by rw [frame]
    refine ⟨by rw [frame], setup, by rw [frame], by rw [frame], by rw [frame], by rw [frame],
      slots.of_same (fun c => by rw [setup]) (by rw [phase]) channels groups, fun t => ?_⟩
    rw [tills]
    exact ⟨rfl, rfl⟩

/-! ## The claims of an entry -/

/-- What the claims of an entry do to the state `v` that it finds, its notice sent. -/
structure State.Claimed (v u : State) : Prop where
  evac : u.evac = v.evac
  mode : u.mode = v.mode
  setup : u.setup = v.setup
  freed : ∀ c, (u.zone.channels.get c).freed v.setup c
  unused : ∀ l, v.zone.laneUsed v.setup l = false → u.zone.lanes.get l = v.zone.lanes.get l
  used : ∀ l, v.zone.laneUsed v.setup l = true → u.zone.lanes.get l = (v.zone.lanes.get l).evacuated
  abandons : ∀ l, v.zone.laneUsed v.setup l = true → ∀ m k, (v.zone.lanes.get l).state.movement = some m →
    v.known m.card = some k → k.engaged = some (.movement l) → u.known m.card = some { k with engaged := none }
  tills : ∀ t, (u.tills.get t).state = .idle ∧ (u.tills.get t).last = (v.tills.get t).suspendedLast
  link : u.link = allTills.foldl
    (fun link t => ((v.tills.get t).suspendNotice t (!v.clock.valid)).elim link (fun n => link.notify n))
    (allLanes.foldl (v.zone.tellEvac v.setup) v.link)

theorem State.entryClaims_claimed (slots : v.SlotParts False) (mode : v.mode = .normal) (evac : v.evac.state = .evacuation) :
    v.Claimed v.entryClaims := by
  obtain ⟨keeps, freed⟩ := Zone.foldl_releaseClaim allChans v.zone slots.orderly slots.none
  have alike : v.zone.LanesAlike v.setup (allChans.foldl (fun z c => z.releaseClaim v.setup c) v.zone) :=
    Zone.foldl_alike (fun _ _ => Zone.releaseClaim_alike) allChans v.zone
  have claims : v.entryClaims = allTills.foldl (fun s t => s.dropCharge t .suspended) (allLanes.foldl (fun s l => s.evacuateLane l)
      { v with zone := allChans.foldl (fun z c => z.releaseClaim v.setup c) v.zone }) := by
    rw [← State.releaseClaims_eq]
    rfl
  rw [claims]
  generalize allChans.foldl (fun z c => z.releaseClaim v.setup c) v.zone = z at keeps freed alike ⊢
  have steps : Steps False True False { v with zone := z } (allTills.foldl (fun s t => s.dropCharge t .suspended)
      (allLanes.foldl (fun s l => s.evacuateLane l) { v with zone := z })) :=
    .trans (Steps.foldl (fun s l => State.evacuateLane_steps l) allLanes _)
      (Steps.foldl (fun s t => State.dropCharge_steps t .suspended) allTills _)
  have lanes := State.evacuateLanes_claimed allLanes (List.nodup_finRange 4) { v with zone := z }
  generalize allLanes.foldl (fun s l => s.evacuateLane l) { v with zone := z } = w at steps lanes ⊢
  have tills := State.dropCharges_suspended allTills (List.nodup_finRange 8) w
  generalize allTills.foldl (fun s t => s.dropCharge t .suspended) w = u at steps tills ⊢
  obtain ⟨-, law⟩ := steps.parts (T := False) (P := False) ⟨keeps.orderly slots.orderly, fun c hc => keeps.off slots.orderly c (slots.none c hc), False.elim⟩
    ⟨fun _ => mode, False.elim, fun _ c => freed c (List.mem_finRange c), False.elim⟩
  have laned := lanes.laned
  have tilled := tills.frame
  unfold State.Laned at laned
  unfold State.Tilled at tilled
  have evacs : u.evac = v.evac := by rw [tilled, laned]
  have setups : u.setup = v.setup := by rw [tilled, laned]
  have zone : u.zone = w.zone := by rw [tilled]
  have wtills : w.tills = v.tills := by rw [laned]
  have wclock : w.clock = v.clock := by rw [laned]
  have used (l : LaneNo) : z.laneUsed v.setup l = v.zone.laneUsed v.setup l := alike.used l
  refine ⟨evacs, by rw [tilled, laned], setups, fun c => ?_, fun l unused => ?_, fun l claims => ?_, fun l claims m k moves known engaged => ?_,
    fun t => ?_, ?_⟩
  · rw [← setups]
    exact law.freed ((congrArg Evac.state evacs).trans evac) c
  · rw [zone, lanes.unused l ((used l).trans unused)]
    exact (alike l).1 unused
  · rw [zone, lanes.here l (List.mem_finRange l) ((used l).trans claims)]
    exact Lane.evacuated_congr (alike l).2
  · obtain ⟨m', moves', sameCard⟩ := LaneState.movement_windowless (alike.windowless l) moves
    rw [← sameCard] at known ⊢
    exact tills.free _ _ (lanes.abandons l (List.mem_finRange l) ((used l).trans claims) m' k moves' known engaged) (by simp)
  · rw [tills.here t (List.mem_finRange t), wtills]
    exact ⟨rfl, rfl⟩
  · have told : w.link = allLanes.foldl (v.zone.tellEvac v.setup) v.link := by
      rw [lanes.link]
      exact List.foldl_ext _ _ _ fun link l _ => Zone.tellEvac_congr (used l) (alike.windowless l) link
    rw [tills.link, told, wtills, wclock]

/-! ## The entry -/

theorem State.enterEvacuation_claimed (cause : EvacCause) (slot : s.slotLaw) :
    let v := s.leaveForEvacuation
    State.Claimed { v with
      evac := { s.evac with state := .evacuation }
      link := s.link.notify (.evacuation .evacuation s.evac.line s.evac.host cause s.openTills.length v.movingLanes.length) }
      (s.enterEvacuation cause) := by
  intro v
  have readied : s.Readied v := State.leaveForEvacuation_readied slot
  have opened : v.openTills = s.openTills := by
    unfold State.openTills
    simp only [readied.tills]
  have enters : s.enterEvacuation cause = State.entryClaims { v with
      evac := { s.evac with state := .evacuation }
      link := s.link.notify (.evacuation .evacuation s.evac.line s.evac.host cause s.openTills.length v.movingLanes.length) } := by
    rw [← opened, ← readied.link, ← readied.evac]
    rfl
  rw [enters]
  exact State.entryClaims_claimed ⟨readied.slots.orderly, readied.slots.none, False.elim⟩ readied.mode rfl

/-! ## The record of a lane that an entry claims -/

theorem Lane.evacuated_still {x : Lane} (still : x.state.movement = none) : x.evacuated = { x with state := .heldOpen x.state.returning } := by
  rw [Lane.evacuated, still]

theorem Channel.freed.release_of_used {cfg : Setup} {c : Chan} {ch : Channel} (h : ch.freed cfg c) (used : cfg.inUse c = true) : ch.release = true :=
  h.2.resolve_right fun ⟨kind, _⟩ => by simp [Setup.inUse, kind] at used

end Sys2Proof.Machine
end

section
/-! The end-of-release claims of an exit from EVACUATION (R57, R65, R157). -/

namespace Sys2Proof.Machine

variable {cfg : Setup} {c d : Chan} {g : Grp} {z z₁ z₂ z' : Zone} {st : ChanState} {a : Hold} {l : LaneNo} {s : State}

/-! ## A group with both slots taken -/

/-- Both drive slots of the group are taken. -/
def Zone.full (g : Grp) (z : Zone) : Prop := (z.groups.get g).slot0 ≠ none ∧ (z.groups.get g).slot1 ≠ none

theorem Zone.full.settle (h : z.full (groupOf c)) : z.settle cfg c = z := by
  unfold Zone.settle
  exact Zone.grants_idle 32 (.inr h)

theorem Zone.full.waitClose (h : z.full g) : (z.waitClose cfg c).full g := by
  rcases Zone.waitClose_cases cfg c z with ⟨-, e⟩ | ⟨-, e⟩ <;> rw [e]
  · exact h
  · unfold Zone.full
    by_cases same : g = groupOf c
    · subst same
      rw [Zone.setGroup_get_self]
      exact h
    · rw [Zone.setGroup_get_other _ _ _ _ same]
      exact h

theorem Zone.full.relock (h : z.full g) : (z.relock cfg c).full g := by
  unfold Zone.relock
  split
  · exact h.waitClose
  · exact h

theorem Zone.full.hold_expired (h : z.full g) : (z.hold cfg c .expired).full g := by
  by_cases shut : cfg.kind c = .gate ∨ z.doorOpen cfg c = false
  · rw [Zone.hold_expired_relock shut]
    exact h.relock
  · obtain ⟨notGate, opened⟩ := not_or.mp shut
    have opened : z.doorOpen cfg c = true := by simpa using opened
    have held : z.hold cfg c .expired = z.enter cfg c (.openHold .waitClose) := by
      unfold Zone.hold
      cases kind : cfg.kind c with
      | gate => exact absurd kind notGate
      | none => exact if_pos opened
      | cabin => exact if_pos opened
    rw [held]
    exact h

/-! ## What an end-of-release claim leaves of another channel -/

/-- What the end-of-release claims of other channels leave of channel `c`. -/
structure Zone.Bystander (cfg : Setup) (c : Chan) (z z' : Zone) : Prop where
  orderly : z'.orderly
  granted : z.Granted cfg c z'
  inhibited : (z'.groups.get (groupOf c)).inhibited = (z.groups.get (groupOf c)).inhibited
  full : z.full (groupOf c) → z'.full (groupOf c) ∧ z'.channels.get c = z.channels.get c

theorem Zone.Bystander.refl (o : z.orderly) : z.Bystander cfg c z := ⟨o, .refl z, rfl, fun h => ⟨h, rfl⟩⟩

theorem Zone.Bystander.trans (h : z.Bystander cfg c z₁) (k : z₁.Bystander cfg c z₂) : z.Bystander cfg c z₂ where
  orderly := k.orderly
  granted := h.granted.trans k.granted
  inhibited := k.inhibited.trans h.inhibited
  full taken := by
    obtain ⟨taken, same⟩ := h.full taken
    obtain ⟨taken, same'⟩ := k.full taken
    exact ⟨taken, same'.trans same⟩

theorem Zone.mark_granted (other : c ≠ d) (v : Bool) : z.Granted cfg c (z.mark d v) := by
  have same : (z.mark d v).channels.get c = z.channels.get c := Zone.setChan_get_other _ _ _ _ other
  exact ⟨fun _ => same, fun _ _ _ => rfl, rfl, by rw [same]; exact .refl _, fun a hs _ => .inl (by rw [same, hs]),
    fun hs => .inl (by rw [same, hs])⟩

theorem Zone.orderly.endRelease_granted (o : z.orderly) (other : c ≠ d) : z.Granted cfg c (z.endRelease cfg d) := by
  by_cases used : cfg.inUse d = true
  · refine (Zone.mark_granted other false).trans ?_
    rw [Zone.endRelease_eq used]
    cases released : (z.channels.get d).state with
    | released =>
      have apart : (z.mark d false).Apart d := (o.mark false).apart (by rw [Zone.mark_get, released]; rfl)
      exact (Zone.Granted.of_by .hold other).trans apart.hold.settle_granted
    | unlockWait a => exact .of_by .enter other
    | unlocking a => exact .of_by .enter other
    | _ => exact .refl _
  · have same : z.endRelease cfg d = z := if_neg used
    rw [same]
    exact .refl z

theorem Zone.orderly.endRelease_inhibited (o : z.orderly) : ((z.endRelease cfg d).groups.get g).inhibited = (z.groups.get g).inhibited := by
  by_cases used : cfg.inUse d = true
  · have within := Zone.endRelease_within o used
    by_cases same : g = groupOf d
    · subst same
      exact within.inhibited
    · exact congrArg Group.inhibited (within.groups g same)
  · have same : z.endRelease cfg d = z := if_neg used
    rw [same]

theorem Zone.orderly.endRelease_full (o : z.orderly) (full : z.full (groupOf c)) (other : c ≠ d) :
    (z.endRelease cfg d).full (groupOf c) ∧ (z.endRelease cfg d).channels.get c = z.channels.get c := by
  by_cases used : cfg.inUse d = true
  · by_cases own : groupOf c = groupOf d
    · have marked : (z.mark d false).full (groupOf d) := own ▸ full
      have same : (z.mark d false).channels.get c = z.channels.get c := Zone.setChan_get_other _ _ _ _ other
      have entered (st : ChanState) : ((z.mark d false).enter cfg d st).channels.get c = z.channels.get c :=
        (Zone.enter_get_other _ _ _ _ _ other).trans same
      rw [Zone.endRelease_eq used, own]
      cases released : (z.channels.get d).state with
      | released =>
        have held := marked.hold_expired (cfg := cfg) (c := d)
        dsimp only
        rw [held.settle]
        exact ⟨held, (Zone.hold_get_other _ _ _ _ _ other).trans same⟩
      | unlockWait a => exact ⟨marked, entered _⟩
      | unlocking a => exact ⟨marked, entered _⟩
      | _ => exact ⟨marked, same⟩
    · have within := Zone.endRelease_within o used
      have away : ¬(z.setChan d (fun ch => { ch with release := false })).near d c := fun near =>
        own (Zone.near.own (o.setChan (c := d) (f := fun ch => { ch with release := false }) rfl) near)
      refine ⟨?_, (within.channels c away).trans (Zone.setChan_get_other _ _ _ _ other)⟩
      unfold Zone.full
      rw [within.groups _ own]
      exact full
  · have same : z.endRelease cfg d = z := if_neg used
    rw [same]
    exact ⟨full, rfl⟩

theorem Zone.orderly.endRelease_bystander (o : z.orderly) (other : c ≠ d) : z.Bystander cfg c (z.endRelease cfg d) :=
  ⟨Zone.endRelease_keeps (cfg := cfg) |>.orderly o, o.endRelease_granted other, o.endRelease_inhibited, fun full => o.endRelease_full full other⟩

theorem Zone.orderly.foldl_endRelease (o : z.orderly) (cs : List Chan) (absent : c ∉ cs) :
    z.Bystander cfg c (cs.foldl (fun z c => z.endRelease cfg c) z) := by
  induction cs generalizing z with
  | nil => exact .refl o
  | cons d cs ih =>
    obtain ⟨other, absent⟩ := not_or.mp (mt List.mem_cons.mpr absent)
    have first := o.endRelease_bystander (cfg := cfg) other
    exact first.trans (ih first.orderly absent)

/-! ## The channel of the claim -/

theorem Zone.relocking_mark (v inhibited : Bool) : (z.mark c v).relocking cfg c inhibited st ↔ z.relocking cfg c inhibited st := by
  unfold Zone.relocking Zone.doorOpen
  rw [Zone.mark_get]

/-- An expired hold, in a group that may be inhibited. -/
theorem Zone.hold_expired_relocks (h : (z.hold cfg c .expired).Granted cfg c z') :
    z.relocking cfg c (z.groups.get (groupOf c)).inhibited (z'.channels.get c).state := by
  by_cases inhibited : (z.groups.get (groupOf c)).inhibited = true
  · rw [inhibited]
    refine ⟨fun cabin opened => ?_, fun shut delay => ?_, fun shut atOnce => ?_⟩
    · rw [Zone.hold_cabin_expired cabin, if_pos opened] at h
      exact h.state (by rw [Zone.enter_get_self]; rfl) rfl
    · rw [Zone.hold_expired_relock shut, Zone.relock_delayed delay] at h
      exact h.state (by rw [Zone.enter_get_self]; rfl) rfl
    · rw [Zone.hold_expired_relock shut, Zone.relock_at_once atOnce, Zone.waitClose_inhibited inhibited] at h
      exact h.state (by rw [Zone.enter_get_self]; rfl) rfl
  · rw [Bool.eq_false_iff.mpr inhibited]
    exact Zone.hold_expired_granted (Bool.eq_false_iff.mpr inhibited) h

/-- What an end-of-release claim on channel `c`, and then those on the others, do to it. -/
structure Zone.ReleaseEnded (cfg : Setup) (c : Chan) (z z' : Zone) : Prop where
  release : (z'.channels.get c).release = false
  released : (z.channels.get c).state = .released →
    z.relocking cfg c (z.groups.get (groupOf c)).inhibited (z'.channels.get c).state ∧
      (cfg.kind c = .cabin → z.doorOpen cfg c = true → (z'.channels.get c).doorHeld = some (cfg.timing.doorHeld * 1000))
  unlocking : ∀ a, (z.channels.get c).state = .unlocking a → (z'.channels.get c).state = .unlocking .expired
  full : ∀ a, (z.channels.get c).state = .unlockWait a → z.full (groupOf c) → (z'.channels.get c).state = .unlockWait .expired
  waits : ∀ a, (z.channels.get c).state = .unlockWait a → (z.channels.get c).withdrawn = false →
    (z'.channels.get c).state = .unlockWait .expired ∨ (z'.channels.get c).state = .unlocking .expired
  others : (z.channels.get c).state.waits = false → (z.channels.get c).state ≠ .released →
    (∀ a, (z.channels.get c).state ≠ .unlocking a) → (z'.channels.get c).state = (z.channels.get c).state

theorem Zone.orderly.endRelease_ended (o : z.orderly) (used : cfg.inUse c = true)
    (h : (z.endRelease cfg c).Bystander cfg c z') : z.ReleaseEnded cfg c z' := by
  have entered {st : ChanState} (e : z.endRelease cfg c = (z.mark c false).enter cfg c st) :
      ((z.endRelease cfg c).channels.get c).state = st := by rw [e, Zone.enter_get_self]; rfl
  have eq := Zone.endRelease_eq (z := z) used
  refine ⟨?_, fun hs => ?_, fun a hs => ?_, fun a hs full => ?_, fun a hs away => ?_, fun calm unreleased still => ?_⟩
  · have own := ((Zone.endRelease_within o used).inputs c).release
    rw [Zone.setChan_get_self] at own
    exact h.granted.inputs.release.trans own
  · rw [hs] at eq
    have apart : (z.mark c false).Apart c := (o.mark false).apart (by rw [Zone.mark_get, hs]; rfl)
    have granted : ((z.mark c false).hold cfg c .expired).Granted cfg c z' := by
      have settled := apart.hold (cfg := cfg) (a := .expired) |>.settle_granted (c := c) (cfg := cfg) (d := c)
      dsimp only at eq
      rw [← eq] at settled
      exact settled.trans h.granted
    refine ⟨(Zone.relocking_mark false _).mp (Zone.hold_expired_relocks granted), fun cabin opened => ?_⟩
    have open_ : (z.mark c false).doorOpen cfg c = true := by
      unfold Zone.doorOpen at opened ⊢
      rwa [Zone.mark_get]
    rw [Zone.hold_cabin_expired cabin, if_pos open_] at granted
    rw [granted.calm (by rw [Zone.enter_get_self]; rfl), Zone.enter_get_self, Zone.mark_get]
    unfold Zone.doorOpen at opened
    simp only [Bool.and_eq_true, beq_iff_eq] at opened
    obtain ⟨level, contact⟩ := opened
    have watched : cfg.watched c = true := by simp [Setup.watched, show (cfg.channels.get c).kind = .cabin from cabin, level]
    simp [Channel.enter, hs, ChanState.isOpenHold, watched, contact]
  · rw [hs] at eq
    exact h.granted.state (entered eq) rfl
  · rw [hs] at eq
    have here : (z.endRelease cfg c).full (groupOf c) := by
      rw [eq]
      exact full
    rw [(h.full here).2]
    exact entered eq
  · rw [hs] at eq
    refine h.granted.opens .expired (entered eq) ?_
    rw [eq, Zone.enter_get_self, Zone.mark_get]
    exact away
  · have marked : z.endRelease cfg c = z.mark c false := by
      rw [eq]
      cases hs : (z.channels.get c).state with
      | released => exact absurd hs unreleased
      | unlocking a => exact absurd hs (still a)
      | unlockWait a => simp [hs, ChanState.waits] at calm
      | _ => rfl
    have same : ((z.endRelease cfg c).channels.get c).state = (z.channels.get c).state := by rw [marked, Zone.mark_get]
    exact h.granted.state same calm

/-- The claim on `c` finds what the claims before it leave. -/
theorem Zone.Bystander.ended (h : z.Bystander cfg c z₁) (k : z₁.ReleaseEnded cfg c z') : z.ReleaseEnded cfg c z' where
  release := k.release
  released hs := by
    have same := h.granted.calm (by rw [hs]; rfl)
    have := k.released (by rw [same]; exact hs)
    unfold Zone.relocking Zone.doorOpen at this ⊢
    rwa [same, h.inhibited] at this
  unlocking a hs := k.unlocking a (h.granted.state hs rfl)
  full a hs full := by
    obtain ⟨full', same⟩ := h.full full
    exact k.full a (by rw [same]; exact hs) full'
  waits a hs away := by
    rcases h.granted.opens a hs away with waiting | driving
    · exact k.waits a waiting (h.granted.inputs.withdrawn.trans away)
    · exact .inr (k.unlocking a driving)
  others calm unreleased still := by
    have same := h.granted.calm calm
    exact (k.others (by rw [same]; exact calm) (by rw [same]; exact unreleased) (by rw [same]; exact still)).trans (by rw [same])

/-- All the end-of-release claims of an exit, for one channel. -/
theorem Zone.orderly.endReleases (o : z.orderly) (c : Chan) :
    (cfg.inUse c = false → z.Granted cfg c (allChans.foldl (fun z c => z.endRelease cfg c) z)) ∧
      (cfg.inUse c = true → z.ReleaseEnded cfg c (allChans.foldl (fun z c => z.endRelease cfg c) z)) := by
  obtain ⟨before, after, split⟩ := List.append_of_mem (show c ∈ allChans from List.mem_finRange c)
  have apart : allChans.Nodup := List.nodup_finRange 32
  rw [split] at apart ⊢
  obtain ⟨absent, absent'⟩ : c ∉ before ∧ c ∉ after := by
    rw [List.nodup_append, List.nodup_cons] at apart
    obtain ⟨-, ⟨absent', -⟩, disjoint⟩ := apart
    exact ⟨fun hc => disjoint c hc c (by simp) rfl, absent'⟩
  rw [List.foldl_append, List.foldl_cons]
  have first := o.foldl_endRelease (cfg := cfg) before absent
  generalize before.foldl (fun z c => z.endRelease cfg c) z = z₁ at first ⊢
  refine ⟨fun unused => ?_, fun used => ?_⟩
  · have same : z₁.endRelease cfg c = z₁ := if_neg (by simp [unused])
    rw [same]
    exact first.granted.trans (first.orderly.foldl_endRelease after absent').granted
  · have ordered : (z₁.endRelease cfg c).orderly := (Zone.endRelease_keeps (cfg := cfg)).orderly first.orderly
    exact first.ended (first.orderly.endRelease_ended used (ordered.foldl_endRelease after absent'))

/-! ## The lanes at an exit (R106) -/

theorem Zone.endRelease_alike : z.LanesAlike cfg (z.endRelease cfg c) := by
  have marked : z.LanesAlike cfg (z.setChan c (fun ch => { ch with release := false })) := .of_eq rfl
  have h := Zone.lanesAlike_stable (cfg := cfg)
  unfold Zone.endRelease
  split
  · refine marked.trans ?_
    dsimp only
    split
    · exact h.trans h.hold h.settle
    · exact h.enter _ _ _
    · exact h.enter _ _ _
    · exact h.refl _
  · exact h.refl z

/-- The lane state after an exit. -/
def LaneState.returned : LaneState → LaneState
  | .heldOpen .ready => .ready
  | .heldOpen .closed => .closed
  | st => st

/-- The record of a lane after an end-of-evacuation claim. -/
def Lane.returned (used : Bool) (x : Lane) : Lane := if used then { x with state := x.state.returned } else x

theorem State.returnLane_spec (l : LaneNo) (s : State) : ∃ ls, s.returnLane l = { s with zone := { s.zone with lanes := ls } } ∧
    ls.get l = (s.zone.lanes.get l).returned (s.zone.laneUsed s.setup l) ∧ ∀ i, i ≠ l → ls.get i = s.zone.lanes.get i := by
  have writes (st : LaneState) : ∃ ls, s.onZone (·.setLane l (fun x => { x with state := st })) = { s with zone := { s.zone with lanes := ls } } ∧
      ls.get l = { s.zone.lanes.get l with state := st } ∧ ∀ i, i ≠ l → ls.get i = s.zone.lanes.get i :=
    ⟨_, rfl, vget_vmod_self _ _ _, fun i h => vget_vmod_other _ _ _ _ h⟩
  unfold State.returnLane Lane.returned
  split
  · split
    next held =>
      rw [held]
      exact writes .ready
    next held =>
      rw [held]
      exact writes .closed
    next notReady notClosed =>
      refine ⟨_, rfl, ?_, fun _ _ => rfl⟩
      have same : (s.zone.lanes.get l).state.returned = (s.zone.lanes.get l).state := by
        unfold LaneState.returned
        split
        next held => exact absurd held notReady
        next held => exact absurd held notClosed
        · rfl
      rw [same]
  · exact ⟨_, rfl, rfl, fun _ _ => rfl⟩

theorem State.returnLanes_spec (ls : List LaneNo) (apart : ls.Nodup) (s : State) :
    ∃ v, ls.foldl (fun s l => s.returnLane l) s = { s with zone := { s.zone with lanes := v } } ∧
      ∀ i, v.get i = if i ∈ ls then (s.zone.lanes.get i).returned (s.zone.laneUsed s.setup i) else s.zone.lanes.get i := by
  induction ls generalizing s with
  | nil => exact ⟨_, rfl, fun i => by simp⟩
  | cons l ls ih =>
    obtain ⟨new, rest⟩ := List.nodup_cons.mp apart
    obtain ⟨v, first, here, others⟩ := s.returnLane_spec l
    obtain ⟨v', last, lanes⟩ := ih rest (s.returnLane l)
    rw [first] at last lanes
    refine ⟨v', by rw [List.foldl_cons, first, last], fun i => (lanes i).trans ?_⟩
    by_cases same : i = l
    · subst same
      rw [if_neg new, if_pos (by simp)]
      exact here
    · have used : Zone.laneUsed { s.zone with lanes := v } s.setup i = s.zone.laneUsed s.setup i := by
        unfold Zone.laneUsed
        rw [others i same]
      simp only [List.mem_cons, same, false_or, used, others i same]

/-! ## The exit -/

theorem State.endReleases_eq (s : State) :
    allChans.foldl (fun s c => s.onZone (·.endRelease s.setup c)) s =
      { s with zone := allChans.foldl (fun z c => z.endRelease s.setup c) s.zone } := by
  have fold (cs : List Chan) (z : Zone) : cs.foldl (fun s c => s.onZone (·.endRelease s.setup c)) { s with zone := z } =
      { s with zone := cs.foldl (fun z c => z.endRelease s.setup c) z } := by
    induction cs generalizing z with
    | nil => rfl
    | cons c cs ih => exact ih _
  exact fold allChans s.zone

/-- An exit from EVACUATION writes the evacuation state, its notice and the zone. -/
theorem State.exitEvacuation_spec (cause : EvacCause) (s : State) : ∃ ls, s.exitEvacuation cause = { s with
      evac := { s.evac with state := .recovery }
      link := s.link.notify (.evacuation .recovery s.evac.line s.evac.host cause 0 0)
      zone := { allChans.foldl (fun z c => z.endRelease s.setup c) s.zone with lanes := ls } } ∧
    ∀ l, s.zone.laneUsed s.setup l = true → ∀ r, (s.zone.lanes.get l).state = .heldOpen r →
      (ls.get l).state = (LaneState.heldOpen r).returned := by
  have alike : s.zone.LanesAlike s.setup (allChans.foldl (fun z c => z.endRelease s.setup c) s.zone) :=
    Zone.foldl_alike (fun _ _ => Zone.endRelease_alike) allChans s.zone
  have claims := State.endReleases_eq { s with
    evac := { s.evac with state := .recovery }, link := s.link.notify (.evacuation .recovery s.evac.line s.evac.host cause 0 0) }
  dsimp only at claims
  have exits : s.exitEvacuation cause = allLanes.foldl (fun s l => s.returnLane l)
      (allChans.foldl (fun s c => s.onZone (·.endRelease s.setup c)) { s with
        evac := { s.evac with state := .recovery }
        link := s.link.notify (.evacuation .recovery s.evac.line s.evac.host cause 0 0) }) := by
    unfold State.exitEvacuation State.evacNotice State.notify
    rfl
  rw [exits, claims]
  generalize allChans.foldl (fun z c => z.endRelease s.setup c) s.zone = z at alike ⊢
  obtain ⟨ls, returned, lanes⟩ := State.returnLanes_spec allLanes (List.nodup_finRange 4) { s with
      evac := { s.evac with state := .recovery }
      link := s.link.notify (.evacuation .recovery s.evac.line s.evac.host cause 0 0)
      zone := z }
  refine ⟨ls, returned, fun l used r held => ?_⟩
  have still : (z.lanes.get l).state = .heldOpen r := LaneState.windowless_heldOpen ((alike.windowless l).trans (by rw [held]; rfl))
  rw [lanes l, if_pos (show l ∈ allLanes from List.mem_finRange l)]
  unfold Lane.returned
  dsimp only
  rw [alike.used l, if_pos used, still]

end Sys2Proof.Machine
end

section
/-! The sources of evacuation: the requests, the line, and the relock test (R152 to R158). -/

namespace Sys2Proof.Machine

variable {s t u v w : State} {l : LaneNo} {m : Movement} {k : Known} {cause : EvacCause} {tag : Octet} {c : Chan}

/-! ## The evacuation state through an entry and an exit -/

theorem State.leaveForEvacuation_evac (s : State) : s.leaveForEvacuation.evac = s.evac := by
  cases mode : s.mode with
  | normal => rw [State.leaveForEvacuation_normal mode]
  | maintenance =>
    have frame := (State.leaveForEvacuation_maintenance mode).frame
    generalize s.leaveForEvacuation = v at frame ⊢
    rw [frame]

theorem State.entryClaims_evac (s : State) : s.entryClaims.evac = s.evac := by
  unfold State.entryClaims
  rw [State.releaseClaims_eq]
  dsimp only
  generalize allChans.foldl (fun z c => z.releaseClaim s.setup c) s.zone = z
  have lanes := (State.evacuateLanes_claimed allLanes (List.nodup_finRange 4) { s with zone := z }).laned
  generalize allLanes.foldl (fun s l => s.evacuateLane l) { s with zone := z } = w at lanes ⊢
  have tills := (State.dropCharges_suspended allTills (List.nodup_finRange 8) w).frame
  generalize allTills.foldl (fun s t => s.dropCharge t .suspended) w = u at tills ⊢
  unfold State.Laned at lanes
  unfold State.Tilled at tills
  rw [tills, lanes]

theorem State.enterEvacuation_evac (cause : EvacCause) (s : State) :
    (s.enterEvacuation cause).evac = { s.evac with state := .evacuation } := by
  unfold State.enterEvacuation
  rw [State.entryClaims_evac]
  exact congrArg (fun e : Evac => { e with state := .evacuation }) s.leaveForEvacuation_evac

theorem State.exitEvacuation_sources : (s.exitEvacuation cause).evac.host = s.evac.host ∧ (s.exitEvacuation cause).evac.line = s.evac.line := by
  obtain ⟨ls, exits, -⟩ := State.exitEvacuation_spec cause s
  rw [exits]
  exact ⟨rfl, rfl⟩

/-! ## The relock test (R158) -/

theorem ChanState.unsecured_iff {st : ChanState} : st.unsecured = true ↔ (∃ h, st = .openHold h) ∨ (∃ a, st = .unlockWait a) ∨
    (∃ a, st = .unlocking a) ∨ st = .lockWait ∨ st = .locking := by
  cases st <;> simp [ChanState.unsecured]

theorem Zone.secured_iff {z : Zone} {cfg : Setup} :
    z.secured cfg = true ↔ ∀ c, cfg.inUse c = true → ¬(z.channels.get c).state.unsecured = true := by
  simp only [Zone.secured, List.all_eq_true, allChans, List.mem_finRange, true_implies, Bool.or_eq_true, Bool.not_eq_true',
    Bool.not_eq_true]
  refine forall_congr' fun c => ?_
  cases cfg.inUse c <;> simp

theorem State.relockTest_secured (recovers : s.evac.state = .recovery) (secured : s.zone.secured s.setup = true) :
    s.relockTest = { s with
      evac := { s.evac with state := .normal }
      link := s.link.notify (.evacuation .normal s.evac.line s.evac.host .relocked 0 0) } := if_pos ⟨recovers, secured⟩

theorem State.relockTest_still (h : s.evac.state ≠ .recovery ∨ ¬s.zone.secured s.setup = true) : s.relockTest = s :=
  if_neg fun ⟨recovers, secured⟩ => h.elim (· recovers) (· secured)

/-- The relock test leaves the two sources. -/
theorem State.relockTest_sources (s : State) : s.relockTest.evac.line = s.evac.line ∧ s.relockTest.evac.host = s.evac.host := by
  unfold State.relockTest
  split
  · exact ⟨rfl, rfl⟩
  · exact ⟨rfl, rfl⟩

/-! ## EVACUATE SET and EVACUATE CLEAR (R153) -/

theorem serveEvacuateSet_empty (ht : tag ≠ 0) : serveEvacuateSet tag [] s =
    ({ s with evac := { s.evac with host := true } }.sourceSet .hostSet,
      ({ s with evac := { s.evac with host := true } }.sourceSet .hostSet).evacReply) := by
  rw [serveEvacuateSet, framed_serves ht (by simp)]

theorem serveEvacuateClear_empty (ht : tag ≠ 0) : serveEvacuateClear tag [] s =
    (({ s with evac := { s.evac with host := false } }.sourceCleared .hostCleared).relockTest,
      ({ s with evac := { s.evac with host := false } }.sourceCleared .hostCleared).relockTest.evacReply) := by
  rw [serveEvacuateClear, framed_serves ht (by simp)]

theorem State.evacReply_eq {host line : Bool} {state : EvacState} (hosts : s.evac.host = host) (lines : s.evac.line = line)
    (states : s.evac.state = state) :
    s.evacReply = ⟨.ok, be 1 (if host then 1 else 0) ++ be 1 (if line then 0 else 1) ++ be 1 state.code⟩ := by
  subst hosts lines states
  rfl

/-! ## The line (R152) -/

theorem State.sourceSet_entered (entered : s.evac.state = .evacuation) : s.sourceSet cause = s := if_pos entered

theorem State.sourceSet_enters (calm : s.evac.state ≠ .evacuation) : s.sourceSet cause = s.enterEvacuation cause := if_neg calm

theorem State.sourceCleared_exits (entered : s.evac.state = .evacuation) (line : s.evac.line = false) (host : s.evac.host = false) :
    s.sourceCleared cause = s.exitEvacuation cause := if_pos ⟨entered, line, host⟩

theorem State.sourceCleared_stays (h : s.evac.state ≠ .evacuation ∨ s.evac.line = true ∨ s.evac.host = true) : s.sourceCleared cause = s :=
  if_neg fun ⟨entered, line, host⟩ => by simp_all

theorem execEvacuationLineAsserted_still (h : s.evac.line = true ∨ s.phase ≠ .running) : execEvacuationLineAsserted s = .next s :=
  congrArg Host.Outcome.next (if_pos h)

theorem execEvacuationLineAsserted_takes (line : s.evac.line = false) (running : s.phase = .running) :
    execEvacuationLineAsserted s = .next ((s.lineQualified true).sourceSet .lineAsserted).closeZone :=
  congrArg Host.Outcome.next (if_neg (by simp [line, running]))

theorem execEvacuationLineCleared_still (h : s.evac.line = false ∨ s.phase ≠ .running) : execEvacuationLineCleared s = .next s :=
  congrArg Host.Outcome.next (if_pos h)

theorem execEvacuationLineCleared_takes (line : s.evac.line = true) (running : s.phase = .running) :
    execEvacuationLineCleared s = .next ((s.lineQualified false).sourceCleared .lineCleared).closeZone :=
  congrArg Host.Outcome.next (if_neg (by simp [line, running]))

end Sys2Proof.Machine

namespace Sys2Proof.Evacuation
open Sys2Proof.Machine

/-- The two requests of the host's source (R153). -/
theorem evacuateRequests (tag : Octet) (s : State) (ht : tag ≠ 0) :
    (let f : Frame := ⟨0x24, tag, []⟩
     let u := { s.arrive f with evac := { s.evac with host := true } }
     s.hasTurn f →
      (s.evac.state = .evacuation →
        exec (.evacuateSet tag []) s = .next (u.answered f ⟨.ok, be 1 1 ++ be 1 (if s.evac.line then 0 else 1) ++ be 1 1⟩)) ∧
      (s.evac.state ≠ .evacuation →
        exec (.evacuateSet tag []) s = .next ((u.enterEvacuation .hostSet).answered f
          ⟨.ok, be 1 1 ++ be 1 (if s.evac.line then 0 else 1) ++ be 1 1⟩))) ∧
    (let f : Frame := ⟨0x25, tag, []⟩
     let u := { s.arrive f with evac := { s.evac with host := false } }
     let x := (u.exitEvacuation .hostCleared).relockTest
     s.hasTurn f →
      (s.evac.state = .evacuation → s.evac.line = true →
        exec (.evacuateClear tag []) s = .next (u.answered f ⟨.ok, be 1 0 ++ be 1 0 ++ be 1 1⟩)) ∧
      (s.evac.state ≠ .evacuation →
        exec (.evacuateClear tag []) s = .next (u.relockTest.answered f
          ⟨.ok, be 1 0 ++ be 1 (if s.evac.line then 0 else 1) ++ be 1 u.relockTest.evac.state.code⟩)) ∧
      (s.evac.state = .evacuation → s.evac.line = false →
        exec (.evacuateClear tag []) s = .next (x.answered f ⟨.ok, be 1 0 ++ be 1 1 ++ be 1 x.evac.state.code⟩))) := by
  constructor
  · intro f u turn
    have arrived : { s.arrive f with evac := { (s.arrive f).evac with host := true } } = u := by rw [State.arrive_evac]
    have served {v : State} (e : u.sourceSet .hostSet = v) (states : v.evac = { u.evac with state := .evacuation }) :
        exec (.evacuateSet tag []) s = .next (v.answered f ⟨.ok, be 1 1 ++ be 1 (if s.evac.line then 0 else 1) ++ be 1 1⟩) := by
      refine next_request turn ((serveEvacuateSet_empty ht).trans ?_)
      rw [arrived, e]
      exact congrArg (Prod.mk v) (State.evacReply_eq (congrArg Evac.host states) (congrArg Evac.line states) (congrArg Evac.state states))
    exact ⟨fun entered => served (State.sourceSet_entered entered) (by simp [u, ← entered]),
      fun calm => served (State.sourceSet_enters calm) (State.enterEvacuation_evac ..)⟩
  · intro f u x turn
    have arrived : { s.arrive f with evac := { (s.arrive f).evac with host := false } } = u := by rw [State.arrive_evac]
    have served {v : State} (e : u.sourceCleared .hostCleared = v) (host : v.evac.host = false) (line : v.evac.line = s.evac.line) :
        exec (.evacuateClear tag []) s = .next (v.relockTest.answered f
          ⟨.ok, be 1 0 ++ be 1 (if s.evac.line then 0 else 1) ++ be 1 v.relockTest.evac.state.code⟩) := by
      refine next_request turn ((serveEvacuateClear_empty ht).trans ?_)
      rw [arrived, e]
      obtain ⟨lines, hosts⟩ := v.relockTest_sources
      exact congrArg (Prod.mk v.relockTest) (State.evacReply_eq (hosts.trans host) (lines.trans line) rfl)
    refine ⟨fun entered line => ?_, fun calm => served (State.sourceCleared_stays (.inl calm)) rfl rfl, fun entered line => ?_⟩
    · have stays := served (State.sourceCleared_stays (.inr (.inl line))) rfl rfl
      have still : u.relockTest = u := State.relockTest_still (.inl (by simp [u, entered]))
      rw [still] at stays
      simpa [line, u, entered, EvacState.code] using stays
    · obtain ⟨host, lines⟩ : (u.exitEvacuation .hostCleared).evac.host = false ∧ (u.exitEvacuation .hostCleared).evac.line = s.evac.line :=
        State.exitEvacuation_sources
      have cleared := served (State.sourceCleared_exits entered line rfl) host lines
      rw [line, if_neg Bool.false_ne_true] at cleared
      rw [show x = (u.exitEvacuation .hostCleared).relockTest from rfl]
      exact cleared

/-- The two events of the line (R152, R154). -/
theorem evacuationLine (s : State) :
    let low := { s with pins := { s.pins with lineLow := true }, evac := { s.evac with line := true, lineCount := 0 } }
    let high := { s with pins := { s.pins with lineLow := false }, evac := { s.evac with line := false, lineCount := 0 } }
    (s.evac.line = true ∨ s.phase ≠ .running → exec .evacuationLineAsserted s = .next s) ∧
    (s.evac.line = false → s.phase = .running →
      (s.evac.state = .evacuation → exec .evacuationLineAsserted s = .next low.closeZone) ∧
      (s.evac.state ≠ .evacuation → exec .evacuationLineAsserted s = .next (low.enterEvacuation .lineAsserted).closeZone)) ∧
    (s.evac.line = false ∨ s.phase ≠ .running → exec .evacuationLineCleared s = .next s) ∧
    (s.evac.line = true → s.phase = .running →
      (s.evac.state = .evacuation → s.evac.host = false →
        exec .evacuationLineCleared s = .next (high.exitEvacuation .lineCleared).closeZone) ∧
      (s.evac.state ≠ .evacuation ∨ s.evac.host = true → exec .evacuationLineCleared s = .next high.closeZone)) := by
  intro low high
  refine ⟨execEvacuationLineAsserted_still, fun line running => ?asserted, execEvacuationLineCleared_still, fun line running => ?cleared⟩
  case asserted =>
    have taken {u : State} (e : low.sourceSet .lineAsserted = u) : exec .evacuationLineAsserted s = .next u.closeZone := by
      subst e
      exact execEvacuationLineAsserted_takes line running
    exact ⟨fun entered => taken (State.sourceSet_entered entered), fun calm => taken (State.sourceSet_enters calm)⟩
  case cleared =>
    have taken {u : State} (e : high.sourceCleared .lineCleared = u) : exec .evacuationLineCleared s = .next u.closeZone := by
      subst e
      exact execEvacuationLineCleared_takes line running
    exact ⟨fun entered host => taken (State.sourceCleared_exits entered rfl host),
      fun stays => taken (State.sourceCleared_stays (stays.imp_right .inr))⟩

end Sys2Proof.Evacuation
end

section
/-! The sources of evacuation, with what an entry and an exit do (R152 to R158). -/

namespace Sys2Proof.Machine

variable {s : State} {l : LaneNo} {m : Movement} {k : Known} {cause : EvacCause} {x : Lane} {c : Chan}

/-- The record of a USED lane after an entry, by its state (R103). -/
theorem Lane.evacuated_cases (x : Lane) :
    (x.state = .ready → x.evacuated = { x with state := .heldOpen .ready }) ∧
    (x.state = .closed → x.evacuated = { x with state := .heldOpen .closed }) ∧
    (∀ r, x.state = .heldOpen r → x.evacuated = x) ∧
    (∀ m, x.state = .released m → x.evacuated = { x with state := .heldOpen .ready, abandoned := satInc x.abandoned }) ∧
    (∀ m, x.state = .closing m → x.evacuated = { x with state := .heldOpen .closed, abandoned := satInc x.abandoned }) := by
  refine ⟨fun h => ?_, fun h => ?_, fun r h => ?_, fun m h => ?_, fun m h => ?_⟩
  · rw [Lane.evacuated, h] <;> rfl
  · rw [Lane.evacuated, h] <;> rfl
  · rw [Lane.evacuated_still (by rw [h]; rfl), h, LaneState.returning, ← h]
  · rw [Lane.evacuated, h] <;> rfl
  · rw [Lane.evacuated, h] <;> rfl

/-- A lane that is treated as UNUSED at an entry (R156), as the setup says it. -/
theorem Lane.markUnfit_setup (cfg : Setup) (l : LaneNo) (x : Lane) : x.markUnfit ((cfg.lanes.get l).used && !cfg.laneFits l) =
    if x.unfit = true ∨ (cfg.lanes.get l).used = true ∧ cfg.laneFits l = false then
      { x with unfit := true, committedOut := 0, committedIn := 0, abandoned := 0, unattributed := 0 }
    else x := by
  rw [Lane.markUnfit_eq]
  simp only [Bool.and_eq_true, Bool.not_eq_true']

theorem Till.markUnfit_setup (cfg : Setup) (t : TillNo) (x : Till) : x.markUnfit (!cfg.tillFits t) =
    { x with unfit := decide (x.unfit = true ∨ cfg.tillFits t = false) } := by
  unfold Till.markUnfit
  cases cfg.tillFits t <;> cases x.unfit <;> rfl

/-- The relock test and the close of an event, by the channels in use (R158). -/
theorem State.relockTest_cases (s : State) :
    let loose := fun st : ChanState => (∃ h, st = .openHold h) ∨ (∃ a, st = .unlockWait a) ∨ (∃ a, st = .unlocking a) ∨
      st = .lockWait ∨ st = .locking
    let secured := ∀ c, s.setup.inUse c = true → ¬loose (s.zone.channels.get c).state
    (s.evac.state = .recovery → secured →
      s.relockTest = { s with
        evac := { s.evac with state := .normal }
        link := s.link.notify (.evacuation .normal s.evac.line s.evac.host .relocked 0 0) }) ∧
    (s.evac.state ≠ .recovery ∨ ¬secured → s.relockTest = s) ∧
    s.closeZone = s.relockTest.close := by
  intro loose secured
  have iff : s.zone.secured s.setup = true ↔ secured := by
    rw [Zone.secured_iff]
    simp only [ChanState.unsecured_iff]
    rfl
  exact ⟨fun recovers h => State.relockTest_secured recovers (iff.mpr h), fun h => State.relockTest_still (h.imp_right (mt iff.mp)), rfl⟩

end Sys2Proof.Machine

namespace Sys2Proof.Evacuation
open Sys2Proof.Machine

/-- Settles O57: the requests and the line, then the claims of an entry and of an exit, and the relock test. -/
theorem theSourcesOfEvacuation : Obligations.TheSourcesOfEvacuation := by
  refine ⟨evacuateRequests, evacuationLine, fun cause s slot => ⟨?entry, ?exit⟩, State.relockTest_cases⟩
  case entry =>
    have claimed := State.enterEvacuation_claimed cause slot
    have readied := State.leaveForEvacuation_readied slot
    have normal := State.leaveForEvacuation_normal (s := s)
    have taken := State.leaveForEvacuation_maintenance (s := s)
    generalize s.enterEvacuation cause = u at claimed ⊢
    generalize s.leaveForEvacuation = v at claimed readied normal taken ⊢
    dsimp only at claimed ⊢
    have setup : v.setup = s.setup := readied.setup
    have lanes (l : LaneNo) : v.zone.laneUsed v.setup l = v.zone.laneUsed s.setup l := by rw [setup]
    refine ⟨claimed.evac, claimed.mode.trans readied.mode, claimed.setup.trans setup, fun c => ?channels,
      normal, fun mode => ?maintenance, ?lanes, fun t => ?tills, ?link⟩
    case channels =>
      have freed := claimed.freed c
      refine ⟨freed.1, fun inUse => freed.release_of_used ?_⟩
      rw [setup]
      exact inUse
    case maintenance =>
      have taken := taken mode
      exact ⟨taken.frame, taken.channels, taken.groups, taken.roles, fun l => (taken.lanes l).trans (Lane.markUnfit_setup ..),
        fun t => (taken.tills t).trans (Till.markUnfit_setup ..)⟩
    case lanes =>
      intro l
      refine ⟨fun unused => claimed.unused l ((lanes l).trans (Bool.eq_false_iff.mpr unused)), fun usedl => ?_⟩
      have record : u.zone.lanes.get l = (v.zone.lanes.get l).evacuated := claimed.used l ((lanes l).trans usedl)
      obtain ⟨ready, closed, held, released, closing⟩ := Lane.evacuated_cases (v.zone.lanes.get l)
      rw [record]
      refine ⟨ready, closed, held, released, closing, fun m k moves known engaged => ?_⟩
      refine claimed.abandons l ((lanes l).trans usedl) m k ?_ ((State.known_congr readied.cards m.card).trans known) engaged
      rcases moves with moves | moves
      · exact congrArg LaneState.movement moves
      · exact congrArg LaneState.movement moves
    case tills =>
      obtain ⟨idle, last⟩ := claimed.tills t
      obtain ⟨state, was⟩ := readied.tills t
      refine ⟨idle, last.trans ?_⟩
      unfold Till.suspendedLast
      dsimp only
      rw [state, was] <;> (cases (s.tills.get t).state <;> rfl)
    case link =>
      refine claimed.link.trans ?_
      dsimp only
      congr 1
      · funext link t
        unfold Till.suspendNotice
        rw [(readied.tills t).1, readied.clock]
        cases (s.tills.get t).state <;> rfl
      · congr 1
        funext link l
        unfold Zone.tellEvac
        rw [lanes l]
        split
        · cases (v.zone.lanes.get l).state <;> rfl
        · rfl
  case exit =>
    intro u
    obtain ⟨ls, exits, lanes⟩ := State.exitEvacuation_spec cause s
    have ordered := (State.slotLaw_iff.mp slot).orderly
    have off := (State.slotLaw_iff.mp slot).none
    have zone : u.zone.channels = (allChans.foldl (fun z c => z.endRelease s.setup c) s.zone).channels := by
      rw [show u = _ from exits]
    have lane (l : LaneNo) : u.zone.lanes.get l = ls.get l := by rw [show u = _ from exits]
    refine ⟨by rw [show u = _ from exits], by rw [show u = _ from exits], by rw [show u = _ from exits], fun c => ?channels,
      fun l used => ⟨fun held => ?_, fun held => ?_⟩, by rw [show u = _ from exits]⟩
    case channels =>
      intro ch ch' g
      obtain ⟨granted, ended⟩ := ordered.endReleases (cfg := s.setup) c
      have channel : ch' = (allChans.foldl (fun z c => z.endRelease s.setup c) s.zone).channels.get c := congrArg (·.get c) zone
      rw [channel]
      generalize allChans.foldl (fun z c => z.endRelease s.setup c) s.zone = z at granted ended
      refine ⟨fun unused => ?_, fun used => ?_⟩
      · have isOff : ch.state = .off := off c (by simpa [Setup.inUse] using unused)
        exact (granted unused).calm (by rw [show (s.zone.channels.get c).state = _ from isOff]; rfl)
      · obtain ⟨release, released, unlocking, full, waits, others⟩ := ended used
        exact ⟨release, released, unlocking, fun a hs => ⟨fun taken0 taken1 => full a hs ⟨taken0, taken1⟩, waits a hs⟩, others⟩
    · rw [lane]
      exact lanes l used .ready held
    · rw [lane]
      exact lanes l used .closed held

end Sys2Proof.Evacuation
end

section
/-! The setup save, MAINTENANCE ENTER and MAINTENANCE LEAVE (R193 to R195). -/

namespace Sys2Proof.Machine

variable {s : State} {tag : Octet} {r : ReaderNo}

/-! ## SETUP SAVE and its end (R195) -/

theorem serveSetupSave_empty (ht : tag ≠ 0) : serveSetupSave tag [] s =
    if s.save ≠ none then (s, ⟨.busy, []⟩) else ({ s with save := some ⟨s.setup, 250⟩ }, ⟨.ok, []⟩) := by
  rw [serveSetupSave, framed_serves ht (by simp)]
  simp only [Option.isSome_iff_ne_none]
  rfl

theorem execSetupSaveEnd_none (b : Bool) (idle : s.save = none) : execSetupSaveEnd b s = .next s := by
  rw [execSetupSaveEnd, idle]

theorem execSetupSaveEnd_some (b : Bool) {v : Save} (saves : s.save = some v) :
    execSetupSaveEnd b s = .next { s with
      save := none, store := ⟨v.copy, if b then .agrees else .fails⟩, link := s.link.notify (.setupSaved b) }.close := by
  rw [execSetupSaveEnd, saves] <;> rfl

/-! ## MAINTENANCE ENTER (R193) -/

/-- The part is still: what MAINTENANCE ENTER asks. -/
def State.still (s : State) : Prop :=
  (∀ c, s.setup.inUse c = true → (s.zone.channels.get c).state = .locked ∨ (s.zone.channels.get c).state = .fault ∨
      ∃ t, (s.zone.channels.get c).state = .inhibited t) ∧
    (∀ l, s.zone.laneUsed s.setup l = true → (s.zone.lanes.get l).state = .closed) ∧
    (∀ t, s.tillUsed t = true → (s.tills.get t).state = .idle) ∧ s.evac.state = .normal ∧ pendingEntries s.cards = []

theorem ChanState.still_iff {st : ChanState} : st.still = true ↔ st = .locked ∨ st = .fault ∨ ∃ t, st = .inhibited t := by
  cases st <;> simp [ChanState.still]

theorem notTrue_or_iff {a : Bool} {p : Prop} : ((!a) = true ∨ p) ↔ (a = true → p) := by
  cases a <;> simp

theorem State.canEnterMaintenance_iff : s.canEnterMaintenance = true ↔ s.still := by
  simp only [State.canEnterMaintenance, State.still, Bool.and_eq_true, List.all_eq_true, Bool.or_eq_true, notTrue_or_iff,
    ChanState.still_iff, beq_iff_eq, TillState.isIdle_iff, List.isEmpty_iff, allChans, allLanes, allTills, List.mem_finRange,
    true_implies, and_assoc]

theorem State.still_arrive (f : Frame) : (s.arrive f).still ↔ s.still := by
  simp [State.still, State.tillUsed]

section
variable (ht : tag ≠ 0)
include ht

theorem serveMaintenanceEnter_maintenance (mode : s.mode = .maintenance) : serveMaintenanceEnter tag [] s = (s, ⟨.ok, []⟩) := by
  rw [serveMaintenanceEnter, framed_serves ht (by simp), if_pos (State.inMaintenance_of_maintenance mode)]
  rfl

theorem serveMaintenanceEnter_normal (mode : s.mode = .normal) : serveMaintenanceEnter tag [] s =
    if s.canEnterMaintenance then ({ s with mode := .maintenance }, ⟨.ok, []⟩) else (s, ⟨.state, []⟩) := by
  rw [serveMaintenanceEnter, framed_serves ht (by simp), if_neg (by simp [State.inMaintenance_of_normal mode])]
  rfl

/-! ## MAINTENANCE LEAVE (R194) -/

theorem serveMaintenanceLeave_normal (mode : s.mode = .normal) : serveMaintenanceLeave tag [] s = (s, ⟨.state, []⟩) := by
  rw [serveMaintenanceLeave, framed_serves ht (by simp), if_pos (by simp [State.inMaintenance_of_normal mode])]
  rfl

theorem serveMaintenanceLeave_maintenance (mode : s.mode = .maintenance) : serveMaintenanceLeave tag [] s =
    if s.setup.valid = false then (s, ⟨.setupInvalid, []⟩) else (s.leaveMaintenance, ⟨.ok, []⟩) := by
  rw [serveMaintenanceLeave, framed_serves ht (by simp), if_neg (by simp [State.inMaintenance_of_maintenance mode])]
  simp only [Bool.not_eq_true']
  rfl

end

theorem State.foldl_clearLanes (xs : List LaneNo) (s : State) :
    xs.foldl (fun s l => s.onZone (·.setLane l (fun x => { x with unfit := false }))) s =
      { s with zone := { s.zone with lanes := xs.foldl (fun ls l => vmod ls l (fun x => { x with unfit := false })) s.zone.lanes } } := by
  induction xs generalizing s with
  | nil => rfl
  | cons x xs ih => exact ih _

theorem State.foldl_clearTills (xs : List TillNo) (s : State) :
    xs.foldl (fun s t => s.setTill t (fun x => { x with unfit := false })) s =
      { s with tills := xs.foldl (fun ts t => vmod ts t (fun x => { x with unfit := false })) s.tills } := by
  induction xs generalizing s with
  | nil => rfl
  | cons x xs ih => exact ih _

/-- Every lane and every till is in use as its record says again. -/
theorem State.clearUnfit_spec (s : State) : ∃ ls ts, s.clearUnfit = { s with zone := { s.zone with lanes := ls }, tills := ts } ∧
    (∀ l, ls.get l = { s.zone.lanes.get l with unfit := false }) ∧ ∀ t, ts.get t = { s.tills.get t with unfit := false } := by
  refine ⟨_, _, ?_, fun l => vget_foldl_vmod (fun _ (x : Lane) => { x with unfit := false }) l _,
    fun t => vget_foldl_vmod (fun _ (x : Till) => { x with unfit := false }) t _⟩
  unfold State.clearUnfit
  rw [State.foldl_clearLanes, State.foldl_clearTills]
  rfl

theorem Reader.takeRole_same {rd : Reader} {role : Role} (same : rd.role = role) : rd.takeRole role = rd := if_pos same

theorem Reader.takeRole_new {rd : Reader} {role : Role} (new : rd.role ≠ role) : rd.takeRole role = { rd with
    role := role, enrol := if role = .none then .unassigned else .absent, offered := none, misses := 0, tamper := false, slot := none } :=
  if_neg new

/-- A validated setup taken into service (R171, R194). -/
theorem State.leaveMaintenance_spec (s : State) :
    ∃ rs ls ts b, s.leaveMaintenance = { s with
        mode := .normal, readers := rs, zone := { s.zone with lanes := ls }, tills := ts, bus := b } ∧
      (∀ l, ls.get l = { s.zone.lanes.get l with unfit := false }) ∧ (∀ t, ts.get t = { s.tills.get t with unfit := false }) ∧
      ∀ r, ∃ slot, rs.get r = { (s.readers.get r).takeRole (s.setup.readers.get r) with slot := slot } := by
  obtain ⟨rs, took⟩ := State.takeRoles_frame { s with mode := .normal }
  have readers (r : ReaderNo) : rs.get r = (s.readers.get r).takeRole (s.setup.readers.get r) := by
    have := State.takeRoles_reader (s := { s with mode := .normal }) (r := r)
    rw [took] at this
    exact this
  obtain ⟨ls, ts, cleared, lanes, tills⟩ := State.clearUnfit_spec { s with mode := .normal, readers := rs }
  have slots := fun r => State.busOn_reader (r := r)
    (s := { s with mode := .normal, readers := rs, zone := { s.zone with lanes := ls }, tills := ts })
  obtain ⟨rs', b, goes⟩ := State.busOn_frame
    { s with mode := .normal, readers := rs, zone := { s.zone with lanes := ls }, tills := ts }
  rw [goes] at slots
  refine ⟨rs', ls, ts, b, ?_, lanes, tills, fun r => ?_⟩
  · rw [State.leaveMaintenance, took, cleared]
    exact goes
  · obtain ⟨slot, eq⟩ := slots r
    exact ⟨slot, eq.trans (by rw [← readers])⟩

end Sys2Proof.Machine

namespace Sys2Proof.Maintenance
open Sys2Proof.Machine

/-- Settles O59: the save and its end, then the two maintenance requests. -/
theorem savesAndMaintenance : Obligations.SavesAndMaintenance := by
  intro tag s ht
  refine ⟨?save, fun b => ⟨execSetupSaveEnd_none b, fun v => execSetupSaveEnd_some b⟩, ?enter, ?leave⟩
  case save =>
    intro f u turn
    have save : u.save = s.save := by simp [u]
    have setup : u.setup = s.setup := by simp [u]
    refine ⟨fun saves => ?_, fun idle => ?_⟩
    · exact next_request turn ((serveSetupSave_empty ht).trans (if_pos (by rw [State.arrive_save]; exact saves)))
    · have served := (serveSetupSave_empty (s := u) ht).trans (if_neg (by simp [save, idle]))
      exact next_request turn (served.trans (congrArg (fun cfg => ({ u with save := some ⟨cfg, 250⟩ }, _)) setup))
  case enter =>
    intro f u still turn
    have mode : u.mode = s.mode := by simp [u]
    have stands : u.canEnterMaintenance = true ↔ still := State.canEnterMaintenance_iff.trans (State.still_arrive f)
    exact ⟨fun already => next_request turn (serveMaintenanceEnter_maintenance ht (mode.trans already)),
      fun normal h => next_request turn ((serveMaintenanceEnter_normal ht (mode.trans normal)).trans (if_pos (stands.mpr h))),
      fun normal h => next_request turn ((serveMaintenanceEnter_normal ht (mode.trans normal)).trans (if_neg (mt stands.mp h)))⟩
  case leave =>
    intro f u turn
    have mode : u.mode = s.mode := by simp [u]
    have setup : u.setup = s.setup := by simp [u]
    refine ⟨fun normal => next_request turn (serveMaintenanceLeave_normal ht (mode.trans normal)),
      fun maintenance invalid => next_request turn ((serveMaintenanceLeave_maintenance ht (mode.trans maintenance)).trans
        (if_pos ((congrArg Setup.valid setup).trans invalid))), fun maintenance valid => ?_⟩
    have served := (serveMaintenanceLeave_maintenance ht (mode.trans maintenance)).trans
      (if_neg (by rw [setup, valid]; exact Bool.noConfusion))
    obtain ⟨rs, ls, ts, b, leaves, lanes, tills, readers⟩ := u.leaveMaintenance_spec
    rw [leaves] at served
    refine ⟨_, next_request turn served, rfl, by simp [u], by simp [u], fun l => (lanes l).trans (by simp [u]),
      fun i => (tills i).trans (by simp [u]), fun r => ?_⟩
    obtain ⟨slot, reader⟩ := readers r
    rw [setup, show u.readers = s.readers by simp [u]] at reader
    dsimp only
    rw [reader]
    exact ⟨Reader.takeRole_role _ _, fun same => by rw [Reader.takeRole_same same], fun new => by rw [Reader.takeRole_new new]; exact ⟨rfl, rfl, rfl⟩⟩

end Sys2Proof.Maintenance
end

section
/-! Starts (R67, R131, R151, R191, R196 to R199). -/

namespace Sys2Proof.Machine

variable {s t : State} {cfg : Setup} {store : SetupStore} {info : StartInfo} {kind : StartKind} {kept : Bool} {d : StoreDamage}

/-! ## What a start leaves -/

/-- Every block in its state after reset, with the working setup `cfg`. -/
def State.Started (cfg : Setup) (s t : State) : Prop :=
  t.link = { Link.reset with rate := strapRate s.pins.strap1 s.pins.strap2, hostReady := s.pins.hostReady } ∧
    t.setup = cfg ∧ t.alarms = ⟨[], false⟩ ∧ t.deadline = .none ∧ t.authority = .standalone ∧
    t.evac = ⟨false, 0, false, .normal⟩ ∧ t.save = none ∧ t.bus = Bus.reset ∧ t.retention = ⟨true, true⟩ ∧
    (∀ i, t.tills.get i = ⟨.idle, none, false⟩) ∧ (∀ l, t.zone.lanes.get l = ⟨.closed, 0, 0, 0, 0, false⟩) ∧
    (∀ g, t.zone.groups.get g =
      ⟨none, none, [], if cfg.policy.railMask then .good else .undervoltage, 0, false, false⟩) ∧
    ∀ r, t.readers.get r =
      { Reader.reset with
        role := cfg.readers.get r, enrol := if cfg.readers.get r = .none then .unassigned else .absent }

/-- The retained collections are those of a cold start. -/
def State.Lost (t : State) : Prop :=
  t.cards = [] ∧ t.tally = ⟨0, 0, 0, 0, 0, 0⟩ ∧ t.folios = [] ∧ t.journal = ⟨[], 1, false⟩ ∧
    t.clock = ⟨0, false, 0, 0⟩ ∧ ∀ c, t.zone.channels.get c = Channel.reset

/-- The retained collections are those of `s`. -/
def State.Kept (s t : State) : Prop :=
  (∀ i, tget t.cards i = (tget s.cards i).bind Entry.kept) ∧ t.tally = recountTally t.cards ∧
    (∀ i, tget t.folios i = (tget s.folios i).map fun x => { x with refs := refsTo t.cards i }) ∧
    t.journal = s.journal ∧ t.clock = ⟨s.clock.time, s.clock.valid, 0, 0⟩ ∧
    ∀ c, t.zone.channels.get c = { Channel.reset with lockout := (s.zone.channels.get c).lockout }

theorem State.restarted_channel (c : Chan) : (s.restarted cfg store info).zone.channels.get c = Channel.reset := by
  obtain ⟨gs, zone, -⟩ := s.restarted_zone cfg store info
  rw [zone]
  simp [State.reset, Vector.get_eq_getElem]

theorem State.restarted_group (g : Grp) : (s.restarted cfg store info).zone.groups.get g =
    ⟨none, none, [], if cfg.policy.railMask then .good else .undervoltage, 0, false, false⟩ := by
  have groups := congrArg (fun z : Zone => z.groups.get g)
    (Zone.foldl_setGroup (fun _ x => { x with rail := if cfg.policy.railMask then .good else .undervoltage }) (List.finRange 4) State.reset.zone)
  refine groups.trans ?_
  dsimp only
  rw [vget_foldl_vmod]
  simp [State.reset, Vector.get_eq_getElem, Group.reset]

theorem State.restarted_reader (r : ReaderNo) : (s.restarted cfg store info).readers.get r = Reader.start (cfg.readers.get r) :=
  vget_foldl_vmod (fun r _ => Reader.start (cfg.readers.get r)) r State.reset.readers

theorem State.restarted_started : s.Started cfg (s.restarted cfg store info) := by
  refine ⟨rfl, rfl, rfl, rfl, rfl, rfl, rfl, rfl, rfl, fun i => ?_, fun l => ?_, State.restarted_group, State.restarted_reader⟩
  · exact Vector.getElem_replicate _
  · rw [State.restarted_lanes]
    simp [State.reset, Vector.get_eq_getElem, Lane.reset]

theorem State.restarted_lost : (s.restarted cfg store info).Lost := ⟨rfl, rfl, rfl, rfl, rfl, State.restarted_channel⟩

theorem State.keep_started (h : s.Started cfg t) : s.Started cfg (State.keep s t) := by
  obtain ⟨cs, zone, -⟩ := State.keep_zone s t
  obtain ⟨link, setup, alarms, deadline, authority, evac, save, bus, retention, tills, lanes, groups, readers⟩ := h
  refine ⟨link, setup, alarms, deadline, authority, evac, save, bus, retention, tills, ?_, ?_, readers⟩
  · rw [zone]; exact lanes
  · rw [zone]; exact groups

theorem State.keep_kept (rising : Rising s.cards) (h : t.Lost) : s.Kept (State.keep s t) := by
  obtain ⟨cs, zone, channels⟩ := State.keep_zone s t
  obtain ⟨-, -, -, -, clock, reset⟩ := h
  refine ⟨keptCards_tget rising, rfl, keptFolios_tget _ _, rfl, ?_, fun c => ?_⟩
  · unfold State.keep
    dsimp only
    rw [clock]
  · rw [zone, ← reset c]
    exact channels c

/-- A restart that keeps the retained collections or loses them. -/
theorem State.restart_or_keep (rising : kept = true → Rising s.cards) :
    let fresh := s.restarted cfg store info
    let t := if kept then State.keep s fresh else fresh
    s.Started cfg t ∧ (kept = true → s.Kept t) ∧ (kept = false → t.Lost) ∧ t.phase = .starting info 0 0 ∧ t.store = store := by
  intro fresh t
  have started : s.Started cfg fresh := State.restarted_started
  cases kept with
  | true => exact ⟨State.keep_started started, fun _ => State.keep_kept (rising rfl) State.restarted_lost, by simp, rfl, rfl⟩
  | false => exact ⟨started, by simp, fun _ => State.restarted_lost, rfl, rfl⟩

/-! ## The setup store at a start (R196) -/

/-- What the load finds, as the statement has it. -/
theorem State.storeFound_check (d : StoreDamage) (s : State) : (s.storeFound d).check =
    if s.save ≠ none then .fails else match d, s.store.check with
      | .none, x => x
      | .oneBit, .agrees => .oneBit
      | _, _ => .fails := by
  unfold State.storeFound StoreCheck.damaged
  cases s.save <;> rfl

theorem SetupStore.load_eq (x : SetupStore) : x.load = if x.check = .fails then Setup.default else x.image := by
  unfold SetupStore.load
  cases x.check <;> rfl

/-- A start that loads the setup store. -/
theorem State.loadStart_spec (kind : StartKind) (kept : Bool) (d : StoreDamage) (rising : kept = true → Rising s.cards) :
    let store := s.storeFound d
    let t := s.loadStart kind kept d
    s.Started store.load t ∧ (kept = true → s.Kept t) ∧ (kept = false → t.Lost) ∧
      t.phase = .starting ⟨kind, kept, store.check.result, 0, false⟩ 0 0 ∧ t.store = store :=
  State.restart_or_keep rising

/-! ## RESTART (R199) -/

/-- A RESTART at its turn. -/
theorem execRestart_turn {tag : Octet} {body : List Octet} (turn : s.hasTurn ⟨0x38, tag, body⟩) :
    execRestart tag body s = .next ((s.arrive ⟨0x38, tag, body⟩).takeRestart ⟨0x38, tag, body⟩) :=
  congrArg _ (if_pos (State.arrive_has_turn turn))

end Sys2Proof.Machine
end

section
/-! The sweep of start-up, for each of the channels (R67, R198). -/

namespace Sys2Proof.Machine

variable {cfg : Setup} {pins : Pins} {c d : Chan} {g : Grp} {z z₁ z' w : Zone} {st : ChanState} {a : Hold} {release : Bool} {s : State}

/-! ## What the sweep of another channel leaves of a channel -/

/-- What the sweep of other channels leaves of channel `c` and of its group. -/
structure Zone.Beside (cfg : Setup) (c : Chan) (z z' : Zone) : Prop where
  orderly : z'.orderly
  granted : z.Granted cfg c z'
  inhibited : (z'.groups.get (groupOf c)).inhibited = (z.groups.get (groupOf c)).inhibited

theorem Zone.Beside.refl (o : z.orderly) : z.Beside cfg c z := ⟨o, .refl z, rfl⟩

theorem Zone.Beside.trans (h : z.Beside cfg c z₁) (k : z₁.Beside cfg c z') : z.Beside cfg c z' :=
  ⟨k.orderly, h.granted.trans k.granted, k.inhibited.trans h.inhibited⟩

/-- An operation of another channel alone, with its arbiter in order. -/
theorem Zone.Beside.of_by (h : z.By cfg d z') (orderly : z'.orderly) (other : c ≠ d) : z.Beside cfg c z' := by
  refine ⟨orderly, .of_by h other, ?_⟩
  by_cases own : groupOf c = groupOf d
  · rw [own]
    exact h.inhibited
  · rw [h.groups _ own]

theorem Zone.Beside.settle (o : z.orderly) : z.Beside cfg c (z.settle cfg d) := by
  refine ⟨(Zone.settle_keeps (E := False) (cfg := cfg)).orderly o, o.settle_granted, ?_⟩
  have within := Zone.settle_within (cfg := cfg) (o.own d)
  by_cases own : groupOf c = groupOf d
  · rw [own]
    exact within.inhibited
  · rw [within.groups _ own]

/-- A write of another channel's record that keeps its state. -/
theorem Zone.Beside.setChan {f : Channel → Channel} (o : z.orderly) (same : (f (z.channels.get d)).state = (z.channels.get d).state)
    (other : c ≠ d) : z.Beside cfg c (z.setChan d f) := by
  have kept : (z.setChan d f).channels.get c = z.channels.get c := Zone.setChan_get_other _ _ _ _ other
  exact ⟨o.setChan same, ⟨fun _ => kept, fun _ _ _ => rfl, rfl, by rw [kept]; exact .refl _, fun a hs _ => .inl (by rw [kept, hs]),
    fun hs => .inl (by rw [kept, hs])⟩, rfl⟩

/-- A channel whose inputs the sweep has taken, and then waits for no slot. -/
theorem Zone.orderly.readInputs_apart (o : z.orderly) (off : (z.channels.get c).state = .off) :
    (z.setChan c (·.readInputs cfg pins c)).Apart c :=
  (o.setChan rfl).apart (by rw [Zone.setChan_get_self, Channel.readInputs_state, off]; rfl)

/-- The state that a released sweep places a channel in before its claim. -/
def Channel.sweptTo (ch : Channel) : ChanState := if ch.home then .locked else .openHold .waitClose

theorem Channel.sweptTo_drives (ch : Channel) : ch.sweptTo.drives = false := by
  unfold Channel.sweptTo
  split
  · rfl
  · rfl

/-- The claim of a released sweep: a channel that is withdrawn and not home is RELEASED at once, and else its bolt is to be withdrawn. -/
theorem Zone.releaseClaim_swept (used : cfg.inUse c = true) (placed : (z.channels.get c).state = (z.channels.get c).sweptTo) :
    z.releaseClaim cfg c = if (z.channels.get c).home = false ∧ (z.channels.get c).withdrawn = true
      then (z.mark c true).enter cfg c .released else ((z.mark c true).waitOpen cfg c .expired).settle cfg c := by
  cases home : (z.channels.get c).home with
  | true =>
    have locked : (z.channels.get c).state = .locked := placed.trans (if_pos home)
    rw [Zone.releaseClaim_request used (.inl locked), if_neg (by simp)]
  | false =>
    have opened : (z.channels.get c).state = .openHold .waitClose := placed.trans (if_neg (by simp [home]))
    cases there : (z.channels.get c).withdrawn with
    | true =>
      rw [Zone.releaseClaim_eq used, opened]
      exact (if_pos there).trans (if_pos (by simp)).symm
    | false => rw [Zone.releaseClaim_request used (.inr (.inr ⟨⟨_, opened⟩, there⟩)), if_neg (by simp)]

/-- The zone of a released sweep before its claim. -/
def Zone.preswept (cfg : Setup) (pins : Pins) (c : Chan) (z : Zone) : Zone :=
  (z.setChan c (·.readInputs cfg pins c)).enter cfg c ((z.channels.get c).readInputs cfg pins c).sweptTo

theorem Zone.preswept_get : (z.preswept cfg pins c).channels.get c =
    ((z.channels.get c).readInputs cfg pins c).enter cfg c ((z.channels.get c).readInputs cfg pins c).sweptTo := by
  rw [Zone.preswept, Zone.enter_get_self, Zone.setChan_get_self]

theorem Zone.sweep_released (used : cfg.inUse c = true) : z.sweep cfg pins true c = (z.preswept cfg pins c).releaseClaim cfg c := by
  unfold Zone.sweep Zone.preswept Channel.sweptTo
  rw [if_pos used]
  dsimp only
  rw [if_pos rfl, Zone.setChan_get_self]

theorem Zone.sweep_placed (used : cfg.inUse c = true) :
    z.sweep cfg pins false c = (z.setChan c (·.readInputs cfg pins c)).place cfg c :=
  (if_pos used).trans (if_neg (by simp))

theorem Zone.orderly.sweep_beside (o : z.orderly) (off : (z.channels.get d).state = .off) (other : c ≠ d) :
    z.Beside cfg c (z.sweep cfg pins release d) := by
  by_cases used : cfg.inUse d = true
  · have read : z.Beside cfg c (z.setChan d (·.readInputs cfg pins d)) := .setChan o rfl other
    have apart := o.readInputs_apart (cfg := cfg) (pins := pins) off
    cases release with
    | false =>
      rw [Zone.sweep_placed used]
      refine read.trans ?_
      unfold Zone.place
      split
      · exact .of_by .enter (apart.orderly_enter rfl) other
      · split
        · exact .of_by .enter (apart.orderly_enter rfl) other
        · exact (Zone.Beside.of_by .hold apart.hold other).trans (.settle apart.hold)
    | true =>
      have entered : (z.preswept cfg pins d).orderly := apart.orderly_enter (Channel.sweptTo_drives _)
      have placed : ((z.preswept cfg pins d).channels.get d).state = ((z.preswept cfg pins d).channels.get d).sweptTo := by
        rw [Zone.preswept_get]
        rfl
      have apart' : ((z.preswept cfg pins d).mark d true).Apart d :=
        (apart.enter _).setChan _
      have marked : z.Beside cfg c ((z.preswept cfg pins d).mark d true) :=
        (read.trans (.of_by .enter entered other)).trans (.setChan entered rfl other)
      rw [Zone.sweep_released used, Zone.releaseClaim_swept used placed]
      refine marked.trans ?_
      split
      · exact .of_by .enter (apart'.orderly_enter rfl) other
      · exact (Zone.Beside.of_by .waitOpen apart'.waitOpen other).trans (.settle apart'.waitOpen)
  · have same : z.sweep cfg pins release d = z := if_neg used
    rw [same]
    exact .refl o

theorem Zone.orderly.foldl_sweep (cs : List Chan) (o : z.orderly) (nodup : cs.Nodup) (off : ∀ d ∈ cs, (z.channels.get d).state = .off)
    (absent : c ∉ cs) : z.Beside cfg c (cs.foldl (fun z c => z.sweep cfg pins release c) z) := by
  induction cs generalizing z with
  | nil => exact .refl o
  | cons d cs ih =>
    obtain ⟨new, nodup⟩ := List.nodup_cons.mp nodup
    obtain ⟨other, absent⟩ := not_or.mp (mt List.mem_cons.mpr absent)
    have offd : (z.channels.get d).state = .off := off d (by simp)
    have first := o.sweep_beside (cfg := cfg) (pins := pins) (release := release) offd other
    have here : z.Settles cfg d (z.sweep cfg pins release d) := Zone.sweep_settles offd
    exact first.trans (ih first.orderly nodup (fun e he => here.off o e (fun same => new (same ▸ he)) (off e (by simp [he]))) absent)

/-! ## The channel of the sweep -/

/-- What a placing sweep of channel `c`, and then those of the others, do to it. -/
theorem Zone.orderly.sweep_places (off : (z.channels.get c).state = .off) (used : cfg.inUse c = true)
    (h : (z.sweep cfg pins false c).Granted cfg c z') (o : z.orderly) :
    (pins.home.get c = true → (z'.channels.get c).state = .locked) ∧
    (pins.home.get c = false → (z.setChan c (·.readInputs cfg pins c)).relocking cfg c (z.groups.get (groupOf c)).inhibited
      (z'.channels.get c).state) := by
  have apart := o.readInputs_apart (cfg := cfg) (pins := pins) off
  have kind : cfg.kind c ≠ .none := by simpa [Setup.inUse] using used
  have home : ((z.setChan c (·.readInputs cfg pins c)).channels.get c).home = pins.home.get c := by rw [Zone.setChan_get_self]; rfl
  have place : (z.setChan c (·.readInputs cfg pins c)).place cfg c = if pins.home.get c
      then (z.setChan c (·.readInputs cfg pins c)).enter cfg c .locked
      else ((z.setChan c (·.readInputs cfg pins c)).hold cfg c .expired).settle cfg c := by
    rw [← home]
    unfold Zone.place
    split
    · next none => exact absurd none kind
    · rfl
  rw [Zone.sweep_placed used, place] at h
  refine ⟨fun there => ?_, fun away => ?_⟩
  · rw [if_pos there] at h
    exact h.state (by rw [Zone.enter_get_self]; rfl) rfl
  · rw [if_neg (by simp [away])] at h
    exact Zone.hold_expired_relocks (apart.hold.settle_granted.trans h)

/-- What a released sweep of channel `c`, and then those of the others, do to it. -/
theorem Zone.orderly.sweep_releases (off : (z.channels.get c).state = .off) (used : cfg.inUse c = true)
    (h : (z.sweep cfg pins true c).Granted cfg c z') (o : z.orderly) :
    (z'.channels.get c).release = true ∧
    (pins.home.get c = false → pins.withdrawn.get c = true → (z'.channels.get c).state = .released) ∧
    (pins.home.get c = true ∨ pins.withdrawn.get c = false → (z.groups.get (groupOf c)).inhibited = true →
      (z'.channels.get c).state = .inhibited (.openEnd .expired)) ∧
    (pins.withdrawn.get c = false → (z.groups.get (groupOf c)).inhibited = false →
      (z'.channels.get c).state = .unlockWait .expired ∨ (z'.channels.get c).state = .unlocking .expired) := by
  have apart : ((z.preswept cfg pins c).mark c true).Apart c := ((o.readInputs_apart off).enter _).setChan _
  have record : (z.preswept cfg pins c).channels.get c = _ := Zone.preswept_get
  have home : ((z.preswept cfg pins c).channels.get c).home = pins.home.get c := by rw [record]; rfl
  have there : ((z.preswept cfg pins c).channels.get c).withdrawn = pins.withdrawn.get c := by rw [record]; rfl
  have placed : ((z.preswept cfg pins c).channels.get c).state = ((z.preswept cfg pins c).channels.get c).sweptTo := by
    rw [record]
    rfl
  have marker : (((z.preswept cfg pins c).mark c true).channels.get c).release = true := by rw [Zone.mark_get]
  rw [Zone.sweep_released used, Zone.releaseClaim_swept used placed, home, there] at h
  by_cases atOnce : pins.home.get c = false ∧ pins.withdrawn.get c = true
  · obtain ⟨away, withdrawn⟩ := atOnce
    rw [if_pos ⟨away, withdrawn⟩] at h
    refine ⟨h.inputs.release.trans (by rw [Zone.enter_get_self]; exact marker), fun _ _ => h.state (by rw [Zone.enter_get_self]; rfl) rfl, ?_, ?_⟩
    · simp [away, withdrawn]
    · simp [withdrawn]
  · rw [if_neg atOnce] at h
    have waits := apart.waitOpen.settle_granted.trans h
    refine ⟨waits.inputs.release.trans (((Zone.By.waitOpen.inputs c).release).trans marker), fun away withdrawn => absurd ⟨away, withdrawn⟩ atOnce,
      fun _ inhibited => ?_, fun withdrawn inhibited => ?_⟩
    · rw [Zone.waitOpen_inhibited (z := (z.preswept cfg pins c).mark c true) inhibited] at waits
      exact waits.state (by rw [Zone.enter_get_self]; rfl) rfl
    · rw [Zone.waitOpen_wait (z := (z.preswept cfg pins c).mark c true) inhibited] at waits
      refine waits.opens .expired (by rw [Zone.wait_channel]; rfl) ?_
      rw [Zone.wait_channel, Zone.mark_get]
      exact there.trans withdrawn

/-- Channel `c` in the sweep of all: what stands before it leaves it OFF, and what stands after grants it its drive. -/
theorem Zone.orderly.swept_split (o : z.orderly) (off : ∀ d, (z.channels.get d).state = .off) (c : Chan) :
    ∃ w : Zone, w.orderly ∧ w.channels.get c = z.channels.get c ∧
      (w.groups.get (groupOf c)).inhibited = (z.groups.get (groupOf c)).inhibited ∧
      (w.sweep cfg pins release c).Granted cfg c (allChans.foldl (fun z c => z.sweep cfg pins release c) z) := by
  obtain ⟨before, after, split⟩ := List.append_of_mem (show c ∈ allChans from List.mem_finRange c)
  have nodup : allChans.Nodup := List.nodup_finRange 32
  rw [split] at nodup ⊢
  rw [List.nodup_append, List.nodup_cons] at nodup
  obtain ⟨front, ⟨absent', back⟩, disjoint⟩ := nodup
  have absent : c ∉ before := fun hc => disjoint c hc c (by simp) rfl
  rw [List.foldl_append, List.foldl_cons]
  have first := o.foldl_sweep (cfg := cfg) (pins := pins) (release := release) before front (fun d _ => off d) absent
  have stays := Zone.foldl_swept (cfg := cfg) (pins := pins) (release := release) before z front o fun d _ => off d
  generalize before.foldl (fun z c => z.sweep cfg pins release c) z = w at first stays ⊢
  have same : w.channels.get c = z.channels.get c := first.granted.calm (by rw [off]; rfl)
  have offc : (w.channels.get c).state = .off := by rw [same, off]
  have here : w.Settles cfg c (w.sweep cfg pins release c) := Zone.sweep_settles offc
  refine ⟨w, first.orderly, same, first.inhibited, ?_⟩
  refine ((here.orderly first.orderly).foldl_sweep after back (fun d hd => ?_) absent').granted
  have other : d ≠ c := fun e => absent' (e ▸ hd)
  exact here.off first.orderly d other (stays.off d (.inl fun hb => disjoint d hb d (by simp [hd]) rfl) (off d))

/-! ## The lanes through the sweep -/

theorem Zone.sweep_alike : z.LanesAlike cfg (z.sweep cfg pins release c) := by
  have h := Zone.lanesAlike_stable (cfg := cfg)
  have read : z.LanesAlike cfg (z.setChan c (·.readInputs cfg pins c)) := .of_eq rfl
  unfold Zone.sweep
  split
  · refine read.trans ?_
    dsimp only
    split
    · exact h.trans (h.enter _ _ _) Zone.releaseClaim_alike
    · unfold Zone.place
      split
      · exact h.enter _ _ _
      · split
        · exact h.enter _ _ _
        · exact h.trans h.hold h.settle
  · exact h.refl z

end Sys2Proof.Machine
end

section
/-! The end of start-up (R103, R111, R152, R156, R160, R198). -/

namespace Sys2Proof.Machine

variable {s t : State} {cfg : Setup} {info : StartInfo} {l : LaneNo} {c : Chan} {z z' : Zone} {low : Bool} {pins : Pins}

/-- The conditions of the mode of step 4. -/
def State.startFails (info : StartInfo) (s : State) : Prop :=
  info.result = .defaulted ∨ s.setup.valid = false ∨ info.inMaintenance = true

/-- The zone that the sweep of all the channels leaves. -/
def Zone.sweptAll (cfg : Setup) (pins : Pins) (release : Bool) (z : Zone) : Zone :=
  allChans.foldl (fun z c => z.sweep cfg pins release c) z

/-! ## The claims on the lanes of a part whose channels are released -/

/-- Every channel has its release marker or is OFF, so no relock claim moves one. -/
def Zone.allReleased (z : Zone) : Prop := ∀ c, (z.channels.get c).release = true ∨ (z.channels.get c).state = .off

theorem Zone.relockClaim_released (h : (z.channels.get c).release = true ∨ (z.channels.get c).state = .off) : z.relockClaim cfg c = z := by
  unfold Zone.relockClaim
  dsimp only
  split
  · rfl
  · next unmarked => rw [h.resolve_left unmarked]

theorem State.evacuateLane_channels (h : s.zone.allReleased) (l : LaneNo) : (s.evacuateLane l).zone.channels = s.zone.channels := by
  unfold State.evacuateLane
  split
  · dsimp only
    split
    · next m _ =>
      obtain ⟨cs, ta, fs, abandoned, -⟩ := s.abandon_eq l m .evacuation (.heldOpen (s.zone.lanes.get l).state.returning)
      rw [abandoned]
      dsimp only
      rw [Zone.relockClaim_released (z := s.zone.setLane l _) (h _)]
      rfl
    · rfl
  · rfl

theorem State.evacuateLanes_channels (ls : List LaneNo) (h : s.zone.allReleased) :
    (ls.foldl (fun s l => s.evacuateLane l) s).zone.channels = s.zone.channels := by
  induction ls generalizing s with
  | nil => rfl
  | cons l ls ih =>
    have first := State.evacuateLane_channels h l
    exact (ih (s := s.evacuateLane l) (by unfold Zone.allReleased at h ⊢; rwa [first])).trans first

/-- The record of a lane that was CLOSED, but for a pass window that it has none of. -/
theorem Lane.eq_of_closed {x y : Lane} (same : x.windowless = y.windowless) (closed : y.state = .closed) : x = y := by
  obtain ⟨sx, _, _, _, _, _⟩ := x
  obtain ⟨sy, _, _, _, _, _⟩ := y
  cases closed
  cases sx <;> simp_all [Lane.windowless, LaneState.windowless]

/-! ## The zone that the sweep leaves -/

/-- What the sweep of all the channels needs: the arbiters in order, and every channel OFF. -/
structure Zone.Unswept (z : Zone) : Prop where
  orderly : z.orderly
  off : ∀ c, (z.channels.get c).state = .off

theorem Zone.sweptAll_alike {release : Bool} : z.LanesAlike cfg (z.sweptAll cfg pins release) :=
  Zone.foldl_alike (fun _ _ => Zone.sweep_alike) allChans z

theorem Zone.relocking_iff_of_inputs {st : ChanState} (contact : (z.channels.get c).contact = (z'.channels.get c).contact)
    (home : (z.channels.get c).home = (z'.channels.get c).home) (inhibited : Bool) :
    z.relocking cfg c inhibited st ↔ z'.relocking cfg c inhibited st := by
  unfold Zone.relocking Zone.doorOpen
  rw [contact, home]

theorem Zone.Unswept.places (h : z.Unswept) (used : cfg.inUse c = true) :
    let z' := z.sweptAll cfg pins false
    (pins.home.get c = true → (z'.channels.get c).state = .locked) ∧
    (pins.home.get c = false → (z.setChan c (·.readInputs cfg pins c)).relocking cfg c (z.groups.get (groupOf c)).inhibited
      (z'.channels.get c).state) := by
  obtain ⟨orderly, off⟩ := h
  obtain ⟨w, o, same, inhibited, granted⟩ := orderly.swept_split (cfg := cfg) (pins := pins) (release := false) off c
  obtain ⟨locked, relocks⟩ := o.sweep_places (by rw [same, off]) used granted
  refine ⟨locked, fun away => ?_⟩
  rw [← inhibited]
  have read : (w.setChan c (·.readInputs cfg pins c)).channels.get c = (z.setChan c (·.readInputs cfg pins c)).channels.get c := by
    rw [Zone.setChan_get_self, Zone.setChan_get_self, same]
  exact (Zone.relocking_iff_of_inputs (congrArg Channel.contact read) (congrArg Channel.home read) _).mp (relocks away)

theorem Zone.Unswept.releases (h : z.Unswept) (used : cfg.inUse c = true) :
    let ch := (z.sweptAll cfg pins true).channels.get c
    let inhibited := (z.groups.get (groupOf c)).inhibited
    ch.release = true ∧
    (pins.home.get c = false → pins.withdrawn.get c = true → ch.state = .released) ∧
    (pins.home.get c = true ∨ pins.withdrawn.get c = false → inhibited = true → ch.state = .inhibited (.openEnd .expired)) ∧
    (pins.withdrawn.get c = false → inhibited = false → ch.state = .unlockWait .expired ∨ ch.state = .unlocking .expired) := by
  obtain ⟨orderly, off⟩ := h
  obtain ⟨w, o, same, inhibited, granted⟩ := orderly.swept_split (cfg := cfg) (pins := pins) (release := true) off c
  have ends := o.sweep_releases (by rw [same, off]) used granted
  rw [inhibited] at ends
  exact ends

theorem Zone.Unswept.allReleased (h : z.Unswept) : (z.sweptAll cfg pins true).allReleased := by
  intro c
  by_cases used : cfg.inUse c = true
  · obtain ⟨marked, -⟩ := h.releases (pins := pins) used
    exact .inl marked
  · have none : cfg.kind c = .none := by simpa [Setup.inUse] using used
    have swept := Zone.foldl_swept (cfg := cfg) (pins := pins) (release := true) allChans z (List.nodup_finRange 32) h.orderly fun d _ => h.off d
    exact .inr (swept.off c (.inr none) (h.off c))

/-! ## The two ways of the end of start-up -/

/-- Steps 4 to 6 with the line CLEAR. -/
theorem State.startClear_eq (info : StartInfo) (s : State) : s.startClear info =
    { s with
      evac := { s.evac with line := false, lineCount := min s.evac.lineCount 49, state := .normal }
      mode := s.startMode info
      zone := s.zone.sweptAll s.setup s.pins false
      link := s.link.leadWith [.start info.kind info.kept info.result (s.startMode info) info.tag] } := by
  unfold State.startClear
  dsimp only
  rw [State.sweepAll_eq]
  rfl

/-- The lanes that steps 4 to 6 find with the line ASSERTED: a start that would be in MAINTENANCE treats those that fail as UNUSED. -/
def State.startLane (info : StartInfo) (s : State) (l : LaneNo) : Lane :=
  if s.startMode info = .maintenance then (s.zone.lanes.get l).markUnfit ((s.setup.lanes.get l).used && !s.setup.laneFits l)
  else s.zone.lanes.get l

/-- The sweep, the claims on the lanes and the notices of steps 4 to 6 with the line ASSERTED. -/
def State.claimStart (info : StartInfo) (s : State) : State :=
  let w := allLanes.foldl (fun s l => s.evacuateLane l) (s.sweepAll true)
  { w with link := w.link.leadWith [w.startNotice info, .evacuation .evacuation true w.evac.host .start 0 0] }

/-- The line ASSERTED at the end of start-up, in the mode given. -/
def State.lineAsserted (mode : OpMode) (s : State) : State :=
  { s with evac := { s.evac with line := true, lineCount := 0, state := .evacuation }, mode := mode }

/-- Steps 4 to 6 with the line ASSERTED, up to the claims. -/
theorem State.startReleased_eq (info : StartInfo) (s : State) : ∃ ls ts, (∀ l, ls.get l = s.startLane info l) ∧
    s.startReleased info =
      State.claimStart info { s.lineAsserted .normal with zone := { s.zone with lanes := ls }, tills := ts } := by
  have claims : s.startReleased info = State.claimStart info (if (s.lineAsserted (s.startMode info)).inMaintenance
      then (s.lineAsserted .normal).markUnfit else s.lineAsserted (s.startMode info)) := rfl
  rw [claims]
  cases mode : s.startMode info with
  | normal =>
    refine ⟨s.zone.lanes, s.tills, fun l => (if_neg (by simp [mode])).symm, ?_⟩
    rw [State.inMaintenance_of_normal rfl, if_neg (by simp)]
    rfl
  | maintenance =>
    obtain ⟨ls, ts, marked, lanes, -⟩ := (s.lineAsserted .normal).markUnfit_spec
    refine ⟨ls, ts, fun l => (lanes l).trans (if_pos mode).symm, ?_⟩
    rw [State.inMaintenance_of_maintenance rfl, if_pos rfl, marked]
    rfl

/-! ## What the part runs on with -/

/-- What the end of start-up leaves, apart from the readers and the bus. -/
structure State.Begins (info : StartInfo) (low : Bool) (s u : State) : Prop where
  phase : u.phase = .running
  mode : (low = false ∧ s.startFails info → u.mode = .maintenance) ∧ (¬(low = false ∧ s.startFails info) → u.mode = .normal)
  evac : u.evac = { s.evac with
    line := low, lineCount := if low then 0 else min s.evac.lineCount 49, state := if low then .evacuation else .normal }
  head : u.link.notices.head? = some (.start info.kind info.kept info.result u.mode info.tag)
  second : low = true → u.link.notices[1]? = some (.evacuation .evacuation true s.evac.host .start 0 0)
  channels : ∃ ls, u.zone.channels = (Zone.sweptAll s.setup s.pins low { s.zone with lanes := ls }).channels
  clear : low = false → s.zone.LanesAlike s.setup u.zone
  unused : low = true → ∀ l, ((s.setup.lanes.get l).used && !(s.startLane info l).unfit) = false → u.zone.lanes.get l = s.startLane info l
  used : low = true → ∀ l, ((s.setup.lanes.get l).used && !(s.startLane info l).unfit) = true →
    u.zone.lanes.get l = (s.startLane info l).evacuated

theorem State.startMode_normal (h : ¬s.startFails info) : s.startMode info = .normal := if_neg h

theorem State.startMode_maintenance (h : s.startFails info) : s.startMode info = .maintenance := if_pos h

theorem State.startClear_begins (info : StartInfo) (s : State) : s.Begins info false { s.startClear info with phase := .running } := by
  rw [State.startClear_eq]
  refine ⟨rfl, ⟨fun fails => State.startMode_maintenance fails.2, fun holds => State.startMode_normal fun fails => holds ⟨rfl, fails⟩⟩, rfl, rfl,
    by simp, ⟨s.zone.lanes, rfl⟩, fun _ => Zone.sweptAll_alike, by simp, by simp⟩

theorem State.startReleased_begins (info : StartInfo) (unswept : s.zone.Unswept) :
    s.Begins info true { s.startReleased info with phase := .running } := by
  obtain ⟨ls, ts, lanes, eq⟩ := s.startReleased_eq info
  have before : Zone.Unswept { s.zone with lanes := ls } := ⟨unswept.orderly, unswept.off⟩
  have released := before.allReleased (cfg := s.setup) (pins := s.pins)
  have alike := Zone.sweptAll_alike (cfg := s.setup) (pins := s.pins) (release := true) (z := { s.zone with lanes := ls })
  have channels : ∃ ls', (Zone.sweptAll s.setup s.pins true { s.zone with lanes := ls }).channels =
    (Zone.sweptAll s.setup s.pins true { s.zone with lanes := ls' }).channels := ⟨ls, rfl⟩
  have swept : State.sweepAll true { s.lineAsserted .normal with zone := { s.zone with lanes := ls }, tills := ts } =
      { s.lineAsserted .normal with zone := Zone.sweptAll s.setup s.pins true { s.zone with lanes := ls }, tills := ts } :=
    State.sweepAll_eq _ _
  rw [eq, State.claimStart, swept]
  generalize Zone.sweptAll s.setup s.pins true { s.zone with lanes := ls } = z at alike channels released ⊢
  have claimed := State.evacuateLanes_claimed allLanes (List.nodup_finRange 4) { s.lineAsserted .normal with zone := z, tills := ts }
  have kept := State.evacuateLanes_channels (s := { s.lineAsserted .normal with zone := z, tills := ts }) allLanes released
  generalize allLanes.foldl (fun s l => State.evacuateLane l s) { s.lineAsserted .normal with zone := z, tills := ts } = w at claimed kept ⊢
  have laned := claimed.laned
  unfold State.Laned State.lineAsserted at laned
  have mode : w.mode = .normal := by rw [laned]
  have evac : w.evac = { s.evac with line := true, lineCount := 0, state := .evacuation } := by rw [laned]
  have used (l : LaneNo) : z.laneUsed s.setup l = ((s.setup.lanes.get l).used && !(s.startLane info l).unfit) := by
    rw [alike.used l, ← lanes l]
    rfl
  refine ⟨rfl, ⟨by simp, fun _ => mode⟩, evac, rfl, fun _ => ?_, ?_, by simp, fun _ l unused => ?_, fun _ l claims => ?_⟩
  · dsimp only
    rw [evac]
    rfl
  · rw [← kept] at channels
    exact channels
  · have unfit : z.laneUsed s.setup l = false := (used l).trans unused
    refine (claimed.unused l unfit).trans ?_
    rw [← lanes l]
    exact (alike l).1 ((alike.used l).symm.trans unfit)
  · refine (claimed.here l (List.mem_finRange l) ((used l).trans claims)).trans ?_
    rw [← lanes l]
    exact Lane.evacuated_congr (alike l).2

end Sys2Proof.Machine
end

section
/-! The obligations about starts and the end of start-up. -/

namespace Sys2Proof.Machine

variable {s u : State} {cfg : Setup} {info : StartInfo} {l : LaneNo} {c : Chan} {low : Bool}

/-- What a RESTART that is taken leaves. -/
theorem State.restart_spec (tag : Octet) (damaged : Bool) (s : State) (rising : Rising s.cards) :
    let t := s.restart tag damaged
    s.Started s.setup t ∧ ((s.retention.agrees && !damaged) = true → s.Kept t) ∧ ((s.retention.agrees && !damaged) = false → t.Lost) ∧
      t.phase = .starting ⟨.restart, s.retention.agrees && !damaged, .kept, tag, decide (s.mode = .maintenance)⟩ 0 0 ∧ t.store = s.store :=
  State.restart_or_keep fun _ => rising

/-- The arrival of a frame changes the host link alone. -/
theorem State.arrive_link (f : Frame) (s : State) : ∃ k, s.arrive f = { s with link := k } := by
  unfold State.arrive
  split
  · exact ⟨s.link, rfl⟩
  · exact ⟨_, rfl⟩

/-- The busOn of step 6 leaves everything but the readers and the bus. -/
theorem State.Begins.busOn (h : s.Begins info low u) : s.Begins info low u.busOn := by
  obtain ⟨rs, b, eq⟩ := State.busOn_frame u
  rw [eq]
  exact ⟨h.phase, h.mode, h.evac, h.head, h.second, h.channels, h.clear, h.unused, h.used⟩

theorem execStartUpEnd_running (running : s.phase = .running) (low : Bool) : execStartUpEnd low s = .next s := by
  unfold execStartUpEnd
  rw [running]

theorem execStartUpEnd_begins {n lows : Nat} (starting : s.phase = .starting info n lows) (unswept : s.zone.Unswept) (low : Bool) :
    ∃ u, execStartUpEnd low s = .next u.close ∧ s.Begins info low u := by
  refine ⟨State.busOn { (if low then s.startReleased info else s.startClear info) with phase := .running }, ?_, ?_⟩
  · unfold execStartUpEnd
    rw [starting]
  · refine State.Begins.busOn ?_
    cases low with
    | true => exact State.startReleased_begins info unswept
    | false => exact State.startClear_begins info s

/-! ## The channels and the lanes of a part that begins -/

theorem Zone.readInputs_doorOpen {z : Zone} {pins : Pins} : (z.setChan c (·.readInputs cfg pins c)).doorOpen cfg c = true ↔
    (cfg.channels.get c).mode = .level ∧ pins.contact.get c = (cfg.channels.get c).contactHigh := by
  unfold Zone.doorOpen
  rw [Zone.setChan_get_self, Channel.readInputs, Channel.requalify]
  simp

theorem State.startLane_fails (closed : s.zone.lanes.get l = ⟨.closed, 0, 0, 0, 0, false⟩) (used : (s.setup.lanes.get l).used = true)
    (fails : s.startFails info) (unfit : s.setup.laneFits l = false) : s.startLane info l = ⟨.closed, 0, 0, 0, 0, true⟩ := by
  rw [State.startLane, if_pos (State.startMode_maintenance fails), closed, used, unfit]
  rfl

theorem State.startLane_stays (closed : s.zone.lanes.get l = ⟨.closed, 0, 0, 0, 0, false⟩)
    (stays : (s.setup.lanes.get l).used = false ∨ ¬(s.startFails info ∧ s.setup.laneFits l = false)) :
    s.startLane info l = ⟨.closed, 0, 0, 0, 0, false⟩ := by
  unfold State.startLane
  split
  · next maintenance =>
    have fails : s.startFails info := by
      by_contra holds
      simp [State.startMode_normal holds] at maintenance
    have fit : ((s.setup.lanes.get l).used && !s.setup.laneFits l) = false := by
      rcases stays with unused | fits
      · simp [unused]
      · simp [show s.setup.laneFits l = true by simpa [fails] using fits]
    rw [closed, fit]
    rfl
  · exact closed

end Sys2Proof.Machine

namespace Sys2Proof.Status
open Sys2Proof.Machine

/-- Settles O60: the starts through the state after reset, and the end of start-up channel by channel. -/
theorem startsAndTheEndOfStartUp : Obligations.StartsAndTheEndOfStartUp := by
  intro s started lost kept
  refine ⟨fun d => ?loads, fun tag body ht => ?restarts, rfl, execStartUpEnd_running, fun info n lows low starting slot => ?ends⟩
  case loads =>
    intro found cfg result
    have check : (s.storeFound d).check = found := State.storeFound_check d s
    have setup : (s.storeFound d).load = cfg := by rw [SetupStore.load_eq, check] <;> rfl
    have code : (s.storeFound d).check.result = result := by rw [check] <;> rfl
    have store : s.storeFound d = ⟨s.store.image, found⟩ := by rw [← check] <;> rfl
    refine ⟨?_, fun b i named tables => ?_⟩
    · obtain ⟨starts, -, loses, phase, stored⟩ := s.loadStart_spec .cold false d (by simp)
      rw [setup] at starts
      rw [code] at phase
      exact ⟨_, rfl, starts, loses rfl, phase, stored.trans store⟩
    · intro keeps
      have retained : s.retained b = decide keeps := by
        rw [Bool.eq_iff_iff]
        simp [State.retained, keeps, and_assoc]
      obtain ⟨starts, keep, loses, phase, stored⟩ := s.loadStart_spec .warm (decide keeps) d fun _ => tables.1
      rw [setup] at starts
      rw [code] at phase
      refine ⟨_, ?_, starts, fun holds => keep (decide_eq_true holds), fun fails => loses (decide_eq_false fails), phase, stored.trans store⟩
      rcases named with rfl | rfl
      · exact congrArg (fun k => Host.Outcome.next (s.loadStart .warm k d)) retained
      · exact congrArg (fun k => Host.Outcome.next (s.loadStart .warm k d)) retained
  case restarts =>
    intro f turn
    have taken := execRestart_turn turn
    obtain ⟨k, arrived⟩ := s.arrive_link f
    refine ⟨fun some_ => taken.trans ?malformed, fun empty saving => taken.trans ?busy, fun empty still tables => ?restarted⟩
    case malformed => exact congrArg _ (if_pos (.inr some_))
    case busy =>
      refine congrArg _ ((if_neg ?_).trans (if_pos ?_))
      · exact not_or.mpr ⟨ht, not_not.mpr empty⟩
      · rw [State.arrive_save]
        exact Option.isSome_iff_ne_none.mpr saving
    case restarted =>
      intro keeps
      have decides : (s.retention.agrees && !Config.retentionDamaged s.free) = decide keeps := by
        rw [Bool.eq_iff_iff]
        simp [keeps]
      have goes : (s.arrive f).takeRestart f =
          State.restart tag (Config.retentionDamaged s.free) { s with link := k, free := s.free + 1 } := by
        rw [arrived]
        exact (if_neg (not_or.mpr ⟨ht, not_not.mpr empty⟩)).trans (if_neg (by simp [still]))
      obtain ⟨starts, keep, loses, phase, stored⟩ := State.restart_spec tag (Config.retentionDamaged s.free)
        { s with link := k, free := s.free + 1 } tables.1
      rw [decides] at phase
      exact ⟨_, taken.trans (congrArg _ goes), starts, fun holds => keep (decides.trans (decide_eq_true holds)),
        fun fails => loses (decides.trans (decide_eq_false fails)), phase, stored⟩
  case ends =>
    intro mode
    obtain ⟨orderly, -, off⟩ := slot
    have unswept : s.zone.Unswept := ⟨orderly, off (by simp [starting])⟩
    obtain ⟨u, exec_, begins⟩ := execStartUpEnd_begins starting unswept low
    have modes : u.mode = mode := by
      by_cases fails : low = false ∧ s.startFails info
      · exact (begins.mode.1 fails).trans (if_pos fails).symm
      · exact (begins.mode.2 fails).trans (if_neg fails).symm
    obtain ⟨ls, channels⟩ := begins.channels
    have before : Zone.Unswept { s.zone with lanes := ls } := ⟨unswept.orderly, unswept.off⟩
    refine ⟨u, exec_, begins.phase, modes, begins.evac, modes ▸ begins.head, fun c used => ?_, fun l closed => ?_, begins.second⟩
    · intro st home withdrawn x opened inhibited
      have same : st = ((Zone.sweptAll s.setup s.pins low { s.zone with lanes := ls }).channels.get c).state := by rw [← channels]
      have marker : (u.zone.channels.get c).release =
          ((Zone.sweptAll s.setup s.pins low { s.zone with lanes := ls }).channels.get c).release := by rw [channels]
      have door := Zone.readInputs_doorOpen (cfg := s.setup) (c := c) (z := { s.zone with lanes := ls }) (pins := s.pins)
      rw [same, marker]
      cases low with
      | false =>
        obtain ⟨locked, relocks⟩ := before.places (pins := s.pins) used
        refine ⟨fun _ => locked, fun _ away cabin level => (relocks (Bool.eq_false_iff.mpr away)).1 cabin (door.mpr level),
          fun _ away shut delay => (relocks (Bool.eq_false_iff.mpr away)).2.1 (shut.imp id fun h => Bool.eq_false_iff.mpr (mt door.mp h)) delay,
          by simp, by simp, by simp, by simp⟩
      | true =>
        obtain ⟨marked, released, stops, waits⟩ := before.releases (pins := s.pins) used
        exact ⟨by simp, by simp, by simp, fun _ => marked, fun _ away there => released (Bool.eq_false_iff.mpr away) there,
          fun _ rests => stops (rests.imp id Bool.eq_false_iff.mpr),
          fun _ away free => waits (Bool.eq_false_iff.mpr away) (Bool.eq_false_iff.mpr free)⟩
    · intro usedl fails
      refine ⟨fun asserted used holds => ?held, fun asserted used failing => ?unfit, fun rests => ?closed⟩
      case held =>
        have lane := State.startLane_stays (info := info) closed (.inr holds)
        rw [begins.used asserted l (by rw [lane, show (s.setup.lanes.get l).used = true from used]; rfl), lane]
        rfl
      case unfit =>
        have lane := State.startLane_fails (info := info) closed used failing.1 failing.2
        exact (begins.unused asserted l (by rw [lane]; simp)).trans lane
      case closed =>
        cases low with
        | false => exact (Lane.eq_of_closed (begins.clear rfl l).2 (by rw [closed])).trans closed
        | true =>
          have unused : (s.setup.lanes.get l).used = false := Bool.eq_false_iff.mpr (rests.resolve_left (by simp))
          exact (begins.unused rfl l (by simp [unused])).trans (State.startLane_stays closed (.inl unused))

end Sys2Proof.Status
end

section
/-! Setup records that change the working setup, the counters of a lane and the timing (R88, R116, R162, R171, R192). -/

namespace Sys2Proof.Machine

variable {s u : State} {f : Frame} {tag : Octet} {serve : Serve} {α : Type} {record : Option α} {write : α → State → State} {x : α}
  {body : List Octet}

/-! ## The checks of a structural record (R192) -/

/-- A structural record is taken in MAINTENANCE, with no save in progress. -/
def State.takesSetup (s : State) : Prop := s.mode = .maintenance ∧ s.save = none

theorem structural_range (unread : record = none) : structural record write s = (s, ⟨.range, []⟩) := by
  rw [unread]
  rfl

theorem structural_refused (read : record = some x) (closed : ¬s.takesSetup) :
    structural record write s = (s, ⟨if s.mode = .normal then .maintenance else .busy, []⟩) := by
  rw [read]
  unfold structural
  dsimp only
  cases mode : s.mode with
  | normal => rw [State.inMaintenance_of_normal mode] <;> rfl
  | maintenance =>
    have saving : s.save.isSome = true := Option.isSome_iff_ne_none.mpr fun none => closed ⟨mode, none⟩
    rw [State.inMaintenance_of_maintenance mode, saving] <;> rfl

theorem structural_taken (read : record = some x) (takes : s.takesSetup) : structural record write s = (write x s, ⟨.ok, []⟩) := by
  obtain ⟨mode, still⟩ := takes
  rw [read]
  unfold structural
  dsimp only
  rw [State.inMaintenance_of_maintenance mode, still] <;> rfl

/-- The outcomes of a request with a structural record. -/
theorem next_structural (turn : s.hasTurn f) (ht : tag ≠ 0) {sized : Bool} (size : sized = true) :
    let u := s.arrive f
    (record = none →
      Host.Outcome.next (s.request f (framed tag sized (structural record write))) = (.next (u.answered f ⟨.range, []⟩) : Out)) ∧
    ∀ x, record = some x →
      (¬s.takesSetup → Host.Outcome.next (s.request f (framed tag sized (structural record write))) =
        (.next (u.answered f ⟨if s.mode = .normal then .maintenance else .busy, []⟩) : Out)) ∧
      (s.takesSetup → Host.Outcome.next (s.request f (framed tag sized (structural record write))) =
        (.next ((write x u).answered f ⟨.ok, []⟩) : Out)) := by
  intro u
  have arrived : u.takesSetup ↔ s.takesSetup := by simp [u, State.takesSetup]
  have mode : u.mode = s.mode := by simp [u]
  have replies {v : State} {r : Reply} (served : structural record write u = (v, r)) :
      Host.Outcome.next (s.request f (framed tag sized (structural record write))) = (.next (v.answered f r) : Out) :=
    next_request turn ((framed_serves ht size).trans served)
  refine ⟨fun unread => replies (structural_range unread), fun x read => ⟨fun closed => ?_, fun takes => replies (structural_taken read (arrived.mpr takes))⟩⟩
  rw [← mode]
  exact replies (structural_refused read (mt arrived.mp closed))

/-- The outcomes of a request with a structural record, and the relock test in its event. -/
theorem next_structural_zoned (turn : s.hasTurn f) (ht : tag ≠ 0) {sized : Bool} (size : sized = true) :
    let u := s.arrive f
    (record = none → Host.Outcome.next (s.request f (framed tag sized (zoned (structural record write)))) =
      (.next (u.relockTest.answered f ⟨.range, []⟩) : Out)) ∧
    ∀ x, record = some x →
      (¬s.takesSetup → Host.Outcome.next (s.request f (framed tag sized (zoned (structural record write)))) =
        (.next (u.relockTest.answered f ⟨if s.mode = .normal then .maintenance else .busy, []⟩) : Out)) ∧
      (s.takesSetup → Host.Outcome.next (s.request f (framed tag sized (zoned (structural record write)))) =
        (.next ((write x u).relockTest.answered f ⟨.ok, []⟩) : Out)) := by
  intro u
  have arrived : u.takesSetup ↔ s.takesSetup := by simp [u, State.takesSetup]
  have mode : u.mode = s.mode := by simp [u]
  have replies {v : State} {r : Reply} (served : structural record write u = (v, r)) :
      Host.Outcome.next (s.request f (framed tag sized (zoned (structural record write)))) = (.next (v.relockTest.answered f r) : Out) :=
    next_request turn ((framed_serves ht size).trans (congrArg (fun x : State × Reply => (x.1.relockTest, x.2)) served))
  refine ⟨fun unread => replies (structural_range unread), fun x read => ⟨fun closed => ?_, fun takes => replies (structural_taken read (arrived.mpr takes))⟩⟩
  rw [← mode]
  exact replies (structural_refused read (mt arrived.mp closed))

/-! ## SETUP LANE (R88) -/

theorem vset_self {n : Nat} (v : Vector α n) (i : Fin n) : vset v i (v.get i) = v := by
  unfold vset
  simp [Vector.get]

/-- What a SETUP LANE leaves of the lane's record. -/
def Lane.rewritten (was used : Bool) (x : Lane) : Lane :=
  if was = true ∧ used = false then { x with committedOut := 0, committedIn := 0, abandoned := 0, unattributed := 0 } else x

theorem State.writeLane_eq (l : LaneNo) (x : LaneSetup) (s : State) : s.writeLane (l, x) = { s with
    setup := { s.setup with lanes := vset s.setup.lanes l x }
    zone := { s.zone with lanes := vset s.zone.lanes l ((s.zone.lanes.get l).rewritten (s.setup.lanes.get l).used x.used) } } := by
  have writes : s.writeLane (l, x) = if ((s.setup.lanes.get l).used && !x.used) = true
      then { s with setup := { s.setup with lanes := vset s.setup.lanes l x }, zone := s.zone.setLane l Lane.clearCounts }
      else { s with setup := { s.setup with lanes := vset s.setup.lanes l x } } := rfl
  rw [writes, Lane.rewritten]
  by_cases ends : (s.setup.lanes.get l).used = true ∧ x.used = false
  · rw [if_pos ends, if_pos (by simp [ends])]
    rfl
  · rw [if_neg ends, if_neg (by simpa using ends), vset_self]

/-! ## SETUP TIMING (R1) -/

theorem setupTimingOf_inRange {t : Timing} (read : setupTimingOf body = some t) : t.inRange = true := by
  unfold setupTimingOf at read
  split at read
  · dsimp only at read
    split at read
    · next fits => exact Option.some.inj read ▸ fits
    · cases read
  · cases read

/-- What SETUP TIMING replies from the state in which its frame has arrived. -/
theorem serveSetupTiming_range (ht : tag ≠ 0) (size : body.length = 19) (unread : setupTimingOf body = none) (u : State) :
    serveSetupTiming tag body u = (u, ⟨.range, []⟩) := by
  refine (framed_serves ht (decide_eq_true size)).trans ?_
  rw [unread] <;> rfl

theorem serveSetupTiming_taken {t : Timing} (ht : tag ≠ 0) (size : body.length = 19) (read : setupTimingOf body = some t) (u : State) :
    serveSetupTiming tag body u = ({ u with setup := { u.setup with timing := t } }, ⟨.ok, []⟩) := by
  refine (framed_serves ht (decide_eq_true size)).trans ?_
  rw [read] <;> rfl

end Sys2Proof.Machine
end

section
/-! A rail mask that holds every monitor in GOOD: the groups that it recovers (R77, R80, R192). -/

namespace Sys2Proof.Machine

variable {s u : State} {cfg : Setup} {c d : Chan} {g h : Grp} {gs : List Grp} {z z₁ z' : Zone} {f : Group → Group} {l : LaneNo}

/-! ## A channel that an operation leaves aside -/

/-- The record of the channel, its lane and the lane's record stay. -/
structure Zone.Aside (cfg : Setup) (d : Chan) (z z' : Zone) : Prop where
  channel : z'.channels.get d = z.channels.get d
  laneOf : z'.laneOf cfg d = z.laneOf cfg d
  lane : ∀ l, z.laneOf cfg d = some l → z'.lanes.get l = z.lanes.get l

theorem Zone.Aside.refl (z : Zone) : z.Aside cfg d z := ⟨rfl, rfl, fun _ _ => rfl⟩

theorem Zone.Aside.trans (h : z.Aside cfg d z₁) (k : z₁.Aside cfg d z') : z.Aside cfg d z' :=
  ⟨k.channel.trans h.channel, k.laneOf.trans h.laneOf, fun l named => (k.lane l (h.laneOf.trans named)).trans (h.lane l named)⟩

theorem Zone.Aside.granted (h : z.Aside cfg d z') : z.Granted cfg d z' :=
  ⟨fun _ => h.channel, fun _ => h.lane, h.laneOf, by rw [h.channel]; exact .refl _, fun a hs _ => .inl (by rw [h.channel, hs]),
    fun hs => .inl (by rw [h.channel, hs])⟩

/-- An operation of the channels of a group leaves those of the others aside. -/
theorem Zone.Within.aside (within : z.Within cfg (fun d => groupOf d = g) g z') (away : groupOf d ≠ g) : z.Aside cfg d z' := by
  refine ⟨within.channels d away, within.laneOf d, fun l named => within.lanes l fun e own taken => away ?_⟩
  obtain rfl := Zone.laneOf_inj named taken
  exact own

/-- What a channel has resumed to stays while the channel is left aside. -/
theorem Zone.resumes.aside (h : z.resumes cfg d z₁) (laneOf : z₁.laneOf cfg d = z.laneOf cfg d) (k : z₁.Aside cfg d z') :
    z.resumes cfg d z' := by
  obtain ⟨other, noEnd, home, away, opens⟩ := h
  unfold Zone.resumes
  dsimp only
  rw [k.channel]
  refine ⟨other, noEnd, home, away, fun a hs => ?_⟩
  obtain ⟨waits, released, holds⟩ := opens a hs
  refine ⟨waits, released, fun there hr => ?_⟩
  obtain ⟨expired, cabin, gate⟩ := holds there hr
  refine ⟨expired, cabin, fun e isGate => ?_⟩
  obtain ⟨alone, lane⟩ := gate e isGate
  refine ⟨alone, fun l named => ?_⟩
  rw [k.lane l (laneOf.trans named)]
  exact lane l named

/-! ## One monitor -/

/-- The rail mask recovers the group: its monitor is in UNDERVOLTAGE and no fault has latched it. -/
abbrev Zone.recovers (z : Zone) (g : Grp) : Prop := (z.groups.get g).rail = .undervoltage ∧ (z.groups.get g).latch = false

/-- The protection of a group that the rail mask reaches and does not recover. -/
def Group.masked (x : Group) : Group := if x.rail = .undervoltage then x.toGood else { x with railCount := 0 }

/-- The zone once the rail mask has moved the monitor of group `g`. -/
def Zone.maskRail (cfg : Setup) (g : Grp) (z : Zone) : Zone :=
  if z.recovers g then (z.setGroup g Group.masked).recover cfg g else z.setGroup g Group.masked

/-- The host link once the rail mask has moved the monitor of group `g`. -/
def Zone.tellRail (z : Zone) (k : Link) (g : Grp) : Link :=
  if z.recovers g ∧ (z.groups.get g).railSettled = true then k.notify (.fault g none .recovered) else k

theorem Zone.setGroup_congr {f f' : Group → Group} (same : f (z.groups.get g) = f' (z.groups.get g)) : z.setGroup g f = z.setGroup g f' := by
  unfold Zone.setGroup vmod
  rw [same]

theorem Group.masked_low {x : Group} (low : x.rail = .undervoltage) : x.masked = x.toGood := if_pos low

theorem State.railToGood_latched (latch : (s.zone.groups.get g).latch = true) :
    s.railToGood g = { s with zone := s.zone.setGroup g Group.toGood } := if_pos latch

theorem State.railToGood_recovers (free : (s.zone.groups.get g).latch = false) : s.railToGood g = { s with
    zone := (s.zone.setGroup g Group.toGood).recover s.setup g
    link := if (s.zone.groups.get g).railSettled = true then s.link.notify (.fault g none .recovered) else s.link } := by
  unfold State.railToGood State.recoverGroup
  dsimp only [State.onZone]
  rw [if_neg (by simp [free])]
  cases (s.zone.groups.get g).railSettled <;> rfl

theorem State.maskRail_eq (g : Grp) (s : State) :
    s.maskRail g = { s with zone := s.zone.maskRail s.setup g, link := s.zone.tellRail s.link g } := by
  unfold State.maskRail Zone.maskRail Zone.tellRail
  by_cases low : (s.zone.groups.get g).rail = .undervoltage
  · have moved : s.zone.setGroup g Group.masked = s.zone.setGroup g Group.toGood := Zone.setGroup_congr (Group.masked_low low)
    rw [if_pos low, moved]
    by_cases latch : (s.zone.groups.get g).latch = true
    · have stays : ¬s.zone.recovers g := fun h => Bool.false_ne_true (h.2.symm.trans latch)
      rw [State.railToGood_latched latch, if_neg stays, if_neg fun h => stays h.1]
    · have goes : s.zone.recovers g := ⟨low, Bool.eq_false_iff.mpr latch⟩
      rw [State.railToGood_recovers goes.2, if_pos goes]
      by_cases settled : (s.zone.groups.get g).railSettled = true
      · rw [if_pos settled, if_pos ⟨goes, settled⟩]
      · rw [if_neg settled, if_neg fun h => settled h.2]
  · have moved : s.zone.setGroup g Group.masked = s.zone.setGroup g (fun x => { x with railCount := 0 }) :=
      Zone.setGroup_congr (if_neg low)
    have stays : ¬s.zone.recovers g := fun h => low h.1
    rw [if_neg low, if_neg stays, if_neg fun h => stays h.1, moved]
    rfl

/-! ## What one monitor's move does -/

theorem Zone.setGroup_aside : z.Aside cfg d (z.setGroup g f) := ⟨rfl, rfl, fun _ _ => rfl⟩

/-- What the rail mask does to the groups and the channels, for the monitors of the groups `gs`. -/
structure Zone.RailsMasked (cfg : Setup) (gs : List Grp) (z z' : Zone) : Prop where
  masked : ∀ g ∈ gs, (z'.groups.get g).rail = .good ∧ (z'.groups.get g).railCount = 0 ∧
    (z'.groups.get g).latch = (z.groups.get g).latch
  ground : ∀ g, g ∉ gs → (z'.groups.get g).clear = (z.groups.get g).clear
  orderly : z.orderly → z'.orderly
  laneOf : z.orderly → ∀ d, z'.laneOf cfg d = z.laneOf cfg d
  aside : z.orderly → ∀ d, groupOf d ∉ gs ∨ ¬z.recovers (groupOf d) → z.Aside cfg d z'
  resumes : z.orderly → ∀ d, groupOf d ∈ gs → z.recovers (groupOf d) → z.resumes cfg d z'

theorem Group.masked_rail (x : Group) : x.masked.rail = .good := by
  unfold Group.masked
  split
  · rfl
  · next notLow =>
    cases rail : x.rail with
    | good => rfl
    | undervoltage => exact absurd rail notLow

theorem Group.masked_railCount (x : Group) : x.masked.railCount = 0 := by
  unfold Group.masked
  split
  · rfl
  · rfl

theorem Group.masked_keeps (x : Group) : x.masked.latch = x.latch ∧ x.masked.slot0 = x.slot0 ∧ x.masked.slot1 = x.slot1 ∧
    x.masked.queue = x.queue := by
  unfold Group.masked
  split
  · exact ⟨rfl, rfl, rfl, rfl⟩
  · exact ⟨rfl, rfl, rfl, rfl⟩

theorem Zone.setGroup_masked_orderly (o : z.orderly) : (z.setGroup g Group.masked).orderly :=
  (Zone.Keeps.setGroup (E := False) (cfg := .default) (g := g) (f := Group.masked) (fun x => x.masked_keeps.2.1)
    (fun x => x.masked_keeps.2.2.1) (fun x => x.masked_keeps.2.2.2)).orderly o

theorem Zone.maskRail_ground (h : Grp) : ((z.maskRail cfg g).groups.get h).clear = ((z.setGroup g Group.masked).groups.get h).clear := by
  unfold Zone.maskRail
  split
  · exact Zone.recover_ground.ground h
  · rfl

theorem Zone.maskRail_masked (g : Grp) (z : Zone) : z.RailsMasked cfg [g] (z.maskRail cfg g) := by
  have here : ((z.maskRail cfg g).groups.get g).clear = (z.groups.get g).masked.clear := by
    rw [Zone.maskRail_ground, Zone.setGroup_get_self]
  have set : z.orderly → (z.setGroup g Group.masked).orderly := Zone.setGroup_masked_orderly
  have stays (away : ¬z.recovers g) : z.maskRail cfg g = z.setGroup g Group.masked := if_neg away
  have goes (low : z.recovers g) : z.maskRail cfg g = (z.setGroup g Group.masked).recover cfg g := if_pos low
  have within (o : z.orderly) : (z.setGroup g Group.masked).Within cfg (fun d => groupOf d = g) g (z.maskRail cfg g) := by
    by_cases low : z.recovers g
    · rw [goes low]
      exact (set o).recover_within
    · rw [stays low]
      exact .refl _
  refine ⟨fun h hg => ?_, fun h hg => ?_, fun o => ?_, fun o d => (within o).laneOf d, fun o d hd => ?_, fun o d hd low => ?_⟩
  · obtain rfl := List.mem_singleton.mp hg
    have latch : ((z.maskRail cfg h).groups.get h).latch = (z.groups.get h).masked.latch := (congrArg Group.latch here :)
    exact ⟨(congrArg Group.rail here :).trans (Group.masked_rail _), (congrArg Group.railCount here :).trans (Group.masked_railCount _),
      latch.trans (Group.masked_keeps _).1⟩
  · rw [Zone.maskRail_ground, Zone.setGroup_get_other _ _ _ _ (by simpa using hg)]
  · by_cases low : z.recovers g
    · rw [goes low]
      exact (Zone.recover_keeps (E := False)).orderly (set o)
    · rw [stays low]
      exact set o
  · rcases hd with away | away
    · exact Zone.setGroup_aside.trans ((within o).aside (by simpa using away))
    · by_cases own : groupOf d = g
      · rw [stays (own ▸ away)]
        exact Zone.setGroup_aside
      · exact Zone.setGroup_aside.trans ((within o).aside own)
  · have own : groupOf d = g := List.mem_singleton.mp hd
    have inhibited : ((z.setGroup g Group.masked).groups.get g).inhibited = false := by
      rw [Zone.setGroup_get_self]
      unfold Group.inhibited
      rw [Group.masked_rail, (Group.masked_keeps _).1, (own ▸ low : z.recovers g).2]
      rfl
    rw [goes (own ▸ low)]
    exact Zone.setGroup_aside.granted.resumes ((set o).recover_resumes inhibited own)

theorem Zone.recovers_congr (same : (z₁.groups.get g).clear = (z.groups.get g).clear) : z₁.recovers g ↔ z.recovers g := by
  have rail : (z₁.groups.get g).rail = (z.groups.get g).rail := (congrArg Group.rail same :)
  have latch : (z₁.groups.get g).latch = (z.groups.get g).latch := (congrArg Group.latch same :)
  unfold Zone.recovers
  rw [rail, latch]

theorem Zone.tellRail_congr (same : (z₁.groups.get g).clear = (z.groups.get g).clear) (k : Link) : z₁.tellRail k g = z.tellRail k g := by
  have settled : (z₁.groups.get g).railSettled = (z.groups.get g).railSettled := (congrArg Group.railSettled same :)
  unfold Zone.tellRail
  simp only [Zone.recovers_congr same, settled]

/-- The monitors of the other groups move after that of group `g`. -/
theorem Zone.RailsMasked.cons (new : g ∉ gs) (first : z.RailsMasked cfg [g] z₁) (rest : z₁.RailsMasked cfg gs z') :
    z.RailsMasked cfg (g :: gs) z' := by
  have same {h : Grp} (away : h ≠ g) : (z₁.groups.get h).clear = (z.groups.get h).clear := first.ground h (by simpa using away)
  have away {h : Grp} (hh : h ∈ gs) : h ≠ g := fun e => new (e ▸ hh)
  refine ⟨fun h hh => ?_, fun h hh => ?_, fun o => rest.orderly (first.orderly o),
    fun o d => (rest.laneOf (first.orderly o) d).trans (first.laneOf o d), fun o d hd => ?_, fun o d hd low => ?_⟩
  · rcases List.mem_cons.mp hh with rfl | hh
    · obtain ⟨rail, count, latch⟩ := first.masked h (by simp)
      have kept := rest.ground h new
      have rail' : (z'.groups.get h).rail = (z₁.groups.get h).rail := (congrArg Group.rail kept :)
      have count' : (z'.groups.get h).railCount = (z₁.groups.get h).railCount := (congrArg Group.railCount kept :)
      have latch' : (z'.groups.get h).latch = (z₁.groups.get h).latch := (congrArg Group.latch kept :)
      exact ⟨rail'.trans rail, count'.trans count, latch'.trans latch⟩
    · obtain ⟨rail, count, latch⟩ := rest.masked h hh
      have latch' : (z₁.groups.get h).latch = (z.groups.get h).latch := (congrArg Group.latch (same (away hh)) :)
      exact ⟨rail, count, latch.trans latch'⟩
  · obtain ⟨other, absent⟩ := not_or.mp (mt List.mem_cons.mpr hh)
    exact (rest.ground h absent).trans (same other)
  · by_cases own : groupOf d = g
    · have idle : ¬z.recovers (groupOf d) := hd.resolve_left (by simp [own])
      exact (first.aside o d (.inr idle)).trans (rest.aside (first.orderly o) d (.inl (own ▸ new)))
    · refine (first.aside o d (.inl (by simpa using own))).trans (rest.aside (first.orderly o) d (hd.imp ?_ ?_))
      · exact fun absent hd => absent (List.mem_cons_of_mem _ hd)
      · exact fun idle low => idle ((Zone.recovers_congr (same own)).mp low)
  · by_cases own : groupOf d = g
    · refine Zone.resumes.aside (first.resumes o d (by simp [own]) low) (first.laneOf o d) ?_
      exact rest.aside (first.orderly o) d (.inl (own ▸ new))
    · refine (first.aside o d (.inl (by simpa using own))).granted.resumes ?_
      exact rest.resumes (first.orderly o) d ((List.mem_cons.mp hd).resolve_left own) ((Zone.recovers_congr (same own)).mpr low)

/-! ## All the monitors -/

theorem State.maskRails_spec (gs : List Grp) (apart : gs.Nodup) (s : State) :
    let t := gs.foldl (fun s g => s.maskRail g) s
    t = { s with zone := t.zone, link := t.link } ∧ t.link = gs.foldl s.zone.tellRail s.link ∧ s.zone.RailsMasked s.setup gs t.zone := by
  induction gs generalizing s with
  | nil => exact ⟨rfl, rfl, by simp, fun _ _ => rfl, id, fun _ _ => rfl, fun _ _ _ => .refl _, by simp⟩
  | cons g gs ih =>
    obtain ⟨new, apart⟩ := List.nodup_cons.mp apart
    have first := s.zone.maskRail_masked (cfg := s.setup) g
    obtain ⟨frame, link, rest⟩ := ih apart (s.maskRail g)
    rw [State.maskRail_eq] at frame link rest
    dsimp only [List.foldl_cons]
    rw [State.maskRail_eq]
    refine ⟨frame, link.trans (List.foldl_ext _ _ _ fun k h hh => ?_), first.cons new rest⟩
    exact Zone.tellRail_congr (first.ground h (by simpa using fun e : h = g => new (e ▸ hh))) k

end Sys2Proof.Machine
end

section
/-! SETUP CHANNEL: what a record of the same kind and one of another kind do to the channel (R47, R57, R67). -/

namespace Sys2Proof.Machine

variable {s u : State} {cfg : Setup} {c d : Chan} {z z₁ z' : Zone} {pins : Pins} {old : ChanSetup} {st : ChanState} {P : Channel → Prop}

/-! ## A record of the same kind -/

/-- The two records read the inputs of the channel alike. -/
def ChanSetup.readsAs (x old : ChanSetup) : Prop := x.mode = old.mode ∧ x.contactHigh = old.contactHigh ∧ x.privacyHigh = old.privacyHigh

theorem Zone.reconfigure_still (same : (cfg.channels.get c).kind = old.kind)
    (reads : (cfg.channels.get c).kind = .none ∨ (cfg.channels.get c).readsAs old) : z.reconfigure cfg pins old c = z := by
  unfold Zone.reconfigure
  dsimp only
  refine (if_neg (not_not.mpr same)).trans (if_neg ?_)
  rintro ⟨used, differs⟩
  rcases reads with none | ⟨mode, contact, privacy⟩
  · exact used none
  · simp [mode, contact, privacy] at differs

theorem Zone.reconfigure_requalifies (same : (cfg.channels.get c).kind = old.kind) (used : (cfg.channels.get c).kind ≠ .none)
    (differs : ¬(cfg.channels.get c).readsAs old) : z.reconfigure cfg pins old c = z.setChan c (·.requalify cfg pins c) := by
  unfold Zone.reconfigure
  dsimp only
  refine (if_neg (not_not.mpr same)).trans (if_pos ⟨used, ?_⟩)
  by_contra alike
  simp only [not_or, not_not] at alike
  exact differs alike

/-- The inputs of a channel taken from their levels, by whether it stands open under a watched door. -/
theorem Channel.requalify_eq {x : ChanSetup} {ch : Channel} (record : cfg.channels.get c = x) :
    let contact := pins.contact.get c == x.contactHigh
    let watched := ch.state.isOpenHold = true ∧ x.kind = .cabin ∧ x.mode = .level ∧ contact = true
    ch.requalify cfg pins c = { ch with
      contact := contact
      privacy := x.kind == ChanKind.cabin && pins.privacy.get c == x.privacyHigh
      contactQual := none
      privacyQual := none
      doorHeld := if ¬watched then none
        else if ch.doorHeld ≠ none ∨ ch.heldReported = true then ch.doorHeld
        else some (cfg.timing.doorHeld * 1000)
      heldReported := decide watched && ch.heldReported } := by
  intro contact watched
  subst record
  have watches : (ch.state.isOpenHold && cfg.watched c && contact) = decide watched := by
    rw [Bool.eq_iff_iff]
    simp [watched, Setup.watched, and_assoc]
  unfold Channel.requalify
  dsimp only
  rw [watches]
  by_cases open_ : watched
  · rw [if_pos (decide_eq_true open_), if_neg (not_not.mpr open_)]
    simp only [Bool.or_eq_true, Option.isSome_iff_ne_none, contact]
  · rw [if_neg (by simp [open_]), if_pos open_]

/-! ## A record of another kind -/

theorem Zone.changesAround.trans (h : z.changesAround cfg c z₁) (k : z₁.changesAround cfg c z')
    (queue : ∀ d ∈ (z₁.groups.get (groupOf c)).queue, d ∈ c :: (z.groups.get (groupOf c)).queue)
    (laneOf : ∀ d, z₁.laneOf cfg d = z.laneOf cfg d) : z.changesAround cfg c z' := by
  obtain ⟨channels, groups, lanes⟩ := h
  obtain ⟨channels', groups', lanes'⟩ := k
  have near (d : Chan) (hd : d ∈ c :: (z₁.groups.get (groupOf c)).queue) : d ∈ c :: (z.groups.get (groupOf c)).queue := by
    rcases List.mem_cons.mp hd with rfl | hd
    · exact List.mem_cons_self
    · exact queue d hd
  refine ⟨fun d hd => (channels' d (mt (near d) hd)).trans (channels d hd), fun g hg => (groups' g hg).trans (groups g hg), fun l hl => ?_⟩
  exact (lanes' l fun d hd => by rw [laneOf]; exact hl d (near d hd)).trans (lanes l hl)

theorem Zone.Hands.place (lasting : Channel.Lasting cfg P) : z.Hands P (z.place cfg c) := by
  unfold Zone.place
  split
  · exact .enter lasting
  · split
    · exact .enter lasting
    · exact fun d hd => Zone.Hands.settle lasting d (Zone.Hands.hold lasting d hd)

/-- Putting a channel OFF is an operation of the channel alone, and its arbiter. -/
theorem Zone.orderly.putOff_within (o : z.orderly) : z.Within cfg (z.near c) (groupOf c) (z.putOff cfg c) := by
  have alone : z.By cfg c (((z.leave c).enter cfg c .off).setChan c (fun ch =>
      { ch with privacy := false, contactQual := none, privacyQual := none })) :=
    (Zone.By.leave.andThen .enter).andThen (.setChan ⟨rfl, rfl, rfl, rfl⟩)
  exact Zone.By.settled o alone

theorem Zone.orderly.putOff_orderly (o : z.orderly) : (z.putOff cfg c).orderly := Zone.putOff_settles.orderly o

/-- A channel that is OFF waits in no queue. -/
theorem Zone.orderly.off_unqueued (o : z.orderly) (off : (z.channels.get c).state = .off) : c ∉ (z.groups.get (groupOf c)).queue := by
  obtain ⟨-, waits, -⟩ := o
  intro queued
  have waiting := (waits _ c queued).2
  rw [off] at waiting
  exact absurd waiting (by simp [ChanState.waits])

/-- Placing a channel that waits for no slot, by its own operation and its arbiter. -/
theorem Zone.orderly.place_within (o : z.orderly) (used : cfg.inUse c = true) : z.Within cfg (z.near c) (groupOf c) (z.place cfg c) := by
  rw [Zone.place_used used]
  split
  · exact Zone.By.enter.near
  · exact Zone.By.settled o .hold

/-- What a SETUP CHANNEL of another kind does. -/
structure Zone.Reconfigured (cfg : Setup) (pins : Pins) (c : Chan) (z z' : Zone) : Prop where
  around : z.changesAround cfg c z'
  record : (z'.channels.get c).record = (z.channels.get c).record
  lockout : (z'.channels.get c).lockout = (z.channels.get c).lockout
  off : (cfg.channels.get c).kind = .none → (z'.channels.get c).state = .off ∧ c ∉ (z'.groups.get (groupOf c)).queue
  home : (cfg.channels.get c).kind ≠ .none → (z'.channels.get c).home = pins.home.get c
  withdrawn : (cfg.channels.get c).kind ≠ .none → (z'.channels.get c).withdrawn = pins.withdrawn.get c
  contact : (cfg.channels.get c).kind ≠ .none → (z'.channels.get c).contact = (pins.contact.get c == (cfg.channels.get c).contactHigh)
  privacy : (cfg.channels.get c).kind ≠ .none → (z'.channels.get c).privacy =
    ((cfg.channels.get c).kind == ChanKind.cabin && pins.privacy.get c == (cfg.channels.get c).privacyHigh)
  locked : (cfg.channels.get c).kind ≠ .none → pins.home.get c = true → (z'.channels.get c).state = .locked
  relocks : (cfg.channels.get c).kind ≠ .none → pins.home.get c = false →
    ∀ found : Zone, (found.channels.get c).contact = (pins.contact.get c == (cfg.channels.get c).contactHigh) →
      (found.channels.get c).home = false → found.relocking cfg c (z.groups.get (groupOf c)).inhibited (z'.channels.get c).state

theorem Channel.keeps_lasting (r : FaultRecord) (v : Bool) : Channel.Lasting cfg (fun ch => ch.record = r ∧ ch.lockout = v) :=
  fun _ _ _ h => ⟨h, h⟩

theorem Channel.privacy_lasting (v : Bool) : Channel.Lasting cfg (fun ch => ch.privacy = v) := fun _ _ _ h => ⟨h, h⟩

theorem Zone.putOff_hands (lasting : Channel.Lasting cfg P)
    (unread : ∀ ch, P ch → P { ch with privacy := false, contactQual := none, privacyQual := none }) : z.Hands P (z.putOff cfg c) := by
  intro d hd
  unfold Zone.putOff
  refine Zone.Hands.settle lasting d (Zone.Hands.setChan unread d (Zone.Hands.enter lasting d ?_))
  rw [Zone.leave_channels]
  exact hd

theorem Zone.orderly.reconfigure_reconfigured (o : z.orderly) (differs : (cfg.channels.get c).kind ≠ old.kind) :
    z.Reconfigured cfg pins c (z.reconfigure cfg pins old c) := by
  have within := o.putOff_within (cfg := cfg) (c := c)
  have ordered := o.putOff_orderly (cfg := cfg) (c := c)
  have off := Zone.putOff_off (cfg := cfg) (c := c) o
  have kept := Zone.putOff_hands (z := z) (c := c) (Channel.keeps_lasting (cfg := cfg) (z.channels.get c).record (z.channels.get c).lockout)
    (fun _ h => h) c ⟨rfl, rfl⟩
  have goes : z.reconfigure cfg pins old c = if (cfg.channels.get c).kind = .none then z.putOff cfg c
      else ((z.putOff cfg c).setChan c (·.readInputs cfg pins c)).place cfg c := if_pos differs
  rw [goes]
  by_cases none : (cfg.channels.get c).kind = .none
  · rw [if_pos none]
    exact ⟨within.around_self, kept.1, kept.2, fun _ => ⟨off, ordered.off_unqueued off⟩, fun h => absurd none h, fun h => absurd none h,
      fun h => absurd none h, fun h => absurd none h, fun h => absurd none h, fun h => absurd none h⟩
  · rw [if_neg none]
    have used : cfg.inUse c = true := by simpa [Setup.inUse, Setup.kind] using none
    have inhibited := within.inhibited
    have queue (d : Chan) (hd : d ∈ ((z.putOff cfg c).groups.get (groupOf c)).queue) : d ∈ c :: (z.groups.get (groupOf c)).queue := by
      by_cases near : z.near c d
      · exact List.mem_cons.mpr near
      · exact List.mem_cons_of_mem _ (within.queue d hd near)
    have laneOf := within.laneOf
    have around := within.around_self
    generalize z.putOff cfg c = w at ordered off kept inhibited queue laneOf around ⊢
    have apart := ordered.readInputs_apart (cfg := cfg) (pins := pins) off
    have read : (w.setChan c (·.readInputs cfg pins c)).orderly := ordered.setChan rfl
    have found : (w.setChan c (·.readInputs cfg pins c)).channels.get c = (w.channels.get c).readInputs cfg pins c := Zone.setChan_get_self _ _ _
    have places := read.place_within used
    have inputs := places.inputs c
    have lasts := Zone.Hands.place (z := w.setChan c (·.readInputs cfg pins c)) (c := c)
      (Channel.keeps_lasting (cfg := cfg) (z.channels.get c).record (z.channels.get c).lockout) c (by rw [found]; exact kept)
    rw [found] at inputs
    refine ⟨around.trans places.around_setChan queue laneOf, lasts.1, lasts.2, fun h => absurd h none, fun _ => inputs.home, fun _ => inputs.withdrawn,
      fun _ => inputs.contact, fun _ => ?_, fun _ there => ?_, fun _ away view contact home => ?_⟩
    · refine Zone.Hands.place (Channel.privacy_lasting _) c ?_
      rw [found]
      rfl
    · rw [Zone.place_used used, found, if_pos (show ((w.channels.get c).readInputs cfg pins c).home = true from there), Zone.enter_get_self]
      rfl
    · rw [Zone.place_used used, found, if_neg (by simp [Channel.readInputs, away])]
      have relocks := Zone.hold_expired_relocks (cfg := cfg) (c := c) (z := w.setChan c (·.readInputs cfg pins c)) (apart.hold.settle_granted (d := c))
      refine (Zone.relocking_iff_of_inputs ?_ ?_ _).mp (inhibited ▸ relocks)
      · rw [found, contact]
        rfl
      · rw [found, home]
        exact away

end Sys2Proof.Machine
end

section
/-! The obligation about the setup records. -/

namespace Sys2Proof.Machine

variable {s u v : State} {cfg : Setup} {c d : Chan} {g : Grp} {z z₁ z' : Zone} {f : Frame} {p : Policy} {tag : Octet} {body : List Octet}

theorem serveSetupPolicy_range (ht : tag ≠ 0) (size : body.length = 15) (unread : setupPolicyOf body = none) (u : State) :
    serveSetupPolicy tag body u = (u.relockTest, ⟨.range, []⟩) := by
  refine (framed_serves ht (decide_eq_true size)).trans ?_
  unfold zoned
  rw [unread] <;> rfl

theorem serveSetupPolicy_taken (ht : tag ≠ 0) (size : body.length = 15) (read : setupPolicyOf body = some p) (u : State) :
    serveSetupPolicy tag body u = ((u.writePolicy p).relockTest, ⟨.ok, []⟩) := by
  refine (framed_serves ht (decide_eq_true size)).trans ?_
  unfold zoned
  rw [read] <;> rfl

theorem State.writePolicy_unmasked (unmasked : p.railMask = false) (s : State) :
    s.writePolicy p = { s with setup := { s.setup with policy := p } } := if_neg (by simp [unmasked])

theorem State.writePolicy_masked (masked : p.railMask = true) (s : State) :
    s.writePolicy p = (List.finRange 4).foldl (fun s g => s.maskRail g) { s with setup := { s.setup with policy := p } } := if_pos masked

end Sys2Proof.Machine

namespace Sys2Proof.Status
open Sys2Proof.Machine

/-- Settles O58: record by record, each in the state in which its frame has arrived. -/
theorem setupRecordsAreWritten : Obligations.SetupRecordsAreWritten := by
  intro tag body s ht f inService refusal
  refine ⟨fun turn size => ?reader, fun turn size => ?lane, fun turn size => ?till, fun turn size => ?timing, fun turn size => ?policy,
    fun turn size => ?channel⟩
  case reader =>
    intro u
    obtain ⟨k, arrived⟩ := s.arrive_link (f 0x29)
    obtain ⟨range, taken⟩ := next_structural (record := setupReaderOf body) (write := State.writeReader) turn ht (decide_eq_true size)
    refine ⟨range, fun r role read => ⟨(taken _ read).1, fun takes => ((taken _ read).2 takes).trans ?_⟩⟩
    rw [show u = { s with link := k } from arrived, arrived]
    rfl
  case lane =>
    intro u
    obtain ⟨k, arrived⟩ := s.arrive_link (f 0x2B)
    obtain ⟨range, taken⟩ := next_structural (record := setupLaneOf body) (write := State.writeLane) turn ht (decide_eq_true size)
    refine ⟨range, fun l x read => ⟨(taken _ read).1, fun takes => ((taken _ read).2 takes).trans ?_⟩⟩
    rw [show u = { s with link := k } from arrived, arrived, State.writeLane_eq]
    rfl
  case till =>
    intro u
    obtain ⟨k, arrived⟩ := s.arrive_link (f 0x2C)
    obtain ⟨range, taken⟩ := next_structural (record := setupTillOf body) (write := State.writeTill) turn ht (decide_eq_true size)
    refine ⟨range, fun t x read => ⟨(taken _ read).1, fun takes => ((taken _ read).2 takes).trans ?_⟩⟩
    rw [show u = { s with link := k } from arrived, arrived]
    rfl
  case timing =>
    intro u
    obtain ⟨k, arrived⟩ := s.arrive_link (f 0x2D)
    refine ⟨fun unread => next_request turn (serveSetupTiming_range ht size unread _), fun t read => ⟨setupTimingOf_inRange read, ?_⟩⟩
    refine (next_request turn (serveSetupTiming_taken ht size read _)).trans ?_
    rw [show u = { s with link := k } from arrived, arrived]
  case policy =>
    intro u
    obtain ⟨k, arrived⟩ := s.arrive_link (f 0x2E)
    have same : u = { s with link := k } := arrived
    refine ⟨fun unread => next_request turn (serveSetupPolicy_range ht size unread _), fun p read => ⟨fun unmasked => ?_, fun masked => ?_⟩⟩
    · refine (next_request turn (serveSetupPolicy_taken ht size read _)).trans ?_
      rw [State.writePolicy_unmasked unmasked, same, arrived]
    · have writes := (next_request turn (serveSetupPolicy_taken ht size read _))
      rw [State.writePolicy_masked masked] at writes
      have spec := State.maskRails_spec (List.finRange 4) (List.nodup_finRange 4) { u with setup := { s.setup with policy := p } }
      rw [show (s.arrive ⟨0x2E, tag, body⟩) = { s with link := k } from arrived] at writes
      rw [same] at spec ⊢
      generalize (List.finRange 4).foldl (fun s g => State.maskRail g s) _ = t at writes spec
      obtain ⟨frame, link, rails⟩ := spec
      refine ⟨t, writes, ?_⟩
      intro cfg recovers
      refine ⟨frame, link, fun g => rails.masked g (List.mem_finRange g), fun orderly d => ⟨fun low => ?_, fun idle => ?_⟩⟩
      · exact rails.resumes orderly d (List.mem_finRange _) low
      · exact (rails.aside orderly d (.inr idle)).channel
  case channel =>
    intro u
    obtain ⟨k, arrived⟩ := s.arrive_link (f 0x2A)
    have same : u = { s with link := k } := arrived
    obtain ⟨range, taken⟩ := next_structural_zoned (record := setupChannelOf body) (write := State.writeChannel) turn ht (decide_eq_true size)
    refine ⟨range, fun c x read => ?_⟩
    intro old ch cfg contact watched
    obtain ⟨refused, takes⟩ := taken _ read
    have record : cfg.channels.get c = x := vget_vset_self _ _ _
    have writes : State.writeChannel (c, x) u = { u with setup := cfg, zone := s.zone.reconfigure cfg s.pins old c } := by
      rw [same]
      rfl
    refine ⟨refused, fun serves kind => ⟨fun reads => ?still, fun used differs => ?requalifies⟩, fun serves kind orderly => ?other⟩
    case still =>
      refine (takes serves).trans ?_
      rw [show State.writeChannel (c, x) (s.arrive (f 0x2A)) = _ from writes,
        Zone.reconfigure_still (by rw [record]; exact kind) (by rw [record]; exact reads), same]
    case requalifies =>
      refine (takes serves).trans ?_
      rw [show State.writeChannel (c, x) (s.arrive (f 0x2A)) = _ from writes,
        Zone.reconfigure_requalifies (by rw [record]; exact kind) (by rw [record]; exact used) (by rw [record]; exact differs)]
      exact congrArg (fun y : Channel => Host.Outcome.next
        (State.relockTest { u with setup := cfg, zone := { s.zone with channels := vset s.zone.channels c y } } |>.answered (f 0x2A) ⟨.ok, []⟩))
        (Channel.requalify_eq record)
    case other =>
      have spec := orderly.reconfigure_reconfigured (pins := s.pins) (cfg := cfg) (c := c) (old := old) (by rw [record]; exact kind)
      refine ⟨_, (takes serves).trans (congrArg (fun v : State => Host.Outcome.next (v.relockTest.answered (f 0x2A) ⟨.ok, []⟩)) writes), ?_⟩
      generalize s.zone.reconfigure cfg s.pins old c = z at spec
      obtain ⟨around, recordKept, lockout, off, home, withdrawn, contacts, privacy, locked, relocks⟩ := spec
      rw [record] at off home withdrawn contacts privacy locked relocks
      refine ⟨around, recordKept, lockout, off, fun used => ⟨home used, withdrawn used, contacts used, privacy used, locked used, fun away => ?_⟩⟩
      intro found
      have chan : found.channels.get c = { ch with contact := contact, home := false } := vget_vset_self _ _ _
      exact relocks used away found (by rw [chan]) (by rw [chan])

end Sys2Proof.Status
end
